-- ==== Sys2Proof/Word.lean ====
section
/-! DEFINITION. The word types of the device and the shape in which the model keeps sparse data.

A byte, a core register and the fuse words are bit vectors. Everything the manual counts (times,
counters, currents) is a `Nat` or an `Int`. Collections of like things (inputs, pair-table entries,
slots, memory cells) are kept as a `Table`: a list of keys and values in rising key order that
lists no entry equal to the table's default. -/

namespace Sys2Proof

/-- One byte, as it is carried on a transport or held in a memory. -/
abbrev Byte := BitVec 8

/-- One 32-bit register or memory word of a core (R286). -/
abbrev Word := BitVec 32

/-- Sparse data: keys strictly rising, no value equal to the default of the table. -/
abbrev Table (α : Type) := List (Nat × α)

/-- A byte memory: what is not listed reads as zero (log entry 5). -/
abbrev Mem := Table Byte

end Sys2Proof
end

