-- ==== Sys2Proof/Syntax.lean ====
section
/-! DEFINITION. The commands of the block: one constructor of `Instr` for each row of
spec/opcode_table.json, with the operands that the outside supplies (what was measured, received
or written, by whom, and when where the rule needs a time). Times named `t` are instants in ns of PLL A's count (log entry 91);
`tick` is an evaluation tick. A site is 0 to 6, and an element is named by its source number
(Table FC-2). -/

namespace Sys2Proof

/-- The two lanes of R17. -/
inductive Lane where
  | a
  | b
deriving DecidableEq, Repr, Inhabited

/-- The requester of an access: the transport code of Table AR-9 (1 HSPI, 2 CN0, 3 CN1, 4 KDP on
UDP), and for UDP the client's address and port (R140). -/
structure Requester where
  code : Nat := 1
  ip   : Nat := 0
  port : Nat := 0
deriving DecidableEq, Repr, Inhabited

/-- The outcome of sensing one fuse word at three references (Table SU-5). -/
inductive Sense where
  | accepted
  | corrected
  | marginal
  | uncorrectable
deriving DecidableEq, Repr, Inhabited

/-- What a sensing meets in the 39 fuses of one word (R94): `flips` are fuses that read otherwise than they were
blown at all three references, `weak` those whose three reads disagree. Bits 31 to 0 are the data fuses,
bits 38 to 32 the check fuses. -/
structure FuseDrift where
  word  : Nat
  flips : BitVec 39 := 0
  weak  : BitVec 39 := 0
deriving DecidableEq, Repr, Inhabited

/-- What the programming sequencer meets at one word of step 4 of R105: VHOLD and PFAIL_N before the word, where
they have changed, whether the word verifies, and whether RESET_N falls during its programming (R106). -/
structure FuseStep where
  vhold    : Option Nat := none
  pfailLow : Bool := false
  verified : Bool := true
  cut      : Bool := false
deriving DecidableEq, Repr, Inhabited

/-- What one site answers to the inventory (R103, R63): what the sensing of its fuse block meets, whether the C die
accepts its product code, and its VFLD_L. -/
structure SiteAnswer where
  site      : Nat
  drift     : List FuseDrift := []
  productOk : Bool := true
  vfldL     : Nat
deriving DecidableEq, Repr, Inhabited

/-- The C-die supply rails in mV (R61, R64). -/
structure Rails where
  vddc : Nat := 900
  vioc : Nat := 3300
  vion : Nat := 3300
  vaux : Nat := 3300
deriving DecidableEq, Repr, Inhabited

/-- A C-die supply of R64. -/
inductive Rail where
  | vddc
  | vioc
  | vaux
deriving DecidableEq, Repr, Inhabited

/-- What a logic BIST engine leaves (R364, R365): the responses compacted into its MISR, before the fold of the count, the
separate pattern count, and the duration in µs on the ESC clock. -/
structure BistResult where
  misr     : BitVec 64
  patterns : Nat
  duration : Nat
deriving DecidableEq, Repr, Inhabited

/-- One copy of the ONFI parameter page of a chip enable as it reads (R430, R431): whether its ONFI CRC matches, the
revision as 0x2A01:01 codes it, whether the part is SLC, x8 and asynchronous, its geometry, its highest timing mode, its
maximum program and erase times in µs, and its name. -/
structure ParamPage where
  crcOk       : Bool := true
  onfi        : Nat := 0x20
  slc8        : Bool := true
  pageSize    : Nat := 2048
  spare       : Nat := 64
  pagesPerBlk : Nat := 64
  blocks      : Nat := 4096
  timingMode  : Nat := 5
  tProg       : Nat := 300
  tBers       : Nat := 3000
  name        : List Byte := []
deriving DecidableEq, Repr, Inhabited

/-- What a chip enable answers to its reset and identification (R431): whether it answers, the three copies of its
parameter page, and its ID bytes. -/
structure CeReport where
  answers : Bool := true
  copies  : List ParamPage := [{}]
  id      : List Byte := []
deriving DecidableEq, Repr, Inhabited

/-- What the mount reads of the NAND part (R430, R431, R448 to R451): the chip enables; whether the part is formatted, and
the bad blocks of a part that another device formatted; the generations of the control tables and of the parameter backup
that fail their CRC; the image slots whose header, and whose validity page, fail theirs; the ring pages, by sequence number,
that are uncorrectable, and those that read otherwise than they were written; and whether a page after them was cut short. -/
structure MountReport where
  ce0         : CeReport := {}
  ce1         : Option CeReport := none
  formatted   : Bool := true
  badTable    : List Nat := []
  controlBad  : List Nat := []
  backupBad   : List Nat := []
  headerBad   : List Nat := []
  validityBad : List Nat := []
  pageBad     : List Nat := []
  altered     : List (Nat × List Byte) := []
  incomplete  : Bool := false
deriving DecidableEq, Repr, Inhabited

/-- How a program or erase of the NAND part ends by its status (R435, R443). -/
inductive NandEnd where
  | passed
  | programFailed
  | eraseFailed
deriving DecidableEq, Repr, Inhabited

/-- The bad-block marks of a block at format, where one is not 0xFF: byte 0 of the spare area of its first, second and
last page (R435). -/
structure BlockMark where
  block  : Nat
  first  : Byte := 0xFF
  second : Byte := 0xFF
  last   : Byte := 0xFF
deriving DecidableEq, Repr, Inhabited

/-- A KDP request after its frame has been accepted (Table OD-10). `trailer` holds the 16 trailer
bytes of R145, where the flags announce them. -/
structure KdpReq where
  version : Nat := 1
  op      : Nat := 1
  tag     : Nat := 0
  index   : Nat := 0
  sub     : Nat := 0
  data    : List Byte := []
  trailer : Option (List Byte) := none
deriving DecidableEq, Repr, Inhabited

/-- A block-transfer sub-command of CiA 301 (R130). -/
inductive BlockDown where
  | initiate (index sub : Nat) (crc : Bool) (size : Nat)
  | segment (seq : Nat) (last : Bool) (data : List Byte)
  | finish (unused : Nat) (crc : Nat)
deriving DecidableEq, Repr, Inhabited

/-- A block-upload sub-command of CiA 301 (R130). -/
inductive BlockUp where
  | initiate (index sub blksize : Nat) (crc : Bool)
  | start
  | response (ackseq blksize : Nat)
  | finish
deriving DecidableEq, Repr, Inhabited

/-- One 1,000 µs readback of an input: land voltage in mV, sink current in µA (R175). -/
structure InputReading where
  input : Nat
  land  : Nat
  sink  : Nat
deriving DecidableEq, Repr, Inhabited

/-- One 1,000 µs readback of a source: terminal voltage in mV, current in mA (R175). -/
structure SourceReading where
  source : Nat
  mv     : Nat
  ma     : Nat
deriving DecidableEq, Repr, Inhabited

/-- What the samples of an input show after the last sample tick of a pulse's width (Table IN-2): whether lane A has
three consecutive LOW samples up to 2 µs after the maximum width, and whether lane B is HIGH in the last sample tick
of the return allowance. -/
structure PulseCheck where
  input : Nat
  lowA  : Bool := true
  backB : Bool := false
deriving DecidableEq, Repr, Inhabited

/-- What the analog sense shows at a pulse (R165, R169): the measured time constant (`none` when the 37 % level was
not reached), whether the terminal is at or below 5 V, the other sources of the die that are on and whose current is
10 mA or more above that before the pulse, and the samples that follow the width. -/
structure PulseReading where
  tau        : Option Nat
  terminalOk : Bool
  partners   : List Nat
  checks     : List PulseCheck
deriving DecidableEq, Repr, Inhabited

/-- What the scan phase of a window finds (R237). -/
inductive ScanFinding where
  | clean
  | corrected (slot : Nat)
  | failed
deriving DecidableEq, Repr, Inhabited

/-- What one comparator set reads in the last sample tick of a dark test (R257, Table OU-3): path current in mA, land
voltage in 10 mV and voltage across the opened switch in mV; and for R260 the path current in mA in the tick before the
pulse, other outputs with the rise of their path current in mA, and other outputs with their land in 10 mV before and in
that tick. -/
structure DarkReading where
  ma       : Nat
  land     : Int
  across   : Nat
  before   : Nat := 0
  rising   : List (Nat × Nat) := []
  offFalls : List (Nat × Int × Int) := []
deriving DecidableEq, Repr, Inhabited

/-- The readings of a dark test by the two comparator sets of R257: the F die's and the island's. -/
structure DarkReadings where
  die    : DarkReading
  island : DarkReading
deriving DecidableEq, Repr, Inhabited

/-- What a status-link frame carries (R16, R255): the demands of lane B, bit by bit, and the announcements of tests as
pairs of an element and a switch. -/
structure StatusWord where
  demands  : Nat := 0
  announce : List (Nat × Nat) := []
deriving DecidableEq, Repr, Inhabited

/-- The path currents of R252 in mA: the sum over the outputs that a return serves, one of which is named, and the
return's own. -/
structure PmReading where
  output   : Nat
  sumMa    : Nat
  returnMa : Nat
deriving DecidableEq, Repr, Inhabited

/-- The path current of an output in mA (R253). -/
structure PathReading where
  output : Nat
  ma     : Nat
deriving DecidableEq, Repr, Inhabited

/-- The second operand of a register or immediate form. -/
inductive Src2 where
  | reg (rs2 : BitVec 5)
  | imm (v : BitVec 12)
deriving DecidableEq, Repr, Inhabited

/-- The forms that the ADD row covers. -/
inductive AddForm where
  | src (rs1 : BitVec 5) (b : Src2)
  | auipc (imm : BitVec 20)
deriving DecidableEq, Repr, Inhabited

/-- The conditions of the BRANCH row. -/
inductive Cond where
  | eq
  | ne
  | lt
  | ge
  | ltu
  | geu
deriving DecidableEq, Repr, Inhabited

/-- The forms of the MULTIPLY row. -/
inductive MulKind where
  | mul
  | mulh
  | mulhsu
  | mulhu
deriving DecidableEq, Repr, Inhabited

/-- The forms of the LOAD row. -/
inductive LoadKind where
  | lb
  | lh
  | lw
  | lbu
  | lhu
deriving DecidableEq, Repr, Inhabited

/-- The forms of the STORE row. -/
inductive StoreKind where
  | sb
  | sh
  | sw
deriving DecidableEq, Repr, Inhabited

/-- The operations of a CSR instruction. -/
inductive CsrOp where
  | rw
  | rs
  | rc
deriving DecidableEq, Repr, Inhabited

/-- The source of a CSR instruction. -/
inductive CsrSrc where
  | reg (rs1 : BitVec 5)
  | uimm (v : BitVec 5)
deriving DecidableEq, Repr, Inhabited

/-- JAL with its offset, or JALR with its base and offset. -/
inductive JumpForm where
  | jal (off : BitVec 21)
  | jalr (rs1 : BitVec 5) (off : BitVec 12)
deriving DecidableEq, Repr, Inhabited

/-- What a word read by a core, or by the scrub engine, shows under its SEC-DED code (R290). -/
inductive Ecc where
  | clean
  | corrected
  | uncorrectable
deriving DecidableEq, Repr, Inhabited

/-- A word under check bits (R290): of a TCM set by its address in the core's map, of a set's journal by the number of
its entry from the oldest, of the shared SRAM by its address in the core's map, or of one of the three copies of a
standby slot. -/
inductive Place where
  | tcm (set addr : Nat)
  | journal (set entry : Nat)
  | shared (addr : Nat)
  | slot (part copy : Nat)
deriving DecidableEq, Repr, Inhabited

/-- What a pass of the scrub meets (R290): the words it finds in error, by memory and address, and the errors that strike
words after it (log entry 82). -/
structure ScrubPass where
  found : List (Nat × Nat × Ecc) := []
  later : List (Place × Ecc) := []
deriving DecidableEq, Repr, Inhabited

/-- What the checkpoint compare of R298 and R302 shows besides the state words themselves: whether
the comparator and the skew-parity checkers reported the injected chime. -/
structure ChimeSeen where
  comparator : Bool
  skew       : Bool
deriving DecidableEq, Repr, Inhabited

/-- A report of a checker (R339): code, source, second source, the eight detail bytes as one number
(byte 20 least significant), whether the condition lasts, the time of detection, and whether the check was made under
an injection. -/
structure Report where
  code    : Nat
  source  : Nat
  second  : Nat := 0xFFFF
  detail  : Nat := 0
  lasting : Bool := true
  time    : Nat := 0
  injected : Bool := false
deriving DecidableEq, Repr, Inhabited

/-- The PTP messages that a transparent clock tells apart (R389). -/
inductive PtpKind where
  | sync
  | followUp
  | delayReq
  | delayResp
  | other
deriving DecidableEq, Repr, Inhabited

/-- A PTP message (R389): kind, domain, the identity of the port that sent the event message (in a Delay_Resp, of the port
that requested it), sequence number, the timestamp it carries in ns, and its correction field in ns. -/
structure PtpMsg where
  kind       : PtpKind := .other
  domain     : Nat := 0
  source     : Nat := 0
  seq        : Nat := 0
  time       : Nat := 0
  correction : Int := 0
deriving DecidableEq, Repr, Inhabited

/-- What an Ethernet frame carries above its addresses. -/
inductive EthKind where
  | arp (request : Bool) (senderIp senderMac targetIp : Nat)
  | icmpEcho (srcIp : Nat)
  | kdp (srcIp srcPort dstPort : Nat) (fragment : Bool) (payload : List Byte)
  | genxon (telegram : List Byte)
  | ptp (m : PtpMsg)
  | supervision
  | other
deriving DecidableEq, Repr, Inhabited

/-- An Ethernet frame as a port receives it: MAC addresses, length in bytes, the priority and VID of its VLAN tag, the
sequence number of its PRP trailer or HSR tag, whether the frame check passed, its content, and the instant of its receipt,
plus 1, which the port stamps itself (R389); 0 in a frame of the station. -/
structure EthFrame where
  dst     : Nat
  src     : Nat
  length  : Nat := 64
  pcp     : Option Nat := none
  vid     : Nat := 0
  arrived : Nat := 0
  redSeq  : Option Nat := none
  crcOk   : Bool := true
  content : EthKind
deriving DecidableEq, Repr, Inhabited

/-- The status of one PHY as MDIO reads it (R382): link, speed code of Table NW-8, half duplex. -/
structure PhyStatus where
  port  : Nat
  up    : Bool
  speed : Nat
  half  : Bool
deriving DecidableEq, Repr, Inhabited

/-- A link hello (R396). -/
structure Hello where
  domain : Nat
  device : Nat
  link   : Nat
  serial : Nat
deriving DecidableEq, Repr, Inhabited

/-- What a calibration shows: the path current of the element in mA, and whether the correction is within
tolerance (R374, R375). -/
structure Calibrated where
  ma : Nat
  ok : Bool
deriving DecidableEq, Repr, Inhabited

/-- The end of an operation of the NAND part: how it ends, and the logical block that it concerned. -/
structure NandEnding where
  what  : NandEnd := .passed
  block : Nat := 0
deriving DecidableEq, Repr, Inhabited

/-- A pulse at a PPS input: the instant of its rising edge and its width, in ns (R467). -/
structure PpsPulse where
  t     : Nat
  width : Nat
deriving DecidableEq, Repr, Inhabited

/-- The header of a PTP message that a station sends or receives (R389): domain, sequence number, the identity of the port
that sent it, and its correction field in ns. -/
structure PtpHeader where
  domain     : Nat := 0
  seq        : Nat := 0
  source     : Nat := 0
  correction : Int := 0
deriving DecidableEq, Repr, Inhabited

/-- How the state of a TAP or of a PTP port is told to the device: sent or received. -/
inductive Dir where
  | sent
  | received
deriving DecidableEq, Repr, Inhabited

/-- A producer's record for the Ledger (Table LG-5): type, rank, source, code, data bytes and the
fault class under which a loss is counted. -/
structure LedgerRec where
  time   : Nat := 0
  type   : Nat
  rank   : Nat
  source : Nat := 0xFFFF
  code   : Nat := 0
  data   : List Byte := []
deriving DecidableEq, Repr, Inhabited

/-- The commands of the block. Each constructor is the row of spec/opcode_table.json of the same
name; the rule that governs it is cited at its meaning. -/
inductive Instr where
  -- reset, startup and power
  | powerUp
  | resetNFall
  | resetExit (nvsel33 : Bool)
  | fuseSenseComplete (found : List FuseDrift)
  | fDieInventoryComplete (pllsOk : Bool) (answers : List SiteAnswer)
  | startupLogicBistComplete (pass clocksOk : Bool) (rails : Rails)
  | startupMemoryBistComplete (pass : Bool) (identity : Option (List Byte))
  | nandMount (report : MountReport)
  | imageReadComplete
  | signatureVerificationComplete
  | readbackAndLockComplete (readbackOk : Bool) (identity : Option (List Byte))
  | startupStepTimeout
  | cSupplyMonitorTrip (rail : Rail) (mv : Nat)
  | vfldLTrip (site mv : Nat)
  | vfldLTripEnd (site mv : Nat)
  | vioNFault (mv : Nat)
  | pfailNLow
  | dieTemperatureWarning (die : Nat) (deciC : Int)
  | fDieOvertemperature (site : Nat) (deciC : Int)
  | cDieOvertemperature (deciC : Int)
  | vholdShortDetected (mv : Nat)
  | vholdLow (mv : Nat)
  | holdupExhausted
  | tapStateChange
  -- in-package connections
  | enableFrame (site word : Nat) (polarity crcOk islandStatusOk : Bool) (announce : List (Nat × Nat))
  | enableFrameTimeout (site : Nat)
  | curfewStopDetected (site : Nat) (island : Bool)
  | statusLinkFrame (site seq : Nat) (crcOk toFDie : Bool) (word : StatusWord)
  | sharedSignalSegment (die src tick bits : Nat) (crcOk : Bool)
  | segmentThirdFailure (die src : Nat)
  | ringBroken (before after : Nat)
  | fEscapementResponse (site value elapsed : Nat)
  | fEscapementMissed (site : Nat)
  | lockedMemoryWrite (index sub : Nat)
  -- device state
  | requestSafe (r : Requester)
  | requestRun (r : Requester)
  | requestConfigure (r : Requester)
  | requestMaintenance (r : Requester)
  | runEntry
  | laneAgreementTimeout (element : Nat)
  | pairLaneDisagreement (entry : Nat)
  -- dictionary and transports
  | kdpRead (r : Requester) (q : KdpReq)
  | kdpWrite (r : Requester) (q : KdpReq)
  | kdpReadMulti (r : Requester) (q : KdpReq)
  | kdpSubscribe (r : Requester) (q : KdpReq)
  | subscriptionNotification (slot : Nat) (coalesced : Bool)
  | subscriptionLapse (slot : Nat)
  | sessionChallenge (r : Requester) (kind : Nat) (nonce : Option (List Byte))
  | clientNonceWrite (r : Requester) (nonce : List Byte)
  | sessionAnswer (r : Requester) (mac : List Byte)
  | sessionClose (r : Requester)
  | challengeExpiry
  | lockoutEnd
  | sessionTimeout
  | hspiWriteRequest (frame : List Byte)
  | hspiReadResponse
  | hspiReadStatus
  | hspiUnknownCommand (cmd : Nat)
  | sdoInitiateDownload (port index sub : Nat) (expedited : Bool) (size : Nat) (data : List Byte)
  | sdoDownloadSegment (port : Nat) (toggle last : Bool) (data : List Byte)
  | sdoInitiateUpload (port index sub : Nat)
  | sdoUploadSegment (port : Nat) (toggle : Bool)
  | sdoBlockDownload (port : Nat) (c : BlockDown)
  | sdoBlockUpload (port : Nat) (c : BlockUp)
  | sdoAbortTransfer (port code : Nat)
  | sdoTimeout (port : Nat)
  | objectWrite (r : Requester) (index sub : Nat) (data : List Byte)
  | imageStagingWrite (r : Requester) (offset : Nat) (data : List Byte)
  | parameterStagingWrite (r : Requester) (index sub : Nat) (data : List Byte)
  | imageCommit (r : Requester) (badMemory : Option Nat)
  | imageSlotWritten (writeOk readbackOk : Bool) (words : List FuseStep)
  | commitComplete (programOk : Bool) (identity : Option (List Byte))
  | parameterCommit (r : Requester)
  | parameterCommitComplete (readbackOk : Bool)
  | discardStaging (r : Requester)
  -- field inputs and test pulses
  | filteredChange (site input : Nat) (lane : Lane) (t : Nat)
  | ossdOff (site input : Nat) (lane : Lane) (t : Nat)
  | inputOvervoltage (site input : Nat)
  | laneInputDisagreement (site input : Nat)
  | testPulseStart (site source t : Nat)
  | testPulseEvaluation (site source : Nat) (reading : PulseReading)
  | sourceCurrentLimit (site source : Nat)
  | sourceRetry (site source : Nat)
  | readbackUpdate (site : Nat) (inputs : List InputReading) (sources : List SourceReading)
  | readbackCalibration (site : Nat) (withinTolerance : Bool)
  | plausibilityFault (site input : Nat) (lane : Lane)
  | transitionRegionFault (site input : Nat)
  | nextEventRead (r : Requester) (site : Nat)
  -- pairs, reset buttons and doors
  | discrepancyDeadline (entry : Nat) (lane : Lane)
  | samplingStartHoldEnd (entry : Nat) (lane : Lane) (t : Nat)
  | resetPressOverlong (entry : Nat) (lane : Lane)
  | resetButtonStuck (entry : Nat)
  | resetStuckLift (entry : Nat)
  -- function block array
  | evaluationWindow (site tick : Nat) (upset : Option Nat) (scan : ScanFinding)
  | windowOverrun (site : Nat)
  | blockTimerExpiry (site slot tick : Nat)
  | edmTimeout (site slot tick : Nat)
  | islandStatusInvalid (site : Nat)
  | brakePullInElapsed (site slot tick : Nat)
  | arrayBistStart (site : Nat)
  | arrayBistEnd (site tick : Nat) (result : BistResult) (restoreOk : Bool)
  -- outputs, returns, supplies and brakes
  | outputCurrentLimit (site output : Nat)
  | returnCurrentLimit (site ret : Nat)
  | groupCurrentMean (site group sum : Nat)
  | externalFeed (site output : Nat) (land : Int)
  | externalFeedGone (site output : Nat) (land : Int)
  | pmCurrentMismatch (site : Nat) (reading : PmReading)
  | minimumLoad (site : Nat) (reading : PathReading)
  | darkTestStart (element t : Nat)
  | darkTestEvaluation (element : Nat) (readings : DarkReadings)
  | lightTestStart (site output t : Nat)
  | lightTestEvaluation (site output : Nat) (land : Int)
  | groupSupplyWarning (site supply mv : Nat)
  | groupSupplyUndervoltage (site supply mv : Nat)
  | groupSupplyOvervoltage (site supply mv : Nat)
  | groupSupplyPresent (site supply mv : Nat)
  | learnedValuePersist
  | coilOpen (site brake : Nat)
  | coilOvercurrent (site brake ma : Nat)
  | holdingCurrentFault (site brake ma : Nat)
  | signatureDecision (site brake : Nat) (samples : List Nat)
  | mechanicalTestPhaseEnd (site brake : Nat)
  | mechanicalTestOverdue (site brake : Nat)
  | relearn (r : Requester) (index : Nat)
  -- processor lane: instructions of the cores
  | add (core : Nat) (compressed : Bool) (rd : BitVec 5) (f : AddForm)
  | sub (core : Nat) (compressed : Bool) (rd rs1 rs2 : BitVec 5)
  | and (core : Nat) (compressed : Bool) (rd rs1 : BitVec 5) (b : Src2)
  | or (core : Nat) (compressed : Bool) (rd rs1 : BitVec 5) (b : Src2)
  | xor (core : Nat) (compressed : Bool) (rd rs1 : BitVec 5) (b : Src2)
  | sll (core : Nat) (compressed : Bool) (rd rs1 : BitVec 5) (b : Src2)
  | srl (core : Nat) (compressed : Bool) (rd rs1 : BitVec 5) (b : Src2)
  | sra (core : Nat) (compressed : Bool) (rd rs1 : BitVec 5) (b : Src2)
  | slt (core : Nat) (compressed unsigned : Bool) (rd rs1 : BitVec 5) (b : Src2)
  | branch (core : Nat) (compressed : Bool) (c : Cond) (rs1 rs2 : BitVec 5) (off : BitVec 13)
  | multiply (core : Nat) (k : MulKind) (rd rs1 rs2 : BitVec 5)
  | divide (core : Nat) (unsigned : Bool) (rd rs1 rs2 : BitVec 5)
  | remainder (core : Nat) (unsigned : Bool) (rd rs1 rs2 : BitVec 5)
  | load (core : Nat) (compressed : Bool) (k : LoadKind) (rd rs1 : BitVec 5) (off : BitVec 12) (ecc : Ecc)
  | store (core : Nat) (compressed : Bool) (k : StoreKind) (rs1 rs2 : BitVec 5) (off : BitVec 12)
  | csrAccess (core : Nat) (op : CsrOp) (csr : BitVec 12) (rd : BitVec 5) (src : CsrSrc)
  | fence (core : Nat)
  | fenceI (core : Nat)
  | ecall (core : Nat)
  | ebreak (core : Nat) (compressed : Bool)
  | jump (core : Nat) (compressed : Bool) (rd : BitVec 5) (f : JumpForm)
  | lui (core : Nat) (compressed : Bool) (rd : BitVec 5) (imm : BitVec 20)
  | illegalInstruction (core : Nat) (encoding : Word)
  -- processor lane: checkpoints and faults
  | checkpoint (core : Nat) (seen : ChimeSeen)
  | busMismatch (core t : Nat)
  | skewParityError (core t : Nat)
  | comparatorRailFault (core : Nat)
  | memoryScrub (pass : ScrubPass)
  | plannedHandover (partition : Nat)
  | safetyCycleBoundary (t : Nat)
  | escapementWindowMissed (partition : Nat)
  -- fault collection
  | faultReport (rep : Report)
  | faultRecordCommit (t : Nat)
  | quietPeriodEnd (seq : Nat)
  | acknowledge (r : Requester) (value : Nat)
  | clearHistory (r : Requester)
  | releaseFirstFault (r : Requester)
  | faultRecordRead (r : Requester) (index sub : Nat)
  | chimeRound (missed : List Nat)
  | faultInjectionStart (r : Requester)
  | faultInjection (detected : Bool)
  | resetRecoveryCounter (r : Requester) (cls : Nat)
  -- self-test
  | itemEligible (item : Nat)
  | rotationStep
  | coreBistComplete (core : Nat) (result : BistResult)
  | ts3MemoryBistStart
  | ts3MemoryBistComplete (pass : Bool)
  | calibration (element : Nat) (reading : Calibrated)
  | calibrationOverdue (element : Nat)
  | testOverdue (item : Nat)
  | testRequest (r : Requester) (item : Nat)
  -- Ethernet, PRP/HSR and PTP
  | phyStatusPoll (status : List PhyStatus)
  | portLinkChange (port : Nat) (up : Bool) (speed : Nat) (half : Bool)
  | ethernetFrameReceived (port : Nat) (frame : EthFrame)
  | arpRequest (station : Nat) (request : Bool) (senderIp senderMac targetIp : Nat)
  | arpEntryExpiry (station ip : Nat)
  | addressEntryAgeing (switch mac : Nat)
  | icmpEchoRequest (station srcIp : Nat)
  | frameTransmitComplete (port : Nat)
  | supervisionFrameSend (switch : Nat)
  | supervisionFrameReceived (port : Nat)
  | supervisionLoss (port : Nat)
  | duplicateEntryForget (switch mac seq : Nat)
  | ptpSync (port : Nat) (dir : Dir) (h : PtpHeader) (t : Nat)
  | ptpFollowUp (station : Nat) (h : PtpHeader) (origin : Nat) (logInterval : Int)
  | ptpDelayReq (port : Nat) (dir : Dir) (h : PtpHeader) (t : Nat)
  | ptpDelayResp (station : Nat) (h : PtpHeader) (received : Nat)
  | ptpPeerDelay (port domain t1 : Nat) (peer : Nat × Nat) (t4 : Nat)
  -- CAN
  | canFrameReceived (port id : Nat) (ext fd crcOk : Bool) (data : List Byte)
  | busOff (port : Nat)
  | busOffRecovery (port : Nat)
  | nmtStart (port node : Nat)
  | nmtStop (port node : Nat)
  | nmtEnterPreOperational (port node : Nat)
  | nmtResetCommunication (port node : Nat)
  | nmtResetNode (port node : Nat)
  | heartbeat
  -- Genxon links and Genxon Safe
  | linkSymbolLoss (link : Nat)
  | linkSynced (link : Nat)
  | helloSend (link : Nat)
  | helloReceived (link : Nat) (h : Hello)
  | helloTimeout (link : Nat)
  | linkFrameReceived (link : Nat) (frame : List Byte)
  | frameInterrupted (link : Nat)
  | telegramReceived (route : Nat) (bytes : List Byte) (t : Nat)
  | watchdogExpiry (connection : Nat)
  | pairingExchangeSend
  | pairedInputDisagreement (input : Nat)
  | pairingCheckSend
  -- auxiliary serial ports
  | spiTransferComplete (channel : Nat) (received : List Byte)
  | uartLedgerPage (uart : Nat)
  | uartStatusFrame (uart : Nat)
  | uartXoff (uart : Nat)
  | uartXon (uart : Nat)
  | streamStartWrite (r : Requester) (uart page : Nat)
  | temperatureSensorPoll (readings : List (Nat × Option Int))
  -- Ledger
  | ledgerRecord (rec : LedgerRec)
  | pageAgeSeal
  | holdupPageSeal
  | pageProgramComplete (ending : NandEnding)
  | nandBusyTimeout
  | format (r : Requester)
  | formatComplete (report : MountReport) (marks : List BlockMark)
  | parameterSetWrite
  | scrubPass (blocks bits : List Nat) (uncorrectable : Nat)
  | wearLevellingMove (logical : Nat)
  | operatingTimePersist
  | pinRequest (r : Requester)
  | pinCopyStart (pin : Nat)
  | releasePin (r : Requester) (pin : Nat)
  | ledgerPageRead (r : Requester) (worstBits : Nat)
  | pinnedPageRead (r : Requester) (worstBits : Nat)
  -- clocks and power domains
  | clockMonitorFault (domain site : Nat) (deviation : Int)
  | ppsEdge (pps : Nat) (pulse : PpsPulse)
  | ppsLost (pps : Nat)
  | ppsoSecond
  | timeSourceLost
  | holdoverLimit
  | setDeviceTime (r : Requester) (ns : Nat)
  | nextSecond (r : Requester) (ns : Nat)
  | alignmentFrame (site : Nat) (offset ratio : Int) (afterStep : Bool)
  | powerGoodTimeout (domain : Nat)
  -- performance monitors
  | eventSelectWrite (r : Requester) (core counter event : Nat)
  | counterWrite (r : Requester) (core sub value : Nat) (wrapping : Bool)
  | overflowFlagsWrite (r : Requester) (core value overflowing : Nat)
  | samplingIntervalWrite (r : Requester) (core interval : Nat)
  | clearSamples (r : Requester) (core : Nat)
  | resetStatistics (r : Requester)
  -- rows added at the end of the table
  | rawStateChange (site input : Nat) (levelA levelB : Bool) (t : Nat)
  | kdpUnknownOperation (r : Requester) (q : KdpReq)
  | commaAlignment (link : Nat)
  | jtagFuseProgram (words : List (Nat × Word)) (flags : List (Nat × Nat))
  | dieTemperatureClear (die : Nat) (deciC : Int)
  | vioNConditionGone (mv : Nat)
  | vholdCharged (mv : Nat)
  | groupSupplyWarningClear (site supply mv : Nat)
  | sourceRetryConditionGone (site source : Nat)
  | rollbackWindowExpiry (core : Nat)
  | summaryRecordWindow (rank : Nat)
deriving DecidableEq, Repr, Inhabited

end Sys2Proof
end

