-- ==== Sys2Proof/Config.lean ====
section
/-! DEFINITION. What the specification leaves to the part, to Pladal Studio or to nobody: the parsed
form of a configuration image, the constants of an implementation, and the free values. A free value
is an opaque constant: nothing in Lean can evaluate it, so a claim holds whatever it is. -/

namespace Sys2Proof

/-- A configuration image as the sequencer reads it (R107, R108, R111, R148). The manual gives the
container no byte layout, so the container is read by `Config.parseImage`; the DOMAINs inside it
(netlists, program) are kept as the bytes that Tables FB-5 and PL-7 lay out, and the fuse requests as the
8-byte entries that R104 lays out (`fuseBytes`). `nums` holds the numeric
srw values and `strs` the OCTET_STRING and DOMAIN ones, keyed by index·256 + subindex; `bounds` holds
what R148 declares. -/
structure Image where
  headerOk  : Bool := true
  format    : Nat := 0x0100
  security  : Nat := 0
  sites     : Nat := 0
  flags     : Nat := 0
  length    : Nat := 0
  build     : List Byte := []
  signed    : List Byte := []
  sections  : List Bool := []
  pubKey    : List Byte := []
  sigR      : Nat := 0
  sigS      : Nat := 0
  nums      : Table Nat := []
  strs      : Table (List Byte) := []
  bounds    : List (Nat × Nat × Nat) := []
  fuseBytes : List Byte := []
  pairDigest : List Byte := []
  connKeys  : Table (List Byte) := []
deriving DecidableEq, Repr, Inhabited

/-- The cycles an instruction waits beyond its two (R286, R475): for its fetch, for a loaded value, for
a bank slot, and for the multiplier or divider. -/
structure Stall where
  fetch : Nat := 0
  use   : Nat := 0
  bank  : Nat := 0
  busy  : Nat := 0
deriving DecidableEq, Repr, Inhabited

namespace Config

/-- How the bytes of an image container spell an image. The manual lays out what an image holds and
not where it lies (log entry 3). -/
opaque parseImage : List Byte → Image

/-- What option words 248 to 254 enable: whether they enable the capability of that ID. R93 says
that they do and not with which bits (log entry 4). -/
opaque optionEnabled : List Word → Nat → Bool

/-- The mask of the laser-link bank that secret words are stored under (R99). -/
opaque dieMask : BitVec 256

/-- The draws of the random source (R141, R404). -/
opaque freeRandom : Nat → BitVec 128

/-- The draws of the C-die escapement's challenge LFSR, whose polynomial R312 does not give. -/
opaque freeChallenge : Nat → Word

/-- The pseudo-random 0 to 63 of a jittered sampling interval (R479). -/
opaque freeJitter : Nat → BitVec 6

/-- The frequency adjustment in ppb that the proportional-integral loop of R464 yields; the manual
gives no gains. Its bound of R462 is applied where it is used. -/
opaque freeAdjustment : Nat → Int

/-- The outcome of the best master clock algorithm for a station (R389): 1 master, 2 slave, 3
passive. -/
opaque freePortRole : Nat → Fin 4

/-- The hardware version string of 0x1009 (Table OD-8). -/
opaque hardwareVersion : List Byte

/-- The control-path firmware version of 0x100A (Table OD-8). -/
opaque softwareVersion : List Byte

/-- The revision number of 0x1018:03 (Table OD-8). -/
opaque revision : Word

/-- The 32 seeds of the PRPG of an engine in its ROM: kind 0 core, 1 slot array (Table ST-1). The manual gives none of them
(log entry 108). -/
opaque bistSeed : Nat → Nat → BitVec 64

/-- The MISR of an engine with sound logic after the patterns of a seed (R364, log entry 108). -/
opaque bistMisr : Nat → Nat → BitVec 64

/-- How the controller folds the pattern count into the MISR (R364, log entry 108). -/
opaque bistFold : BitVec 64 → BitVec 16 → BitVec 64

/-- The voltage and clock readings that no command carries: a value of a monitor object in the range
its table gives (Table CK-7). -/
opaque freeReading : Nat → Nat → Nat

/-- Which code a failed status-link frame has: Table AR-2 gives its level and no chapter its code. -/
opaque statusLinkPick : BitVec 11

/-- The fault code of a failed status-link frame: a free one of a class of Table FC-1, among the detail bytes of 0x80
and above, which no table uses (R332, log entry 18). -/
def statusLinkCode : Nat := 0x100 * (1 + statusLinkPick.toNat / 128) + 0x80 + statusLinkPick.toNat % 128

/-- The coil currents in mA of a pull-in that ends before its decision, from the first of at least 50 mA, by draw: no
command carries them (Table OU-11). -/
opaque freeWave : Nat → List (BitVec 12)

/-- The partition whose standby slot the injected word of R358 meets, by draw: R357 injects into the checker. -/
opaque freePartition : Nat → Fin 3

/-- The detail data of a fault of R358 that the injected word leaves open, by draw: the address of 0x0802, the slot of
0x0501 (R333). -/
opaque freeDetail : Nat → Nat

/-- Which code of Table SU-9 a real error of the fuse shadow's ECC checker raises, by draw: no chapter gives it one
(R358, log entry 95). -/
opaque freeShadowFault : Nat → Fin 9

/-- Which code of the collector a test report raises that passes as a real one, by draw: no chapter says (R358, log entry
95). -/
opaque freeTestReport : Nat → Fin 2

/-- The 16-bit fields of a decoded instruction in the skew registers (R297): the manual gives their number and bits
to no table (log entry 81). -/
opaque decodedFields : Instr → List (BitVec 16)

/-- The serial of an F die, among the identity words 0 to 7 of its fuse block: R36 speaks of it and R103
does not say where it lies. -/
opaque dieSerial : List Word → Word

/-- How many steps an F-die escapement's LFSR makes between two services (R36). -/
opaque freeSteps : Nat → BitVec 16

/-- How long an instruction waits. The manual gives the pipeline and not its stalls (R286, R292). -/
opaque freeStall : Nat → Stall

/-- Core cycles of a checkpoint or a restore, of which R298 and Table PL-4 give bounds. -/
opaque freeRestore : Nat → Nat

/-- When the output stage hands a word over after a boundary, in ns, of which Table PL-6 gives bounds. -/
opaque freePublish : Nat → Nat

/-- The generator polynomial, less its leading term, of the BCH code over GF(2¹³) that corrects 8 errors: the manual names
the code and not its field polynomial (R434, log entry 107). -/
opaque bchGenerator : BitVec 104

/-- What the ID bytes of a part without a readable parameter page say of its blocks and its program and erase times: the
manual takes the geometry from the fourth byte, which holds none of these (R431, log entry 107). -/
opaque idBlocks : List (BitVec 8) → Nat
@[inherit_doc idBlocks] opaque idProg : List (BitVec 8) → Nat
@[inherit_doc idBlocks] opaque idBers : List (BitVec 8) → Nat

/-- The most corrected bits of a sector of a page that a transport reads: no command of a transport carries them. -/
opaque freeBits : Nat → Nat

/-- The choice of the 32 columns of the SEC-DED Hsiao code among the 35 of weight 3 (R90): the manual names the code
and not its matrix. -/
opaque hsiaoPick : Nat → Nat

/-- What a word whose programming failed senses as: marginal or uncorrectable (R105, R106). -/
opaque freeSense : Nat → Bool

/-- How many code violations a link receiver counts while its symbols are bad (Table NW-9, log entry 105). -/
opaque freeViolations : Nat → Nat

/-- The transmission errors that a frame meets on a CAN bus before it passes (R390, log entry 105). -/
opaque freeTxErrors : Nat → Nat

/-- The fuses that a failed or interrupted programming of a word leaves in doubt (R105, R106). -/
opaque freeFuses : Nat → BitVec 39

/-- What holds the device where a fuse sensing has not ended in time: one of 0x2, 0x3 and 0x4, as Table SU-2 has no
code for it (R86). -/
opaque freeHold : Nat → Fin 3

/-- The cause byte of a transition into RESET, which Table AR-9 does not list (R42, R50). -/
opaque resetCause : Byte

/-- The memory that fails the memory BIST of a commit, where no command says (R372); 0 none. -/
opaque freeBist : Nat → Nat

/-- The block size, less 1, that an SDO server asks for in a block download: 1 to 127 segments (R130). -/
opaque freeBlockSize : Nat → Fin 127

/-- The transfer time in µs of one page in a timing mode other than 5 (R446): mode and page size. -/
opaque pageTransfer : Nat → Nat → Nat

/-- What a read of the identity memory returns where no command says: its 128 bytes, or a failed read (R423). -/
opaque freeIdentity : Nat → Option (List Byte)

/-- What a trap leaves in mtval: R291 gives mcause and mepc only. -/
opaque freeTrapValue : Nat → Word

end Config

end Sys2Proof
end

