-- ==== Sys2Proof/Machine/State.lean ====
section
/-! DEFINITION. The state of the block: every register, buffer, counter, mode and pin that the manual
gives it, the queue of waiting commands, and the model's own counter of free values. Each field's
comment ends with its width, its rule and its value at reset, in brackets; a value at reset that the
manual does not give is a DESIGN CHOICE (log entries 6, 7, 8 and 21). Elements of a site are
keyed by their source number (Table FC-2): 0x0100·f + 0x00.. inputs, + 0x20.. sources, + 0x40..
outputs, + 0x50.. returns, + 0x60.. brakes, + 0x70.. supplies. -/

namespace Sys2Proof.Machine

/-- Why a run of the block could stop with a fault. -/
inductive Fault where
  /-- No meaning raises it: every command of this block has an effect. Safe. -/
  | none
deriving DecidableEq, Repr

/-- Why a command could be refused. -/
inductive Refusal where
  /-- The command has no meaning yet. Raised only by an arm of `exec` that rejects its command by
  name. Safe. -/
  | notModelled (mnemonic : String)
deriving DecidableEq, Repr

/-! ### Device state, startup and pins -/

/-- The nine device states of Table AR-6. -/
inductive DevState where
  | reset
  | fuseSense
  | startupTest
  | configLoad
  | safe
  | run
  | configure
  | maintenance
  | halt
deriving DecidableEq, Repr, Inhabited

/-- The startup step of Table SU-1 that is under way. -/
inductive StartStep where
  | none
  | fuseSense
  | inventory
  | logicBist
  | memoryBist
  | mount
  | imageRead
  | signature
  | readback
deriving DecidableEq, Repr, Inhabited

structure Ctl where
  /-- Device state. [9 states; R41; RESET] -/
  st : DevState := .reset
  /-- Supplies settled, released from the power-up hold. [1 bit; R62; no] -/
  released : Bool := false
  /-- RESET_N land recognised low. [1 bit; R81; high] -/
  resetNLow : Bool := false
  /-- Startup step under way. [9 values; R85; none] -/
  step : StartStep := .none
  /-- A startup hold: no further step until a reset. [1 bit; R43; no] -/
  hold : Bool := false
  /-- BOOT_ST[3:0] pins. [4 bits; R88; 0xF] -/
  boot : Nat := 0xF
  /-- Pending transition request: target code and requester code. [0x2100:02; R49; none] -/
  request : Option (Nat × Nat) := none
  /-- Time tick of the last request for a transition that was accepted. [ns; R45; none] -/
  reqTick : Option Nat := none
  /-- Transitions since power-up. [32 bits, saturating; R49; 0] -/
  transitions : Nat := 0
  /-- Last transition word. [32 bits; R49, R50; 0] -/
  lastWord : Nat := 0
  /-- Device time of the last transition. [64 bits; R49; DESIGN CHOICE 0, log 21] -/
  lastTime : Nat := 0
  /-- The latch supplied from VAUX: RESET_N was recognised with the supplies in range. [1 bit; R87; clear] -/
  resetLatch : Bool := false
  /-- NVSEL as read at RESET_N release: 3.3 V selected. [1 bit; R61; DESIGN CHOICE yes, log 6] -/
  nvsel33 : Bool := true
  /-- When RUN was last entered. [ns; R199, R200; 0] -/
  runSince : Nat := 0
  /-- Configuration memories locked. [1 bit; R39; open] -/
  locked : Bool := false
deriving DecidableEq, Repr

/-! ### Supplies, temperatures, clocks and power domains -/

/-- A group supply of a site: VFLD_G0, VFLD_G1 or VFLD_TP. -/
structure Supply where
  /-- Status: 0 not yet present, 1 present, 2 warning, 3 tripped. [2 bits; R284; 0] -/
  status : Nat := 0
  /-- Measured voltage in mV. [16 bits; R284; 0] -/
  mv : Nat := 0
deriving DecidableEq, Repr

/-- Alignment of an F die to device time. -/
structure Align where
  /-- Divider ratio deviation in 0.01 %. [16 bits; R473; 0] -/
  ratio : Int := 0
  /-- Offset of the last alignment frame in ns. [16 bits; R473; 0] -/
  offset : Int := 0
  /-- What the die's aligned count is ahead of device time by, after its move at the last frame, in ns. [R468; DESIGN CHOICE 0,
  log 21] -/
  rest : Int := 0
  /-- Consecutive alignment frames more than 5 µs off. [count; R469; DESIGN CHOICE 0, log 21] -/
  off : Nat := 0
  /-- ESC deviation in 0.01 %. [16 bits; R473; 0] -/
  esc : Int := 0
deriving DecidableEq, Repr

structure Power where
  /-- C-die rails in mV. [4 × 16 bits; R473; 0] -/
  rails : Rails := { vddc := 0, vioc := 0, vion := 0, vaux := 0 }
  /-- VHOLD in mV. [16 bits; R77; 0] -/
  vhold : Nat := 0
  /-- VHOLD charger running. [1 bit; R77; off] -/
  charging : Bool := false
  /-- Hold-up converter stopped below 16.0 V. [1 bit; R80; no] -/
  exhausted : Bool := false
  /-- PFAIL_N land level. [1 bit; R65; high] -/
  pfailHigh : Bool := true
  /-- Die temperatures in 0.1 °C, die 0 to 6 and 7 for the C die. [16 bits each; R76; 0] -/
  temps : Table Int := []
  /-- VFLD_L of each site in mV. [16 bits each; R473; 0] -/
  vfldL : Table Nat := []
  /-- Sites whose VFLD_L has tripped: their inputs are forced. [1 bit each; R64, R159; no] -/
  vfldLTrip : Table Bool := []
  /-- Group supplies, by source number. [per supply; R263; not yet present] -/
  supplies : Table Supply := []
  /-- Clock status bits. [11 bits; R473; 0] -/
  clockStatus : Nat := 0
  /-- Sites whose FIELD clock stands outside its limit: bit 7 of the clock status. [7 bits; R460, R473; 0] -/
  fieldBad : Nat := 0
  /-- Dies whose ESC clock stands outside its limit, the C die being 7: bit 8 of the clock status. [8 bits; R460, R473; 0] -/
  escBad : Nat := 0
  /-- PLL A deviation in 0.01 %. [16 bits; R473; 0] -/
  pllA : Int := 0
  /-- PLL B deviation in 0.01 %. [16 bits; R473; 0] -/
  pllB : Int := 0
  /-- Alignment of each site. [per site; R468; 0] -/
  align : Table Align := []
  /-- Domains switched off for want of power-good. [64 bits; R470; 0] -/
  domainsFailed : Nat := 0
deriving DecidableEq, Repr

/-! ### Fuses -/

/-- The 39 fuses of one word, read against the nominal reference. The check fuses are held relative to the check bits
that the code gives for the data fuses, which is the syndrome of the word: 0 where the word is one of the code
(log entry 66). -/
structure FuseCells where
  /-- Data fuses. [32 bits; R90; as delivered] -/
  value : Word := 0
  /-- Check fuses, relative to the check bits of the data. [7 bits; R90; as delivered: a word of the code] -/
  check : BitVec 7 := 0
  /-- Fuses whose reads at the three references disagree. [39 bits; R94, R106; none] -/
  weak : BitVec 39 := 0
deriving DecidableEq, Repr

/-- One fuse word as it was sensed. -/
structure FuseWord where
  /-- Data bits after correction. [32 bits; R94; 0] -/
  value : Word := 0
  /-- What three-reference sensing with the SEC-DED code finds. [4 outcomes; R95; accepted] -/
  sense : Sense := .accepted
deriving DecidableEq, Repr

structure Fuses where
  /-- The 256-word anti-fuse array. [256 × 39 bits; R90; DESIGN CHOICE kept over every reset, at first an RK-8S mask 0x7F in word 1, log 7] -/
  array : Table FuseCells := [(1, { value := 0x7F })]
  /-- The shadow registers. [256 × 32 bits with status; R94; 0] -/
  shadow : Table FuseWord := []
  /-- A locked customer region failed its check. [1 bit; R96; no] -/
  customerBad : Bool := false
  /-- The F-die fuse blocks, by site·32 + word. [7 × 32 × 39 bits; R103; DESIGN CHOICE kept over every reset, at first
  0 but for the CRC word 31 of zero words, log 7] -/
  dies : Table FuseCells := [(31, { value := 0x77F0880F }), (63, { value := 0x77F0880F }), (95, { value := 0x77F0880F }),
    (127, { value := 0x77F0880F }), (159, { value := 0x77F0880F }), (191, { value := 0x77F0880F }),
    (223, { value := 0x77F0880F })]
  /-- Debug port's TAP outside Test-Logic-Reset. [1 bit; R102; no] -/
  tapActive : Bool := false
  /-- Capability IDs present, ascending. [list; R126; empty] -/
  caps : List Nat := []
deriving DecidableEq, Repr

/-! ### Configuration -/

/-- The parameter overlay of R148: values, the digest it is bound to, and its seal. -/
structure Overlay where
  /-- Numeric values of the overlay, by index·256 + subindex. [values; R148; none] -/
  nums   : Table Nat := []
  /-- String values of the overlay. [values; R148; none] -/
  strs   : Table (List Byte) := []
  /-- Digest of the image it is bound to. [32 bytes; R148; none] -/
  digest : List Byte := []
  /-- The HMAC it is sealed with. [32 bytes; R148; none] -/
  mac    : List Byte := []
deriving DecidableEq, Repr

/-- What the configuration sequencer holds. -/
structure Cfg where
  /-- The image in force, none in SAFE unconfigured. [image; R111; none] -/
  image : Option Image := none
  /-- Numeric values of the srw objects in force, by index·256 + subindex. [shadow registers; R109; defaults] -/
  nums : Table Nat := []
  /-- OCTET_STRING and DOMAIN values in force. [shadow registers; R109; defaults] -/
  strs : Table (List Byte) := []
  /-- The parameter overlay of the backup. [overlay; R148, R451; none] -/
  overlay : Option Overlay := none
  /-- Commit sequence of the image in force. [32 bits; R111; 0] -/
  sequence : Nat := 0
  /-- Key slot that verified it. [2 bits; R111; 0] -/
  keySlot : Nat := 0
  /-- Digest of the image in force. [32 bytes; R111; empty] -/
  digest : List Byte := []
  /-- Active slot: 0 none, 1 A, 2 B. [8 bits; R111; 0] -/
  slot : Nat := 0
  /-- Result of slot A. [8 bits; R111; 0] -/
  resultA : Nat := 0
  /-- Result of slot B. [8 bits; R111; 0] -/
  resultB : Nat := 0
  /-- Slot under trial at CONFIG_LOAD: 0 none, 1 A, 2 B. [0 to 2; R107; none] -/
  trying : Nat := 0
  /-- The other slot was tried. [1 bit; R107; no] -/
  triedBoth : Bool := false
  /-- Image being loaded. [image; R107; none] -/
  loading : Option Image := none
  /-- A slot of this load failed its signature check. [1 bit; R89; no] -/
  sigFailed : Bool := false
deriving DecidableEq, Repr

/-! ### Sessions, staging, dictionary transports -/

/-- Session control (Table OD-14). -/
structure Session where
  /-- 0 none, 1 challenge, 2 CONFIGURE, 3 MAINTENANCE, 4 locked out. [8 bits; R150; 0] -/
  state : Nat := 0
  /-- Kind of the challenge or session: 1 CONFIGURE, 2 MAINTENANCE. [8 bits; R141; 0] -/
  kind : Nat := 0
  /-- Holder of the challenge or session. [requester; R140; none] -/
  holder : Option Requester := none
  /-- Device nonce. [16 bytes; R150; zeros] -/
  deviceNonce : List Byte := []
  /-- Client nonce of the challenge. [16 bytes; R141; zeros] -/
  clientNonce : List Byte := []
  /-- 0x2110:03 and the requester that wrote it. [16 bytes; R143; none] -/
  nonceStore : Option (Requester × List Byte) := none
  /-- Wrong answers in a row. [count; R142; DESIGN CHOICE 0, log 21] -/
  wrongRow : Nat := 0
  /-- Wrong answers since power-up. [16 bits, saturating; R150; 0] -/
  failures : Nat := 0
  /-- Lockout end in operating time, ns; none without a lockout. [R142; none] -/
  lockout : Option Nat := none
  /-- Session timeout in s. [16 bits; R150; 300] -/
  timeout : Nat := 300
  /-- Last trailer counter accepted. [32 bits; R145; 0] -/
  counter : Nat := 0
  /-- Time of the holder's last request, operating time ns. [R144; 0] -/
  lastRequest : Nat := 0
deriving DecidableEq, Repr

/-- Staging and commit (R147 to R149). -/
structure Staging where
  /-- 0 nothing, 1 image, 2 parameter writes. [2 bits; R150; 0] -/
  kind : Nat := 0
  /-- Staged image bytes by offset. [≤ 1,048,576 bytes; R147; empty] -/
  bytes : Mem := []
  /-- Extents received: first offset and the one after the last. [list; R150; empty] -/
  extents : List (Nat × Nat) := []
  /-- Staged numeric parameters. [values; R148; empty] -/
  nums : Table Nat := []
  /-- Staged string parameters. [values; R148; empty] -/
  strs : Table (List Byte) := []
  /-- Commit result 0x2110:0B. [8 bits; R150; 0] -/
  result : Nat := 0
  /-- A commit runs: 0 none, 1 image slot write, 2 validity page, 3 parameter, 4 fuse requests,
  5 stopped in a fuse word by RESET_N. [R105, R106, R149; 0] -/
  running : Nat := 0
  /-- Fuse requests of the commit that have been started. [count; R106; 0] -/
  blown : Nat := 0
  /-- Requester code of the commit. [8 bits; R50; 0] -/
  requester : Nat := 0
  /-- The slot that the commit writes. [0 to 2; R452; 0] -/
  slot : Nat := 0
  /-- The commit sequence of the commit. [32 bits; R452; 0] -/
  sequence : Nat := 0
  /-- The image under commit. [image; R105; none] -/
  image : Option Image := none
  /-- The memory that failed its test at the last image commit, by source number: it holds no configuration. [16 bits;
  R372; none] -/
  badMemory : Option Nat := none
  /-- A session close or timeout waits for the commit. [1 bit; R45; no] -/
  closing : Bool := false
deriving DecidableEq, Repr

/-- The last response to a transport: its SDO abort code, 0 done, or 0x23 for the busy status of KDP (R124); its
data, and the stale and staged marks of KDP (R132). -/
structure Reply where
  /-- Abort code, 0 done, 0x23 busy. [32 bits; R118, R131; none] -/
  abort : Nat := 0
  /-- Data returned. [bytes; R131; none] -/
  data  : List Byte := []
  /-- Stale mark of KDP. [1 bit; R132; no] -/
  stale : Bool := false
  /-- Staged mark of KDP. [1 bit; R132; no] -/
  staged : Bool := false
deriving DecidableEq, Repr

/-- A KDP request that waits for the dictionary engine (R120). -/
structure Waiting where
  /-- Who sent it. [requester; R135; none waits] -/
  client : Requester := {}
  /-- The frame. [bytes; R132; none waits] -/
  frame : List Byte := []
  /-- When its last byte arrived. [ns; R120; none waits] -/
  at_ : Nat := 0
deriving DecidableEq, Repr

/-- The host SPI port (R136, R137). -/
structure Hspi where
  /-- Requests waiting, oldest first, up to 4. [4 frames; R136; empty] -/
  requests : List Waiting := []
  /-- Responses and notifications waiting, oldest first. [frames; R136; empty] -/
  responses : List (List Byte) := []
  /-- A request was lost since the last status read. [1 bit; R136; 0] -/
  lost : Bool := false
  /-- Bytes shifted out by the last transaction. [bytes; R136; empty] -/
  miso : List Byte := []
  /-- Transactions, 0x2B18:01. [32 bits, saturating; R137; 0] -/
  transactions : Nat := 0
  /-- Requests executed. [32 bits, saturating; R137; 0] -/
  executed : Nat := 0
  /-- Requests discarded. [32 bits, saturating; R137; 0] -/
  discards : Nat := 0
  /-- Requests lost. [32 bits, saturating; R137; 0] -/
  lostCount : Nat := 0
  /-- Unknown opcodes. [32 bits, saturating; R137; 0] -/
  unknown : Nat := 0
deriving DecidableEq, Repr

/-- One of the 64 subscriptions (R139). -/
structure Subscription where
  /-- The client. [requester; R139; none] -/
  client : Requester
  /-- Its tag. [16 bits; R139; none] -/
  tag    : Nat
  /-- Index subscribed. [16 bits; R139; none] -/
  index  : Nat
  /-- Subindex subscribed. [8 bits; R139; none] -/
  sub    : Nat
  /-- On change, or at each period. [8 bits; R139; none] -/
  mode   : Nat
  /-- Period in ms. [16 bits; R139; none] -/
  period : Nat
  /-- Lease in s. [16 bits; R139; none] -/
  lease  : Nat
  /-- Start of the lease, operating time. [ns; R139; none] -/
  since  : Nat
  /-- The last notification, operating time. [ns; R139; none] -/
  sentAt : Nat := 0
  /-- The value last sent. [bytes; R139; none] -/
  last   : List Byte := []
deriving DecidableEq, Repr

/-- A response kept against repetition (R135). -/
structure Kept where
  /-- The client of a kept response. [requester; R135; none] -/
  client : Requester
  /-- The tag of its request. [16 bits; R135; none] -/
  tag    : Nat
  /-- When it was answered, operating time. [ns; R135; none] -/
  time   : Nat
  /-- The response. [bytes; R135; none] -/
  frame  : List Byte
deriving DecidableEq, Repr

/-- An SDO transfer of CN0 or CN1 (R130). -/
structure Sdo where
  /-- 0 none, 1 segmented download, 2 segmented upload, 3 block download, 4 block upload. [5 values; R130; none] -/
  mode   : Nat := 0
  /-- Index of the transfer. [16 bits; R130; none] -/
  index  : Nat := 0
  /-- Subindex of the transfer. [8 bits; R130; none] -/
  sub    : Nat := 0
  /-- Size that the client announced, 0 none. [32 bits; R130; none] -/
  size   : Nat := 0
  /-- Toggle bit expected next. [1 bit; R130; none] -/
  toggle : Bool := false
  /-- Content received, or the content of an upload. [bytes; R130; none] -/
  data   : List Byte := []
  /-- Bytes of an upload delivered. [count; R130; none] -/
  pos    : Nat := 0
  /-- Block transfer with a CRC. [1 bit; R130; none] -/
  crc    : Bool := false
  /-- Block size. [1 to 127; R130; none] -/
  blksize : Nat := 0
  /-- Last segment received in order. [0 to 127; R130; none] -/
  seq    : Nat := 0
  /-- The last segment has come. [1 bit; R130; none] -/
  ending : Bool := false
  /-- Generation of a DOMAIN uploaded live, none for a snapshot. [16 bits; R122; none] -/
  live   : Option Nat := none
  /-- Record that an upload delivers, marked read when it has been delivered. [32 bits; R347; none] -/
  record : Option Nat := none
  /-- The client's last frame, operating time. [ns; R130; none] -/
  at_    : Nat := 0
deriving DecidableEq, Repr

/-- What a write to a counter or to the overflow flags meets in the same SYS cycle (R478): an increment that would
have wrapped the counter, and the counters that overflow. -/
structure SameCycle where
  /-- An increment of this cycle would have wrapped the counter. [1 bit; R478; none] -/
  wrapping : Bool := false
  /-- The counters that overflow in this cycle. [9 bits; R478; none] -/
  overflowing : Nat := 0
deriving DecidableEq, Repr, Inhabited

/-- What a write meets besides its data: the memory that fails the test of a commit (R372), and what happens in the
same SYS cycle (R478). -/
structure Side where
  /-- The memory that fails the test of a commit. [16 bits; R372; none] -/
  badMemory : Option Nat := none
  /-- What happens in the same SYS cycle. [R478; none] -/
  same : SameCycle := {}
  /-- The transport delivered a length that the object does not take: of a DOMAIN part, or not the one announced.
  [1 bit; R119; none] -/
  badLength : Bool := false
  /-- When the last byte of the request arrived. [ns; R45, R120; none] -/
  arrived : Nat := 0
deriving DecidableEq, Repr, Inhabited

/-- What a waiting access asks of the dictionary engine: a write with the CAN frame that confirms it, a read, or the read
that an SDO upload begins with. -/
inductive HeldOp where
  | write (index sub : Nat) (data : List Byte) (off : Nat) (x : Side) (ack : List Byte)
  | read (index sub worst : Nat)
  | upload (index sub : Nat) (block : Option (Nat × Bool))
deriving DecidableEq, Repr

/-- An access that waits for the dictionary engine, as others come before it (R120). -/
structure Held where
  /-- Who sent it. [requester; R120; none waits] -/
  client : Requester := {}
  /-- When its last byte arrived. [ns; R120; none waits] -/
  at_ : Nat := 0
  /-- What it asks for. [access; R120; none waits] -/
  op : HeldOp
deriving DecidableEq, Repr

structure Dict where
  session : Session := {}
  staging : Staging := {}
  hspi : Hspi := {}
  /-- Last response of each transport, by requester code. [R131, Table OD-12; none] -/
  replies : Table Reply := []
  /-- KDP requests of the stations waiting for the engine, oldest first. [frames; R135; empty] -/
  udp : List Waiting := []
  /-- Accesses that wait for the engine besides the queues of KDP, in the order in which they come. [R120; empty] -/
  held : List Held := []
  /-- Subscriptions by slot 0 to 63. [64 entries; R139; empty] -/
  subs : List (Nat × Subscription) := []
  /-- Responses kept, newest first, 16 for each source. [R135; empty] -/
  kept : List Kept := []
  /-- SDO transfers of CN0 (0) and CN1 (1). [R130; none] -/
  sdo : Table Sdo := []
  /-- Accesses within the present second. [count; R124; 0] -/
  load : Nat := 0
  /-- The second that `load` counts. [operating time s; R124; 0] -/
  loadSecond : Nat := 0
  /-- Generation numbers of the other DOMAIN objects, by index·256 + subindex. [16 bits each; R122; 0] -/
  generations : Table Nat := []
  /-- Producer heartbeat time 0x1017. [16 bits, ms; R129; 0] -/
  heartbeat : Nat := 0
deriving DecidableEq, Repr

/-! ### Field inputs and sources -/

/-- One lane's view of one input (R155). -/
structure LaneIn where
  /-- Filtered state. [1 bit; R155; OFF] -/
  on : Bool := false
  /-- Raw sample. [1 bit; R155; DESIGN CHOICE LOW, log 21] -/
  raw : Bool := false
  /-- Start of the run under way. [ns; R155; none] -/
  first : Option Nat := none
  /-- Sample ticks of the run in which counting was frozen. [count; R155; DESIGN CHOICE 0, log 21] -/
  frozen : Nat := 0
  /-- The first sample of the run lies in the own mask. [1 bit; R157; no] -/
  masked : Bool := false
  /-- The last four changes of the raw sample, newest first. [ns; R169; none] -/
  past : List Nat := []
  /-- t_edge of the last change, device time. [64 bits, ns; R183; 0] -/
  edge : Nat := 0
  /-- t_change of the last change, device time. [64 bits, ns; R183; 0] -/
  change : Nat := 0
  /-- When the last change came. [ns; R158; DESIGN CHOICE 0, log 21] -/
  flip : Nat := 0
  /-- Inside pulse window flag. [1 bit; R157; 0] -/
  inside : Bool := false
deriving DecidableEq, Repr

/-- A finding of the readback: since when it has lasted, while it lasts, and when it was last seen (R177). -/
structure Span where
  /-- Since when it has lasted. [ns; R177; none] -/
  since : Option Nat := none
  /-- When it was last seen. [ns; R177; DESIGN CHOICE 0, log 21] -/
  last : Nat := 0
deriving DecidableEq, Repr

structure InputSt where
  a : LaneIn := {}
  b : LaneIn := {}
  /-- Filtered changes since power-up. [32 bits, saturating; R183; 0] -/
  changes : Nat := 0
  /-- Land voltage in mV. [16 bits; R175; 0] -/
  land : Nat := 0
  /-- Sink current in µA. [16 bits; R175; 0] -/
  sink : Nat := 0
  /-- Consecutive failed own-pulse checks of lane B. [count; R170; DESIGN CHOICE 0, log 21] -/
  failB : Nat := 0
  /-- Consecutive failed own-pulse checks of lane A. [count; R170; DESIGN CHOICE 0, log 21] -/
  failA : Nat := 0
  /-- Foreign source (number + 1) named by the last foreign-pulse failure, 0 none. [R170; DESIGN CHOICE 0, log 21] -/
  foreign : Nat := 0
  /-- Consecutive foreign-pulse failures naming it. [count; R170; DESIGN CHOICE 0, log 21] -/
  foreignFails : Nat := 0
  /-- Consecutive passes since the last failure. [count; R172; DESIGN CHOICE 0, log 21] -/
  passes : Nat := 0
  /-- The fault in effect was raised by the foreign-pulse check. [1 bit; R170; DESIGN CHOICE no, log 21] -/
  byForeign : Bool := false
  /-- The source that such a fault named, plus 1. [0 none; R172; DESIGN CHOICE 0, log 21] -/
  named : Nat := 0
  /-- The readings against the filtered state of lane B. [R177; none] -/
  plainB : Span := {}
  /-- The readings against the filtered state of lane A. [R177; none] -/
  plainA : Span := {}
  /-- Whether the 0x0104 of the input names lane A. [1 bit; R177; DESIGN CHOICE no, log 21] -/
  namesA : Bool := false
  /-- The readings in the transition region. [R177; none] -/
  trans : Span := {}
  /-- Lane B read HIGH in the sample tick before the pulse under way on its die. [1 bit; R169; no] -/
  highB : Bool := false
  /-- Lane A read HIGH 3 µs before the scheduled start of that pulse. [1 bit; R169; no] -/
  highA : Bool := false
  /-- The input's own source was on, outside the own mask, when that pulse started. [1 bit; R169; no] -/
  clear : Bool := false
deriving DecidableEq, Repr

structure SourceSt where
  /-- 0 off, 1 steady, 2 pulsing, 3 off for a fault, 4 off for supply. [8 bits; R183; 0] -/
  status : Nat := 0
  /-- A pulse is under way. [1 bit; R162; no] -/
  pulse : Bool := false
  /-- Retry after a current-limit shutdown under way. [1 bit; R160; no] -/
  retry : Bool := false
  /-- The last eight τ in µs, newest first (1,000 where 37 % was not reached). [R165; empty] -/
  taus : List Nat := []
  /-- Measured τ. [16 bits; R183; 0] -/
  tau : Nat := 0
  /-- Width of the next pulse in µs. [16 bits; R183; 0] -/
  width : Nat := 0
  /-- Current in mA. [16 bits; R183; 0] -/
  ma : Nat := 0
  /-- Terminal voltage in mV. [16 bits; R183; 0] -/
  mv : Nat := 0
  /-- Start of the last pulse. [ns; R162; DESIGN CHOICE 0, log 21] -/
  start : Nat := 0
  /-- Last pulse start, device time. [64 bits, ns; R183; 0] -/
  startAt : Nat := 0
  /-- Width of the last pulse in µs. [16 bits; R155; DESIGN CHOICE 0, log 21] -/
  cur : Nat := 0
  /-- Pulses since power-up. [32 bits, saturating; R183; 0] -/
  pulses : Nat := 0
  /-- Consecutive failed terminal checks. [count; R170; DESIGN CHOICE 0, log 21] -/
  terminalFails : Nat := 0
  /-- Sources whose partner check failed at the last failed terminal check. [R170; none] -/
  partners : List Nat := []
  /-- Consecutive pulses with 5·τ8 beyond the bound. [count; R166; DESIGN CHOICE 0, log 21] -/
  slow : Nat := 0
  /-- Consecutive pulses with 5·τ8 within the bound. [count; R166; DESIGN CHOICE 0, log 21] -/
  fastRun : Nat := 0
  /-- Consecutive passes of the terminal check. [count; R172; DESIGN CHOICE 0, log 21] -/
  passes : Nat := 0
  /-- The other source (number + 1) of a 0x0204 of this one's terminal check. [R170; DESIGN CHOICE 0, log 21] -/
  mate : Nat := 0
deriving DecidableEq, Repr

/-- The edge queue and readback of one site (R176, R178). -/
structure SiteIn where
  /-- Queued edge events, oldest first, up to 256. [256 × 64 bits; R178; empty] -/
  events : List Nat := []
  /-- Events lost since power-up. [32 bits, saturating; R183; 0] -/
  lost : Nat := 0
  /-- Events were lost before the next one queued. [1 bit; R183; no] -/
  lostMark : Bool := false
  /-- Sequence of the last event, 1 to 255. [8 bits; R183; DESIGN CHOICE 0, log 21] -/
  seq : Nat := 0
  /-- Second in which 0x0108 was last raised, plus 1. [R178; 0] -/
  lostSecond : Nat := 0
  /-- Readback marked invalid. [1 bit; R176; no] -/
  invalid : Bool := false
deriving DecidableEq, Repr

structure Field where
  /-- Inputs by source number. [224 inputs; R155; OFF] -/
  inputs : Table InputSt := []
  /-- Sources by source number. [56 sources; R160; off] -/
  sources : Table SourceSt := []
  /-- Per site: edge queue and readback state. [7 sites; R178; empty] -/
  sites : Table SiteIn := []
deriving DecidableEq, Repr

/-! ### Pair table -/

/-- What an entry shows of one lane (R213). -/
structure PairShow where
  /-- State code of Table DC-3. [4 bits; R213; 0xF] -/
  code : Nat := 0xF
  /-- The release. [1 bit; R213; 0] -/
  release : Bool := false
  /-- Egress latch. [1 bit; R213; clear] -/
  latch : Bool := false
  /-- Closed-and-locked status. [1 bit; R213; 0] -/
  closed : Bool := false
  /-- Channel 1 is active, which a one-channel reset shows. [1 bit; R213; 0] -/
  pressed : Bool := false
deriving DecidableEq, Repr

/-- One lane's evaluation of a pair-table entry (R192 to R208). -/
structure PairLane where
  /-- State code of Table DC-3. [4 bits; R192; 0xF] -/
  code : Nat := 0xF
  /-- t0 of the machine in ns. [R192; DESIGN CHOICE 0, log 21] -/
  t0 : Nat := 0
  /-- Leading channel, 1 or 2. [R192; 1] -/
  lead : Nat := 1
  /-- Return of the leading channel during WAIT_OFF. [R192; none] -/
  tr : Option Nat := none
  /-- t_change of channel 1 in ns. [64 bits; R185; 0] -/
  c1 : Nat := 0
  /-- t_change of channel 2 in ns. [64 bits; R185; 0] -/
  c2 : Nat := 0
  /-- The release, for kinds 1 and 2. [1 bit; R198; 0] -/
  release : Bool := false
  /-- A press is needed. [1 bit; R198; no] -/
  need : Bool := false
  /-- Time at which the pair signal last rose. [ns; R199; DESIGN CHOICE 0, log 21] -/
  rise : Nat := 0
  /-- The beginning of the press under way. [ns; R201; none] -/
  press : Option Nat := none
  /-- Release instant of the last valid press. [ns; R201; none] -/
  valid : Option Nat := none
  /-- The press under way is discarded. [1 bit; R203; no] -/
  discard : Bool := false
  /-- Egress latch. [1 bit; R207; clear] -/
  latch : Bool := false
  /-- Closed-and-locked status. [1 bit; R208; 0] -/
  closed : Bool := false
  /-- The hold comes only from a sampling start. [1 bit; R193; no] -/
  soft : Bool := false
  /-- Sampling-start hold running. [1 bit; R193; no] -/
  starting : Bool := false
  /-- Discarded presses or discrepancies counted. [32 bits; R213; 0] -/
  count : Nat := 0
  /-- The last press that ended has been counted as discarded. [1 bit; R202; no] -/
  counted : Bool := false
  /-- Since when a reset entry's signal has been 0 in ns, while it is 0. [R204; none] -/
  zero : Option Nat := none
  /-- Release instant of a press that acts on the entry at the end of its evaluation tick. [ns; R199; none] -/
  due : Option Nat := none
  /-- Beginning of a press that has ended and whether this lane found it valid, until the lanes have been compared.
  [R206; none] -/
  judged : Option (Nat × Bool) := none
  /-- What the entry showed before the evaluation tick of its last change. [R188, R189; none] -/
  was : PairShow := {}
  /-- End of the evaluation tick of its last change: from then on the change shows. [ns; R188, R189; 0 none] -/
  mark : Nat := 0
deriving DecidableEq, Repr

structure PairSt where
  a : PairLane := {}
  b : PairLane := {}
  /-- Reset entry stuck. [1 bit; R204; no] -/
  stuck : Bool := false
  /-- Last difference in µs. [32 bits; R213; 0] -/
  diff : Int := 0
  /-- Device time of the last change of :0A. [64 bits; R213; 0] -/
  last : Nat := 0
  /-- The same before the evaluation tick of that change. [64 bits; R213; 0] -/
  lastWas : Nat := 0
  /-- End of that evaluation tick. [ns; R213; 0 none] -/
  lastMark : Nat := 0
  /-- Consecutive ticks in which the lanes have agreed, up to 10. [count; R235; 0] -/
  agree : Nat := 0
  /-- Consecutive ticks in which the lanes have differed. [count; R235; 0] -/
  apart : Nat := 0
  /-- Channel 2 of a cross-die entry as lane B last took it from its shared signal. [1 bit; R191; 0] -/
  signal2 : Bool := false
  /-- Door cycles. [32 bits, saturating; R285; 0] -/
  cycles : Nat := 0
  /-- Egress activations. [32 bits, saturating; R285; 0] -/
  egress : Nat := 0
deriving DecidableEq, Repr

/-! ### Function block array -/

/-- One netlist record (Table FB-5). -/
structure Slot where
  /-- Block type. [8 bits; R238, Table FB-5; no record] -/
  ty     : Nat := 0
  /-- Input references. [16 bits each; R238, Table FB-5; no record] -/
  ins    : List Nat := []
  /-- Parameter 0. [32 bits; R238, Table FB-5; no record] -/
  p0     : Nat := 0
  /-- Parameter 1. [32 bits; R238, Table FB-5; no record] -/
  p1     : Nat := 0
  /-- Parameter 2. [32 bits; R238, Table FB-5; no record] -/
  p2     : Nat := 0
  /-- Ledger flag. [8 bits; R238, Table FB-5; no record] -/
  ledger : Nat := 0
deriving DecidableEq, Repr, Inhabited

/-- The state of one block (Table FB-3). -/
structure Blk where
  /-- LATCH output, RESTART and OUT hold. [1 bit; R223; 0] -/
  q : Bool := false
  /-- Previous input of EDGE and RESTART. [1 bit; R223; 0] -/
  prev : Bool := false
  /-- The block has run since the load. [1 bit; R223; no] -/
  ran : Bool := false
  /-- Elapsed or agreement count in ticks. [count; R224, R234; 0] -/
  count : Nat := 0
  /-- State code of EDM and BRAKE. [4 bits; R228, R230; 0] -/
  code : Nat := 0
  /-- t0 of EDM, entry time of BRAKE states, in µs. [32 bits; R228, R230; 0] -/
  t0 : Nat := 0
  /-- t_fb0 of EDM in µs. [32 bits; R228; 0] -/
  fb : Nat := 0
  /-- EDM: the state follows a demand; RESTART: a press is needed; BRAKE: brake not ok. [1 bit; R228; no] -/
  mark : Bool := false
  /-- BRAKE test phase, 0 none. [4 bits; R278; 0] -/
  phase : Nat := 0
deriving DecidableEq, Repr

/-- A ring segment as received (R231, R232). -/
structure Segment where
  /-- Signals of the segment. [64 bits; R232; 0] -/
  bits  : Nat := 0
  /-- Tick that it was published in. [64 bits; R232; 0] -/
  tick  : Nat := 0
  /-- Its check held. [1 bit; R232; no] -/
  valid : Bool := false
deriving DecidableEq, Repr

/-- The array of one site. -/
structure Fba where
  /-- Slots loaded from the netlist in force. [512 records; R238; empty] -/
  slots : List Slot := []
  /-- Outputs of the slots, 4 bits each, by slot. [512 × 4; R217; 0] -/
  outs : Table Nat := []
  /-- Block states by slot. [512; R223; after a load] -/
  blocks : Table Blk := []
  /-- The complement rails of the slot outputs, each held as the value it stands for (R216). [512 × 4; R216, R217; 0] -/
  outsC : Table Nat := []
  /-- The complement rails of the block states, likewise. [512; R216, R223; after a load] -/
  blocksC : Table Blk := []
  /-- The source nets as latched, the true rails: net `n` in bit `n`. [0x70 nets; R216, R222; DESIGN CHOICE 0, log 21] -/
  nets : Nat := 0
  /-- Their complement rails, each held as the value it stands for. [0x70 nets; R216; DESIGN CHOICE 0, log 21] -/
  netsC : Nat := 0
  /-- Published shared signals. [64 bits; R231; 0] -/
  published : Nat := 0
  /-- Those published in the tick before. [64 bits; R231; 0] -/
  publishedBefore : Nat := 0
  /-- Received segments: source site·2 + tick parity. [14; R232; invalid] -/
  segments : Table Segment := []
  /-- Last good signals of each source site. [64 bits each; R226; 0] -/
  good : Table Nat := []
  /-- Consecutive failed segments of each source site. [count; R30; DESIGN CHOICE 0, log 21] -/
  fails : Table Nat := []
  /-- Island status: consecutive invalid ticks. [count; R233; DESIGN CHOICE 0, log 21] -/
  invalid : Nat := 0
  /-- Island status: consecutive valid ticks. [count; R233; DESIGN CHOICE 0, log 21] -/
  validRun : Nat := 0
  /-- Array state of Table FB-7. [8 bits; R241; 0] -/
  state : Nat := 0
  /-- Windows completed. [64 bits; R241; 0] -/
  ticks : Nat := 0
  /-- Rail faults. [32 bits, saturating; R241; 0] -/
  railFaults : Nat := 0
  /-- Corrected netlist words. [32 bits, saturating; R241; 0] -/
  corrected : Nat := 0
  /-- Scan position in records. [9 bits; R237; DESIGN CHOICE 0, log 21] -/
  scan : Nat := 0
  /-- Lane B demands committed to the drivers. [26 bits; R218; 0] -/
  demands : Nat := 0
  /-- Demands differ. [26 bits; R241; 0] -/
  differ : Nat := 0
  /-- Elements forced off at the last commit: a reaction lifts at a commit. [26 bits; R354; 0] -/
  forced : Nat := 0
  /-- Device was in RUN at the previous window. [1 bit; R222; no] -/
  wasRun : Bool := false
  /-- The netlist RAM is in doubt. [1 bit; R237; no] -/
  doubt : Bool := false
  /-- Tick of the last commit. [R236; DESIGN CHOICE 0, log 21] -/
  lastTick : Nat := 0
  /-- Device time of the end of that tick. [64 bits, ns; R183, R218; 0] -/
  lastAt : Nat := 0
  /-- End in µs of the first tick after the last test of the array. [R236; none] -/
  resumed : Nat := 0
  /-- Since when the array has been held for its test. [ns; R236, R256; none] -/
  heldFrom : Nat := 0
  /-- Escapement: the next challenge. [16 bits; R36; DESIGN CHOICE 0x0001, the serial of log 7 being 0] -/
  challenge : Nat := 1
  /-- Windows since the last response, as the sequencer counts them. [16 bits; R36; DESIGN CHOICE 0, log 21] -/
  windows : Nat := 0
  /-- Windows since the last response, as the independent counter counts them. [16 bits; R36; DESIGN CHOICE 0, log 21]
  -/
  independent : Nat := 0
deriving DecidableEq, Repr

/-- A test announcement: the test frame that it is for, the element, and what opens or closes: 0 the high side or lane B
side opens, 1 the series gate or lane A side, 2 a light test (R255, R261). -/
structure Announce where
  /-- Test frame. [R254, R255; none] -/
  frame : Nat := 0
  /-- Element, by source number. [16 bits; R255; none] -/
  element : Nat := 0
  /-- Switch, or light test. [2 bits; R255, R261; none] -/
  switch : Nat := 0
deriving DecidableEq, Repr

/-- The A island of one site, and the Curfew monitors (R21 to R34). -/
structure Island where
  /-- Gate-enable word in effect. [26 bits; R22, R23; all off] -/
  word : Nat := 0
  /-- Polarity of the last valid frame. [1 bit; Table AR-2; DESIGN CHOICE 0, log 21] -/
  polarity : Bool := false
  /-- No valid frame for 30 µs. [1 bit; R23; yes] -/
  timedOut : Bool := true
  /-- Status frame across the barrier carried a valid check. [1 bit; R233; no] -/
  statusOk : Bool := false
  /-- Curfew stop seen by the die's monitor. [1 bit; R33, R34; no] -/
  dieStopped : Bool := false
  /-- Curfew stop seen by the island's monitor. [1 bit; R33, R34; no] -/
  islandStopped : Bool := false
  /-- Sequence number of the link towards the island. [8 bits; R16; DESIGN CHOICE 0, log 21] -/
  seqUp : Nat := 0
  /-- Sequence number of the link away from the island. [8 bits; R16; DESIGN CHOICE 0, log 21] -/
  seqDown : Nat := 0
  /-- The last status-link frame passed its check. [1 bit; R16; DESIGN CHOICE yes, log 21] -/
  linkOk : Bool := true
  /-- Lane B demands as last reported over the status link. [26 bits; R26; DESIGN CHOICE 0, log 21] -/
  reported : Nat := 0
  /-- The C die's comparison: consecutive ticks in which an element's lane A demand has differed from the reported lane B
  demand. [count each; R26; none] -/
  differC : Table Nat := []
  /-- Test announcements that the island has received in its enable frames. [R255; none] -/
  announced : List Announce := []
  /-- Test announcements that the F die has received over its status link. [R255; none] -/
  announcedB : List Announce := []
deriving DecidableEq, Repr

structure Array where
  fba : Table Fba := []
  island : Table Island := []
deriving DecidableEq, Repr

/-! ### Outputs, returns and brakes -/

/-- An output or a return. -/
structure OutSt where
  /-- Path current in mA. [16 bits; R284; 0] -/
  ma : Nat := 0
  /-- Land voltage in 10 mV. [16 bits; R284; 0] -/
  land : Int := 0
  /-- Last test word. [8 bits; R284; 0] -/
  lastTest : Nat := 0
  /-- Start of the last test's pulse. [64 bits, ns; R284; 0] -/
  lastTestTime : Nat := 0
  /-- Dark tests performed. [32 bits, saturating; R284; 0] -/
  tests : Nat := 0
  /-- Switch of the next dark test of the set whose lowest member this is: 0 high side or lane B side, 1 series gate or
  lane A side. [1 bit; R254, R255; 0] -/
  next : Nat := 0
  /-- Start of the pulse under way. [64 bits, ns; R254; none] -/
  begun : Nat := 0
  /-- Switch that the dark test under way has opened. [1 bit; R255; 0] -/
  sw : Nat := 0
  /-- A member of the set has failed in the present test. [1 bit; R254, R255; no] -/
  setBad : Bool := false
  /-- A dark test fell due while the array was held. [1 bit; R256; no] -/
  owed : Bool := false
  /-- First failure on the F die's readings pending its repeat: 0 none, 1 did not open, 2 fed externally. [R258; DESIGN
  CHOICE 0, log 21] -/
  failed : Nat := 0
  /-- The same on the island's readings. [R257, R258; DESIGN CHOICE 0, log 21] -/
  failedA : Nat := 0
  /-- Test under way: 0 none, 1 dark, 2 light. [R254, R261; 0] -/
  test : Nat := 0
  /-- Consecutive failed light tests. [count; R261; DESIGN CHOICE 0, log 21] -/
  lightFails : Nat := 0
  /-- Outputs whose current rose at the first failure, on the F die's readings. [R260; none] -/
  bridge : List Nat := []
  /-- The same on the island's readings. [R260; none] -/
  bridgeA : List Nat := []
  /-- Readback invalid. [1 bit; R374; no] -/
  calBad : Bool := false
  /-- Calibration overdue. [1 bit; R375; no] -/
  calLate : Bool := false
  /-- Operating time of the last calibration, plus 1. [ns; R374, R375; 0 none] -/
  calAt : Nat := 0
  /-- On in both lanes at the last commit. [1 bit; R284; off] -/
  on : Bool := false
  /-- Since when it is on, operating time. [ns; R285, R463; DESIGN CHOICE 0, log 21] -/
  since : Nat := 0
deriving DecidableEq, Repr

/-- Learned drop-out values and counters of an output (Table OU-12). -/
structure Learn where
  /-- Switch-ons. [32 bits, saturating; R285; 0] -/
  ons : Nat := 0
  /-- On time of the completed switch-ons in ns. [32 bits of s, saturating; R285; 0] -/
  onTime : Nat := 0
  /-- Drop-outs reported. [32 bits, saturating; R270, R285; 0] -/
  count : Nat := 0
  /-- Total of the first 64 drop-outs in µs. [sum; R270; 0] -/
  total : Nat := 0
  /-- Learning count. [8 bits; R270; 0] -/
  n : Nat := 0
  /-- Learned drop-out in µs. [32 bits; R270; 0] -/
  learned : Nat := 0
  /-- The last 16 reported, newest first. [R270; empty] -/
  last16 : List Nat := []
  /-- Largest drift in 0.1 %. [16 bits; R285; 0] -/
  drift : Nat := 0
deriving DecidableEq, Repr

structure BrakeSt where
  /-- Coil current in mA. [16 bits; R284; 0] -/
  ma : Nat := 0
  /-- Last dip time in µs. [32 bits; R284; 0xFFFFFFFF] -/
  dip : Nat := 0xFFFFFFFF
  /-- Last check result. [8 bits; R284; 0] -/
  check : Nat := 0
  /-- Last mechanical test. [8 bits; R284; 0] -/
  mech : Nat := 0
  /-- End of the last mechanical test. [64 bits, ns; R284; 0] -/
  mechTime : Nat := 0
  /-- Device time of waveform sample 0. [64 bits, ns; R284; 0] -/
  waveTime : Nat := 0
  /-- Waveform samples in mA. [≤ 2,048 × 16 bits; R284; empty] -/
  wave : List Nat := []
  /-- Pull-in signature still undecided in this pull-in. [1 bit; R275; no] -/
  pending : Bool := false
  /-- The coil current has reached the pull-in setting in this pull-in. [1 bit; R273; no] -/
  reached : Bool := false
  /-- Dark test fields, as for an output. [R254 to R258; 0] -/
  o : OutSt := {}
deriving DecidableEq, Repr

/-- Learned values and counters of a brake (Table OU-12). -/
structure BrakeLearn where
  /-- Pull-ins. [32 bits, saturating; R285; 0] -/
  pullIns : Nat := 0
  /-- The passing dips, newest first, up to 64. [R276; empty] -/
  dips : List Nat := []
  /-- Baseline in µs. [32 bits; R276, R285; 0] -/
  base : Nat := 0
  /-- Initial baseline in µs. [32 bits; R276, R285; 0] -/
  initial : Nat := 0
  /-- Learning count. [8 bits; R276, R285; 0] -/
  n : Nat := 0
  /-- Signature failures. [32 bits, saturating; R285; 0] -/
  sigFails : Nat := 0
  /-- Mechanical tests passed. [32 bits, saturating; R285; 0] -/
  passed : Nat := 0
  /-- Mechanical tests failed. [32 bits, saturating; R285; 0] -/
  failed : Nat := 0
  /-- Operating time of the last passed test, ns. [R285; 0] -/
  lastPass : Nat := 0
deriving DecidableEq, Repr

structure Outs where
  /-- Outputs and returns by source number. [112 + 56; R242, R247; off] -/
  elems : Table OutSt := []
  /-- Brakes by source number. [14; R272; applied] -/
  brakes : Table BrakeSt := []
  /-- Learned values by source number of the output. [112; R270; 0] -/
  learn : Table Learn := []
  /-- Learned values by source number of the brake. [14; R276; 0] -/
  brakeLearn : Table BrakeLearn := []
  /-- Group current sums of the last 100 ms, newest first, by site·2 + group. [1,000 × 16 bits; R246; empty] -/
  sums : Table (List Nat) := []
  /-- Groups of a site that an uncleared record 0x0308 opens, bit by group. [2 bits; R246; DESIGN CHOICE 0, log 21] -/
  opened : Table Nat := []
  /-- Output stage: words published at the last boundary, by site. [26 bits; R309; 0] -/
  publishedA : Table Nat := []
  /-- Device time of publication, by site. [64 bits; R316; 0] -/
  publishTime : Table Nat := []
deriving DecidableEq, Repr

/-! ### Processor lane -/

/-- The ten writable CSRs of R298 (mtvec is fixed at the trap sink). -/
structure Csrs where
  /-- Machine status. [32 bits; R298; DESIGN CHOICE 0, log 8] -/
  mstatus   : Word := 0
  /-- Trap vector, fixed at the trap sink. [32 bits; R286, R291; DESIGN CHOICE 0, log 8] -/
  mtvec     : Word := 0
  /-- PC of the trap. [32 bits; R291; DESIGN CHOICE 0, log 8] -/
  mepc      : Word := 0
  /-- Cause of the trap. [32 bits; R291; DESIGN CHOICE 0, log 8] -/
  mcause    : Word := 0
  /-- Value of the trap. [32 bits; R298; DESIGN CHOICE 0, log 8] -/
  mtval     : Word := 0
  /-- Scratch. [32 bits; R298; DESIGN CHOICE 0, log 8] -/
  mscratch  : Word := 0
  /-- Cycles, low word. [32 bits; R298; DESIGN CHOICE 0, log 8] -/
  mcycle    : Word := 0
  /-- Cycles, high word. [32 bits; R298; DESIGN CHOICE 0, log 8] -/
  mcycleh   : Word := 0
  /-- Instructions, low word. [32 bits; R298; DESIGN CHOICE 0, log 8] -/
  minstret  : Word := 0
  /-- Instructions, high word. [32 bits; R298; DESIGN CHOICE 0, log 8] -/
  minstreth : Word := 0
deriving DecidableEq, Repr, Inhabited

/-- The 42 state words of one pass: x1 to x31, the PC and the CSRs. The shadow pass holds every one
of them inverted (R293); the model keeps the shadow words as they are held, so that a register that a
shadow pass does not list holds 0xFFFFFFFF. -/
structure Ctx where
  /-- x1 to x31. [31 × 32 bits; R286; DESIGN CHOICE 0, log 8] -/
  regs : Table Word := []
  /-- PC. [32 bits; R286; 0] -/
  pc : Word := 0
  /-- CSRs. [10 × 32 bits; R286; DESIGN CHOICE 0, log 8] -/
  csrs : Csrs := {}
deriving DecidableEq, Repr, Inhabited

/-- The state words of the shadow pass of a core whose words are all 0 (R293). -/
def Ctx.ones : Ctx :=
  { regs := [], pc := 0xFFFFFFFF
    csrs := ⟨0xFFFFFFFF, 0xFFFFFFFF, 0xFFFFFFFF, 0xFFFFFFFF, 0xFFFFFFFF, 0xFFFFFFFF, 0xFFFFFFFF, 0xFFFFFFFF,
      0xFFFFFFFF, 0xFFFFFFFF⟩ }

/-- Roles of Table PL-10. -/
inductive Role where
  | active
  | standby
  | underTest
  | removed
  | halted
deriving DecidableEq, Repr, Inhabited

/-- Performance counters of a core (Table PM-4). -/
structure Perf where
  /-- Control. [8 bits; R477, R482; 3] -/
  control : Nat := 3
  /-- Event selectors. [4 × 8 bits; R477, R482; 0] -/
  select : Table Nat := []
  /-- Event counters. [4 × 32 bits; R478, R482; 0] -/
  events : Table Nat := []
  /-- Slot counters retired, wasted, front-end, back-end, idle. [5 × 32 bits; R475; 0] -/
  slots : Table Nat := []
  /-- Pending slots of the interval: 0 retired, 2 front-end, 3 back-end. [counts; R476; 0] -/
  pending : Table Nat := []
  /-- Slots counted since the last boundary. [count; R475; 0] -/
  counted : Nat := 0
  /-- A core cycle that belongs to no full slot yet: the slot counts in the category of its second cycle. [1 bit; R475;
  0] -/
  odd : Nat := 0
  /-- Overflow flags. [9 bits; R478; 0] -/
  flags : Nat := 0
  /-- Core cycles since power-up. [64 bits; R482; 0] -/
  cycles : Nat := 0
  /-- Sampling mode. [8 bits; R479; 0] -/
  mode : Nat := 0
  /-- Sampling interval in instructions. [32 bits; R479; 65,536] -/
  interval : Nat := 65536
  /-- Jitter. [1 bit; R479; off] -/
  jitter : Bool := false
  /-- Instructions to the next sample. [count; R479; DESIGN CHOICE 65,536, log 21] -/
  toNext : Nat := 65536
  /-- Samples held. [≤ 256 records; R479; empty] -/
  samples : List (List Byte) := []
  /-- Samples of the interval not confirmed yet. [records; R479; empty] -/
  pendingSamples : List (List Byte) := []
  /-- Samples discarded by rollback. [32 bits, saturating; R479; 0] -/
  discarded : Nat := 0
  /-- Samples lost, buffer full. [32 bits, saturating; R479; 0] -/
  lost : Nat := 0
  /-- Generation number of the samples. [16 bits; R122; 0] -/
  gen : Nat := 0
deriving DecidableEq, Repr

/-- An entry of the skew registers of a core (R297). -/
structure SkewEntry where
  /-- The decoded instruction. [R297; no entry] -/
  instr : Instr
  /-- Its PC. [32 bits; R297; no entry] -/
  pc : Word
  /-- Its operand selects: rd, rs1 and rs2, least significant first. [15 bits; R297; no entry] -/
  selects : Nat
  /-- Even parity of each 16-bit field: the decoded instruction, the halves of the PC, the selects. [1 bit per field;
  R297; no entry; the fields of the decoded instruction DESIGN CHOICE, log 81] -/
  parity : List Bool
deriving DecidableEq, Repr

/-- A core K0 to K3. -/
structure CoreSt where
  /-- Role of Table PL-10. [4 bits; R316; standby] -/
  role : Role := .standby
  /-- Partition, 0xF none. [4 bits; R316; none] -/
  part : Nat := 0xF
  /-- TCM set, 0xF none. [4 bits; R316; none] -/
  set : Nat := 0xF
  /-- Primary pass. [42 words; R292; DESIGN CHOICE 0, log 8] -/
  prim : Ctx := {}
  /-- Shadow pass, complement domain: the words as held. [42 words; R293; DESIGN CHOICE the inverse of 0, log 8] -/
  shad : Ctx := Ctx.ones
  /-- Checkpoint registers. [42 words; R298; DESIGN CHOICE 0, log 8] -/
  saved : Ctx := {}
  /-- Chime count. [count modulo 104; R302; DESIGN CHOICE 0, log 21] -/
  chime : Nat := 0
  /-- Posted stores: address and value, oldest first. [R299; empty] -/
  posted : List (Nat × Word) := []
  /-- CYCLE_END issued: waits for the boundary. [1 bit; R308; no] -/
  ended : Bool := false
  /-- Stopped by a trap. [1 bit; R291; no] -/
  trapped : Bool := false
  /-- Interval retried. [1 bit; R301; no] -/
  retried : Bool := false
  /-- Rollback times in operating time ns, newest first. [R301; empty] -/
  rolls : List Nat := []
  /-- Rollbacks since power-up. [32 bits, saturating; R316; 0] -/
  rollbacks : Nat := 0
  /-- The logic BIST of a removed core: 0 none, 1 due or running, 2 passed, 3 failed. [R305; 0] -/
  bist : Nat := 0
  /-- Performance counters of the core. [Table PM-4; R475 to R479; as the fields of Perf] -/
  perf : Perf := {}
  /-- The delay line that carries the issue information to the shadow pass, newest first. [2 entries; R297; empty] -/
  skew : List SkewEntry := []
  /-- Core cycle count at the end of the last checkpoint or restore. [R298; DESIGN CHOICE 0, log 21] -/
  ckptCycles : Nat := 0
  /-- End of the last checkpoint or restore. [ns; R298; DESIGN CHOICE 0, log 21] -/
  ckptTime : Nat := 0
deriving DecidableEq, Repr

/-- A TCM set TS0 to TS3 (R287). -/
structure Tcm where
  /-- Instruction TCM. [128 KiB; R287; DESIGN CHOICE 0, log 21] -/
  imem : Mem := []
  /-- Data TCM. [64 KiB; R287; DESIGN CHOICE 0, log 21] -/
  dmem : Mem := []
  /-- Undo journal, newest first: address and old word. [512 × 8 bytes; R299; empty] -/
  journal : List (Nat × Word) := []
deriving DecidableEq, Repr

/-- One copy of a standby slot (R304). -/
structure SlotCopy where
  /-- The state words on the true rail. [42 words; R304; no copy] -/
  word : Ctx
  /-- The state words on the complement rail. [42 words; R304; no copy] -/
  comp : Ctx
  /-- The CRC-32 over the 42 words. [32 bits; R304; no copy] -/
  crc : Nat
deriving DecidableEq, Repr

/-- A partition P0 to P2. -/
structure PartSt where
  /-- The copies of the standby slot, in bank 5. [3 × (2 × 42 words and a CRC-32); R304; none shipped] -/
  copies : List SlotCopy := []
  /-- Challenge of this cycle. [32 bits; R312; DESIGN CHOICE 0, log 21] -/
  challenge : Word := 0
  /-- Responses released in this cycle. [count; R312; 0] -/
  responses : Nat := 0
  /-- The challenge of the cycle before, while its service is awaited over the boundary. [32 bits; R312; none] -/
  owed : Option Word := none
  /-- A response of this cycle was wrong. [1 bit; R312; no] -/
  wrong : Bool := false
  /-- Service accepted in the last cycle. [1 bit; R316; 0] -/
  served : Bool := false
  /-- Checkpoint confirmed at the last boundary. [1 bit; R316; 0] -/
  confirmed : Bool := false
  /-- Cycle checkpoint of the cycle under way confirmed. [1 bit; R311; no] -/
  cycleDone : Bool := false
  /-- Demand words and exchange area as confirmed at the last cycle checkpoint, by site. [R309; 0] -/
  demands : Table Nat := []
  /-- The region in shared SRAM. [128 KiB; R288; DESIGN CHOICE 0, log 21] -/
  region : Mem := []
  /-- Region as confirmed at the last cycle checkpoint. [128 KiB; R307, R404; 0] -/
  confirmedRegion : Mem := []
  /-- Cycles measured. [32 bits, saturating; R480; 0] -/
  measured : Nat := 0
  /-- Shortest cycle without rollback, core cycles. [32 bits; R480; 0] -/
  shortest : Nat := 0
  /-- Longest cycle without rollback. [32 bits; R480; 0] -/
  longest : Nat := 0
  /-- Longest cycle with rollback. [32 bits; R480; 0] -/
  longestRb : Nat := 0
  /-- The last 1,024 cycles without rollback, newest first. [≤ 1,024 × 32 bits; R480; empty] -/
  recent : List Nat := []
  /-- Cycles with rollback. [32 bits, saturating; R480; 0] -/
  withRb : Nat := 0
  /-- Cycle number of the longest without rollback. [64 bits; R480; 0] -/
  longestCycle : Nat := 0
  /-- Declared WCET exceeded. [1 bit; R480; 0] -/
  wcetBad : Bool := false
  /-- This cycle had a rollback or takeover. [1 bit; R480; no] -/
  rolled : Bool := false
  /-- Core cycle count at the boundary. [R480; DESIGN CHOICE 0, log 21] -/
  startCycles : Nat := 0
deriving DecidableEq, Repr

/-- The state that the process image objects publish at a boundary, where it can change between boundaries (R316). -/
structure Published where
  /-- Rollbacks of all cores. [32 bits; R316; 0] -/
  rollbacks : Nat := 0
  /-- Takeovers. [32 bits; R316; 0] -/
  takeovers : Nat := 0
  /-- Handovers. [32 bits; R316; 0] -/
  handovers : Nat := 0
  /-- The cores. [as CoreSt; R316; none] -/
  cores : Table CoreSt := []
  /-- The partitions. [as PartSt; R316; none] -/
  parts : Table PartSt := []
deriving DecidableEq, Repr

structure Proc where
  /-- Cores by number. [4; R286; standby] -/
  cores : Table CoreSt := []
  /-- TCM sets by number. [4; R287; 0] -/
  tcms : Table Tcm := []
  /-- Partitions by number. [3; R287; none] -/
  parts : Table PartSt := []
  /-- Input image of the current cycle, in the bank that the core window shows. [64 KiB; R289, R307; 0] -/
  image : Mem := []
  /-- Input image of the cycle before, in the other bank. [64 KiB; R289; 0] -/
  lastImage : Mem := []
  /-- The bank, 0 or 1, of the current input image. [1 bit; R289; 0] -/
  bank : Nat := 0
  /-- Words with an error in their bits. [by word; R290; none] -/
  upsets : List (Place × Ecc) := []
  /-- Cycle number. [64 bits; R316; 0] -/
  cycle : Nat := 0
  /-- The last boundary of the grid of the cycle timer. [ns; R307; DESIGN CHOICE 0, log 21] -/
  boundary : Nat := 0
  /-- Device time of the last boundary. [64 bits, ns; R316; 0] -/
  boundaryAt : Nat := 0
  /-- Boundaries run. [1 bit; R307; no] -/
  running : Bool := false
  /-- C-die escapement in service. [1 bit; R35, R42; no] -/
  escapement : Bool := false
  /-- Rollbacks of all cores. [32 bits, saturating; R316; 0] -/
  rollbacks : Nat := 0
  /-- Takeovers. [32 bits, saturating; R316; 0] -/
  takeovers : Nat := 0
  /-- Handovers. [32 bits, saturating; R316; 0] -/
  handovers : Nat := 0
  /-- Captured filtered states of lane A, by site. [32 bits each; R316; 0] -/
  capturedA : Table Nat := []
  /-- Captured faulty inputs, by site. [32 bits each; R316; 0] -/
  capturedF : Table Nat := []
  /-- Captured pair image, by entry. [4 bits each; R316; 0] -/
  pairImage : Table Nat := []
  /-- Time of the last statistics reset. [64 bits; R482; 0] -/
  statsReset : Nat := 0
  /-- Up to when the core cycles outside safety cycles have been counted. [ns; R475; DESIGN CHOICE 0, log 21] -/
  countedTo : Nat := 0
  /-- What the last boundary published. [Table PL-10; R316; 0] -/
  published : Published := {}
deriving DecidableEq, Repr

/-! ### Fault collection -/

/-- A record (Table FC-6). -/
structure Record where
  /-- Timestamp. [64 bits, ns; R340, R345; no record] -/
  time     : Nat
  /-- Code. [16 bits; R345; no record] -/
  code     : Nat
  /-- Applied level. [4 bits; R343, R345; no record] -/
  level    : Nat
  /-- Defined level. [4 bits; R345; no record] -/
  defined  : Nat
  /-- 0 active, 1 cleared-unread, 2 cleared-read, 3 superseded. [2 bits; R346; no record] -/
  status   : Nat := 0
  /-- Condition present. [1 bit; R345, R346; no record] -/
  present  : Bool := true
  /-- Read since the condition went. [1 bit; R347; no record] -/
  read     : Bool := false
  /-- Escalated. [1 bit; R343; no record] -/
  escalated : Bool := false
  /-- Same-tick. [1 bit; R341; no record] -/
  sameTick : Bool := false
  /-- Permanent. [1 bit; R353; no record] -/
  permanent : Bool := false
  /-- Injected. [1 bit; R358; no record] -/
  injected : Bool := false
  /-- Source. [16 bits; R345, Table FC-2; no record] -/
  source   : Nat
  /-- Second source, 0xFFFF none. [16 bits; R345, Table FC-2; no record] -/
  second   : Nat := 0xFFFF
  /-- Sequence number. [32 bits; R341; no record] -/
  seq      : Nat
  /-- Detail data. [64 bits; R333, R345; no record] -/
  detail   : Nat := 0
  /-- Occurrences. [16 bits; R339; no record] -/
  count    : Nat := 1
  /-- Recovered automatically. [1 bit; R352; no record] -/
  recovered : Bool := false
  /-- Acknowledged. [1 bit; R355; no record] -/
  acked    : Bool := false
  /-- Operating time at which the condition went. [ns; R352; no record] -/
  goneAt   : Nat := 0
  /-- Time tick of the automatic recovery, plus 1. [ns; R354; 0 none] -/
  recAt    : Nat := 0
  /-- The class's time of the last recovery before that one. [ns; R354; 0] -/
  recLast  : Nat := 0
deriving DecidableEq, Repr

/-- A report that waits for its commit (R341). -/
structure Pending where
  /-- What was reported. [code, source, detail, time; R340, R341; none] -/
  rep    : Report
  /-- Occurrences so far. [16 bits; R339; none] -/
  count  : Nat := 1
  /-- Condition present. [1 bit; R346; none] -/
  present : Bool := true
  /-- To be committed at L4: a core had to be removed and none stood by. [1 bit; R46, R306; no] -/
  force4 : Bool := false
  /-- Superseded before its commit. [1 bit; R260, R346; no] -/
  superseded : Bool := false
  /-- The core that took a partition over for this report. [4 bits; R306; none] -/
  taker : Option Nat := none
  /-- The timestamp in device time. [64 bits, ns; R340; none] -/
  stamp : Nat := 0
  /-- Operating time at which the condition went. [ns; R352; none] -/
  goneAt : Nat := 0
deriving DecidableEq, Repr

/-- Run-time values of a class (Table FC-10). -/
structure ClassSt where
  /-- Recovery counter. [16 bits, saturating; R353; 0] -/
  counter : Nat := 0
  /-- Recovery times in the window, operating time ns, newest first. [R353; empty] -/
  times : List Nat := []
  /-- Device time of the last recovery. [64 bits; R362; 0] -/
  last : Nat := 0
deriving DecidableEq, Repr

structure Collector where
  /-- Reports waiting for their commit, in commit order. [R341; empty] -/
  pending : List Pending := []
  /-- Records held, in commit order. [≤ 1,024 uncleared; R344; empty] -/
  records : List Record := []
  /-- History: sequence numbers, newest first, up to 32. [R349; empty] -/
  history : List Nat := []
  /-- Sequence number of the first-fault record. [R350; none] -/
  first : Option Nat := none
  /-- Records since the first fault. [32 bits, saturating; R361; 0] -/
  since : Nat := 0
  /-- Next sequence number. [32 bits; R341; 1] -/
  next : Nat := 1
  /-- Time tick of the last record committed. [ns; R341; none] -/
  lastTime : Option Nat := none
  /-- Records since power-up. [32 bits, saturating; R361; 0] -/
  total : Nat := 0
  /-- Highest uncleared count since power-up. [16 bits; R361; 0] -/
  highest : Nat := 0
  /-- Last acknowledgement. [16 bits; R361; 0] -/
  lastAck : Nat := 0
  /-- Classes by class byte. [16; R362; 0] -/
  classes : Table ClassSt := []
  /-- Chime rounds. [32 bits, saturating; R361; 0] -/
  rounds : Nat := 0
  /-- Chime misses. [32 bits, saturating; R361; 0] -/
  misses : Nat := 0
  /-- Rounds detected in a row since the last miss, by checker. [R357; 3] -/
  good : Table Nat := []
  /-- Checker to inject, 0x2700:01. [16 bits; R363; 0] -/
  checker : Nat := 0
  /-- Injection mode, 0x2700:02. [8 bits; R363; 1] -/
  mode : Nat := 1
  /-- Injections to make, 0x2700:03. [8 bits; R363; 1] -/
  count : Nat := 1
  /-- Result, 0x2700:05. [8 bits; R363; 0] -/
  result : Nat := 0
  /-- Injections made, 0x2700:06. [8 bits; R363; 0] -/
  made : Nat := 0
  /-- Injections detected, 0x2700:07. [8 bits; R363; 0] -/
  seen : Nat := 0
  /-- Device time of the last chime round, plus 1. [ns; R357; 0 none] -/
  chimeAt : Nat := 0
  /-- Time of the last manual injection, plus 1. [ns; R358; 0 none] -/
  injectAt : Nat := 0
  /-- Curfew pattern stopped by the collector to the sites in the mask. [7 bits; R34; 0] -/
  curfew : Nat := 0
deriving DecidableEq, Repr

/-- Guarantee breaches (R328 to R331). -/
structure Breach where
  /-- Counters of the ranks 1 to 5. [5 × 32 bits, saturating; R331; 0] -/
  counts : Table Nat := []
  /-- Breaches in the present 1,000 ms window, by rank. [R330; 0] -/
  window : Table Nat := []
  /-- Records dropped or summarised in the window, by rank·32 + class. [R330; 0] -/
  byClass : Table Nat := []
  /-- Begin of the present window, by rank. [ns; R330; none] -/
  windowFrom : Table Nat := []
  /-- Time of the last breach. [64 bits, ns; R331; 0] -/
  time : Nat := 0
  /-- Rank of the last breach. [8 bits; R331; 0] -/
  rank : Nat := 0
deriving DecidableEq, Repr

/-! ### Self-test -/

/-- An item of the scheduler (Table ST-5). -/
structure Item where
  /-- 0 waiting, 1 eligible, 2 under test, 3 failed, 4 out of use. [8 bits; R381; 0] -/
  state : Nat := 0
  /-- Last result. [8 bits; R381; 0] -/
  result : Nat := 0
  /-- Device time of the last pass. [64 bits, ns; R381; 0] -/
  passed : Nat := 0
  /-- Operating time from which the age counts. [ns; R376, R381; DESIGN CHOICE 0, log 21] -/
  ageFrom : Nat := 0
  /-- Last signature. [64 bits; R381; 0] -/
  signature : Nat := 0
  /-- Last pattern count. [16 bits; R381; 0] -/
  patterns : Nat := 0
  /-- Last duration in µs. [16 bits; R381; 0] -/
  duration : Nat := 0
  /-- Next seed. [0 to 31; R366, R381; 0] -/
  seed : Nat := 0
  /-- Passes. [32 bits, saturating; R381; 0] -/
  passes : Nat := 0
  /-- The PRPG as the test under way, or the last, was seeded. [64 bits; R364; DESIGN CHOICE 0, log 21] -/
  prpg : BitVec 64 := 0
  /-- Array test hold: the copy of the block states. [R236; none] -/
  copy : Table Blk := []
deriving DecidableEq, Repr

/-- The snapshot that the live status and the header of a site are answered from, taken at the end of an evaluation
tick (R123, R138, R368). -/
structure LiveSnap where
  /-- Copy of the inputs and sources of the site. [as Field; R368; no copy] -/
  field : Field := {}
  /-- Copy of the arrays. [as Array; R368; no copy] -/
  array : Array := {}
  /-- Copy of the outputs and brakes. [as Outs; R368; no copy] -/
  outs  : Outs := {}
  /-- Copy of the supplies and monitors. [as Power; R368; no copy] -/
  power : Power := {}
  /-- Copy of the collector. [as Collector; R368; no copy] -/
  col   : Collector := {}
deriving DecidableEq, Repr

structure SelfTest where
  /-- Items 0 to 11. [12; R376; waiting] -/
  items : Table Item := []
  /-- Tests passed. [32 bits, saturating; R381; 0] -/
  passed : Nat := 0
  /-- Tests failed. [32 bits, saturating; R381; 0] -/
  failed : Nat := 0
  /-- Tests abandoned. [32 bits, saturating; R378, R381; 0] -/
  abandoned : Nat := 0
  /-- Rotation step. [0 to 4; R370; 0] -/
  step : Nat := 0
  /-- Cores of the round not tested yet, in order. [R371; empty] -/
  untested : List Nat := []
  /-- A handover of this partition is requested. [R304; none] -/
  handover : Option Nat := none
  /-- When the last step of a rotation ended, plus 1. [ns; R370; 0 none] -/
  stepEnd : Nat := 0
  /-- Operating time from which the absence of a calibration counts, where an element has had none. [ns; R375; DESIGN
  CHOICE 0, log 21] -/
  calFrom : Nat := 0
  /-- Snapshots of the last evaluation tick, by site. [copies; R123, R138, R368; empty] -/
  snaps : List (Nat × LiveSnap) := []
deriving DecidableEq, Repr

/-! ### Networks -/

/-- An Ethernet port (Table NW-8). -/
structure EthPort where
  /-- Link up. [1 bit; R426; 0] -/
  up : Bool := false
  /-- Speed code of Table NW-8. [2 bits; R426; 0] -/
  speed : Nat := 0
  /-- Held down for half duplex. [1 bit; R382, R426; 0] -/
  half : Bool := false
  /-- Frames received. [32 bits, saturating; R426; 0] -/
  rx : Nat := 0
  /-- Frames sent. [32 bits, saturating; R426; 0] -/
  tx : Nat := 0
  /-- Frames dropped. [32 bits, saturating; R384, R426; 0] -/
  dropped : Nat := 0
  /-- Queue drops. [32 bits, saturating; R386, R426; 0] -/
  queueDrops : Nat := 0
  /-- KDP discards. [32 bits, saturating; R134, R426; 0] -/
  kdpDiscards : Nat := 0
  /-- Transmit queue Q0. [≤ 64 frames; R386; empty] -/
  q0 : List EthFrame := []
  /-- Transmit queue Q1. [≤ 32 frames; R386; empty] -/
  q1 : List EthFrame := []
  /-- Transmit queue Q2. [≤ 8 frames; R386; empty] -/
  q2 : List EthFrame := []
  /-- Transmit queue Q3. [≤ 32 frames; R386; empty] -/
  q3 : List EthFrame := []
  /-- The frame under transmission. [1 frame; R386; none] -/
  sending : Option EthFrame := none
  /-- No supervision frame for 6,000 ms. [1 bit; R388; no] -/
  supLost : Bool := false
  /-- Time of the last supervision frame received, plus 1. [ns; R388; 0 none] -/
  supAt : Nat := 0
  /-- Residence times of the PTP event messages that left by this port, until the message that carries them on. [ns; R389;
  empty] -/
  residences : List (PtpMsg × Nat) := []
deriving DecidableEq, Repr

/-- A switch and its station (R383 to R389). -/
structure Switch where
  /-- Learned addresses: MAC to port. [1,024 entries; R383; empty] -/
  macs : Table Nat := []
  /-- When each address was last learned. [ns; R383; none] -/
  macsAt : Table Nat := []
  /-- ARP cache: IPv4 to MAC. [64 entries; R384; empty] -/
  arp : Table Nat := []
  /-- When each entry of the cache was made. [ns; R384; none] -/
  arpAt : Table Nat := []
  /-- Operating times of the ICMP replies of the last second, oldest first. [≤ 10, ns; R384, R463; empty] -/
  icmp : List Nat := []
  /-- Duplicate-discard entries: MAC and sequence. [256 addresses; R387; empty] -/
  dups : List (Nat × Nat) := []
  /-- When each duplicate-discard entry was made, newest first as the entries. [ns; R387; empty] -/
  dupsAt : List Nat := []
  /-- Time of the last supervision frame sent, plus 1. [ns; R387; 0 none] -/
  supSent : Nat := 0
  /-- Duplicates discarded. [32 bits, saturating; R387, R428; 0] -/
  dupCount : Nat := 0
  /-- Sequence number of frames sent on the redundant pair. [16 bits; R387; DESIGN CHOICE 0, log 21] -/
  redSeq : Nat := 0
  /-- PTP role of the station: 0 disabled, 1 master, 2 slave, 3 passive. [2 bits; R389, R472; 0] -/
  role : Nat := 0
  /-- Sequence of the Sync under way. [16 bits; R389; DESIGN CHOICE 0, log 21] -/
  syncSeq : Nat := 0
  /-- Interval at which the master sends its Sync messages. [ns; R389, R464; DESIGN CHOICE 0, log 21] -/
  syncInterval : Nat := 0
  /-- Receipt of that Sync. [64 bits, ns; R389; DESIGN CHOICE 0, log 21] -/
  syncTime : Nat := 0
  /-- Sequence of the delay request under way. [16 bits; R389; DESIGN CHOICE 0, log 21] -/
  delaySeq : Nat := 0
  /-- Sending of that delay request. [64 bits, ns; R389; DESIGN CHOICE 0, log 21] -/
  delayTime : Nat := 0
  /-- Delay from master to slave of the last Sync: receipt less origin. [ns; R389; DESIGN CHOICE 0, log 21] -/
  down : Int := 0
  /-- Mean path delay. [32 bits, ns; R389, R472; 0] -/
  pathDelay : Int := 0
deriving DecidableEq, Repr

/-- A CAN frame handed to a port for transmission. -/
structure CanFrame where
  /-- Identifier of a frame handed over. [11 bits; R393; none] -/
  id   : Nat
  /-- CAN FD frame. [1 bit; R393; none] -/
  fd   : Bool := false
  /-- Bit-rate switch. [1 bit; R393; none] -/
  brs  : Bool := false
  /-- 29-bit identifier. [1 bit; R393; none] -/
  ext  : Bool := false
  /-- Data of the frame. [≤ 64 bytes; R393; none] -/
  data : List Byte
deriving DecidableEq, Repr, Inhabited

/-- A CAN port (Table NW-9). -/
structure CanPort where
  /-- 0 active, 1 passive, 2 bus-off, 3 silent. [8 bits; R427; 3] -/
  bus : Nat := 3
  /-- Transmit error counter. [8 bits; R427; 0] -/
  tec : Nat := 0
  /-- Receive error counter. [8 bits; R427; 0] -/
  recv : Nat := 0
  /-- Bus-off events. [32 bits, saturating; R427; 0] -/
  offs : Nat := 0
  /-- Frames received. [32 bits, saturating; R427; 0] -/
  rx : Nat := 0
  /-- Frames sent. [32 bits, saturating; R427; 0] -/
  tx : Nat := 0
  /-- NMT state. [8 bits; R427; 0] -/
  nmt : Nat := 0
  /-- Frames handed over for transmission, in the order of sending. [R393; empty] -/
  out : List CanFrame := []
  /-- Those of them whose sending has begun. [count; R329; 0] -/
  begun : Nat := 0
  /-- Time of the last hand-over, plus 1. [ns; R329; 0 none] -/
  outAt : Nat := 0
  /-- The settings under which the port started: node-ID, rates and sample points. [R391; 0] -/
  under : List Nat := []
deriving DecidableEq, Repr

/-- A Genxon link (Table NW-9). -/
structure LinkSt where
  /-- 0 down, 1 syncing, 2 up, 3 peer mismatch. [8 bits; R427; 0] -/
  state : Nat := 0
  /-- Syncing has ended: hellos are sent. [1 bit; R396; no] -/
  synced : Bool := false
  /-- Time of the last hello sent, plus 1. [ns; R396; 0 none] -/
  helloAt : Nat := 0
  /-- Time of the last hello received, plus 1. [ns; R396; 0 none] -/
  heardAt : Nat := 0
  /-- Peer link and device of the last hello, :05. [32 bits; R427; 0] -/
  peer : Nat := 0
  /-- Peer serial of the last hello. [64 bits; R396; DESIGN CHOICE 0, log 21] -/
  serial : Nat := 0
  /-- Frames received. [32 bits, saturating; R427; 0] -/
  rx : Nat := 0
  /-- Frames sent. [32 bits, saturating; R427; 0] -/
  tx : Nat := 0
  /-- Code violations. [32 bits, saturating; R427; 0] -/
  violations : Nat := 0
  /-- Interrupted frames. [32 bits, saturating; R397, R427; 0] -/
  interrupted : Nat := 0
  /-- Frames discarded. [32 bits, saturating; R395, R427; 0] -/
  discarded : Nat := 0
  /-- Frames handed over for sending, in the order of sending. [frames; R397; empty] -/
  out : List (List Byte) := []
  /-- Those of them whose sending has begun. [count; R329; 0] -/
  begun : Nat := 0
  /-- Time of the last hand-over, plus 1. [ns; R329; 0 none] -/
  outAt : Nat := 0
deriving DecidableEq, Repr

/-- A Genxon Safe connection (Table NW-11). -/
structure Conn where
  /-- 0 unused, 1 waiting, 2 valid, 3 not valid, 4 sending. [8 bits; R429; 0] -/
  state : Nat := 0
  /-- The sequence number that the next one is held against: last sent, last accepted, or of a telegram beyond the window.
  [32 bits; R404, R407; 0] -/
  seq : Nat := 0
  /-- Last sequence number sent or accepted. [32 bits; R429; 0] -/
  last : Nat := 0
  /-- Route of the last acceptance. [route bit; R411; 0] -/
  route : Nat := 0
  /-- An expiry of the watchdog in whose time tick a telegram was accepted: its time, plus 1. [ns; R411; 0 none] -/
  expiry : Nat := 0
  /-- A sequence number is fixed. [1 bit; R407; no] -/
  fixed : Bool := false
  /-- Consecutive acceptances towards validity. [count; R410; 0] -/
  run : Nat := 0
  /-- Time of the last acceptance. [ns; R409, R410; DESIGN CHOICE 0, log 21] -/
  lastAt : Nat := 0
  /-- The watchdog runs. [1 bit; R409; no] -/
  dog : Bool := false
  /-- Time stamp of the last accepted telegram. [48 bits; R407, R429; 0] -/
  stamp : Nat := 0
  /-- Device time of the last acceptance as the object shows it. [64 bits, ns; R429; 0] -/
  accepted : Nat := 0
  /-- Telegrams sent or accepted. [32 bits, saturating; R429; 0] -/
  telegrams : Nat := 0
  /-- CRC failures. [32 bits, saturating; R429; 0] -/
  crc : Nat := 0
  /-- MAC failures. [32 bits, saturating; R429; 0] -/
  mac : Nat := 0
  /-- Repeated telegrams discarded. [32 bits, saturating; R429; 0] -/
  repeats : Nat := 0
  /-- Telegrams over age. [32 bits, saturating; R429; 0] -/
  aged : Nat := 0
  /-- Deadline misses. [32 bits, saturating; R429; 0] -/
  misses : Nat := 0
  /-- Payload of the last accepted telegram. [64 bytes; R403; zeros] -/
  payload : List Byte := []
  /-- CRC and MAC failures in the last 1,000 ms, ns, newest first. [R408; empty] -/
  fails : List Nat := []
  /-- Time 0x0C04 was last raised, plus 1. [R407; DESIGN CHOICE 0, log 21] -/
  macRaised : Nat := 0
  /-- Payload last sent. [64 bytes; R316; empty] -/
  sent : List Byte := []
deriving DecidableEq, Repr

/-- Paired packages (R413 to R418). -/
structure Pairing where
  /-- A disagreement was detected: set in every exchange sent. [1 bit; R416; no] -/
  detected : Bool := false
  /-- Time at which the last matching check was accepted, plus 1. [R417; DESIGN CHOICE 0, log 21] -/
  checked : Nat := 0
  /-- Inputs that disagreed at the last comparison. [R416; empty] -/
  differing : List Nat := []
  /-- When each of them first disagreed. [ns; R416; none] -/
  since : Table Nat := []
  /-- Timer step of the last exchange sent, plus 1. [ns; R409, R414; 0 none] -/
  exchangeAt : Nat := 0
  /-- Time of the last pairing check sent, plus 1. [ns; R417; 0 none] -/
  checkAt : Nat := 0
  /-- Last disagreeing input, 0xFFFF none. [16 bits; R428; 0xFFFF] -/
  lastInput : Nat := 0xFFFF
  /-- Exchanges accepted over the first link. [32 bits, saturating; R428; 0] -/
  first : Nat := 0
  /-- Exchanges accepted over the second link. [32 bits, saturating; R428; 0] -/
  second : Nat := 0
  /-- Sequence of the exchange telegrams sent. [32 bits; R404; DESIGN CHOICE 0, log 21] -/
  seq : Nat := 0
  /-- Time of the last comparison at which an input disagreed. [ns; R425; DESIGN CHOICE 0, log 21] -/
  lastDiff : Nat := 0
deriving DecidableEq, Repr

/-- An SPI channel (R420). -/
structure Spi where
  /-- Transfers completed. [32 bits, saturating; R424; 0] -/
  done : Nat := 0
  /-- Transfers abandoned. [32 bits, saturating; R420, R424; 0] -/
  abandoned : Nat := 0
  /-- Bytes that the transfer under way or the last one shifts out. [≤ 64 bytes; R420; none] -/
  mosi : List Byte := []
  /-- Bytes placed in the slot at the last boundary. [64 bytes; R424; zeros] -/
  last : List Byte := []
  /-- Device time of the last transfer start. [64 bits, ns; R424; 0] -/
  start : Nat := 0
  /-- Start of the last transfer. [ns; R420; DESIGN CHOICE 0, log 21] -/
  begins : Nat := 0
  /-- A transfer is under way. [1 bit; R420; no] -/
  busy : Bool := false
  /-- Bytes received and not placed yet. [≤ 64 bytes; R420; none] -/
  received : Option (List Byte) := none
deriving DecidableEq, Repr

/-- A UART (R422). -/
structure Uart where
  /-- Frames sent. [32 bits, saturating; R424; 0] -/
  frames : Nat := 0
  /-- Stream start. [64 bits; R424; 0] -/
  start : Nat := 0
  /-- Page sequence to be sent next. [64 bits; R424; 0] -/
  next : Nat := 0
  /-- Gap frames. [32 bits, saturating; R424; 0] -/
  gaps : Nat := 0
  /-- Held by 0x13. [1 bit; R424; no] -/
  held : Bool := false
  /-- The last frame sent. [bytes; R422; empty] -/
  line : List Byte := []
  /-- Time of the last status frame, plus 1. [ns; R422; 0 none] -/
  statusAt : Nat := 0
deriving DecidableEq, Repr

/-- A board temperature sensor (R423). -/
structure Sensor where
  /-- Last good read in 0.1 °C. [16 bits; R424; −32,768] -/
  value : Int := -32768
  /-- Consecutive reads above the threshold. [count; R423; DESIGN CHOICE 0, log 21] -/
  high : Nat := 0
  /-- Consecutive failed transactions. [count; R423; DESIGN CHOICE 0, log 21] -/
  bad : Nat := 0
deriving DecidableEq, Repr

structure Net where
  /-- Ethernet ports E0 to E7. [8; R426; as the fields of EthPort] -/
  ports : Table EthPort := []
  /-- Switches and stations A and B. [2; R383; as the fields of Switch] -/
  switches : Table Switch := []
  /-- CAN ports CN0 and CN1. [2; R427; as the fields of CanPort] -/
  cans : Table CanPort := []
  /-- Genxon links. [8; R427; as the fields of LinkSt] -/
  links : Table LinkSt := []
  /-- Genxon Safe connections. [512; R429; as the fields of Conn] -/
  conns : Table Conn := []
  /-- The paired package. [1; R413; as the fields of Pairing] -/
  pairing : Pairing := {}
  /-- SPI channels. [4; R424; as the fields of Spi] -/
  spis : Table Spi := []
  /-- UARTs. [4; R424; as the fields of Uart] -/
  uarts : Table Uart := []
  /-- Board temperature sensors. [4; R423; as the fields of Sensor] -/
  sensors : Table Sensor := []
  /-- Failed transactions of the sensors. [32 bits, saturating; R424; 0] -/
  i2cFails : Nat := 0
  /-- Identity memory content. [128 bytes; R424; zeros] -/
  identity : List Byte := []
  /-- Read result of the identity memory. [8 bits; R424; 0] -/
  identityResult : Nat := 0
  /-- Genxon Safe telegrams of unknown identity. [32 bits, saturating; R428; 0] -/
  unknownId : Nat := 0
  /-- Format and CRC discards. [32 bits, saturating; R428; 0] -/
  formatCrc : Nat := 0
  /-- MAC failures, all connections. [32 bits, saturating; R428; 0] -/
  macFails : Nat := 0
  /-- Time 0x0C05 was last raised on a route, plus 1. [R407; DESIGN CHOICE 0, log 21] -/
  unknownRaised : Table Nat := []
  /-- Time of the last heartbeat, plus 1. [ns; R392; 0 none] -/
  beatAt : Nat := 0
  /-- Time of the last poll of the temperature sensors, plus 1. [ns; R423; 0 none] -/
  pollAt : Nat := 0
deriving DecidableEq, Repr

/-! ### Ledger -/

/-- A page sealed and queued, or programmed in the ring (Table LG-7). -/
structure Page where
  /-- Page sequence number. [64 bits; R440; no page] -/
  seq     : Nat
  /-- Chain segment. [32 bits; R440; no page] -/
  segment : Nat
  /-- Hash of the page before it. [32 bytes; R440; no page] -/
  prev    : List Byte
  /-- Sequence number of its first record. [64 bits; R440; no page] -/
  firstRec : Nat
  /-- Its records. [≤ one page; R439, R440; no page] -/
  recs    : List LedgerRec
  /-- The block that holds it: of the ring by the running number of Ledger.block, of the pinned region by its place.
  [count; R437, R448, R456; no page] -/
  blk     : Nat := 0
deriving DecidableEq, Repr, Inhabited

/-- A pin (Table LG-9). -/
structure Pin where
  /-- 0 free, 1 pending, 2 copying, 3 held, 4 held truncated. [8 bits; R459; 0] -/
  state : Nat := 0
  /-- Window start. [64 bits, ns; R459; 0] -/
  start : Nat := 0
  /-- Window end. [64 bits, ns; R459; 0] -/
  stop : Nat := 0
  /-- First page. [64 bits; R459; 0] -/
  first : Nat := 0
  /-- Pages held. [pages; R455, R459; none] -/
  pages : List Page := []
  /-- Request time. [64 bits, ns; R459; 0] -/
  time : Nat := 0
  /-- Pinned by the device itself. [1 bit; R455; no] -/
  auto : Bool := false
  /-- Its window starts before the oldest ring page, or its copy filled the region: truncated. [1 bit; R456; no] -/
  cut : Bool := false
deriving DecidableEq, Repr

/-- An image slot of the NAND (R452). -/
structure ImageSlot where
  /-- Header page. [14 bytes, log 107; R452; erased] -/
  header : List Byte := []
  /-- Content of the slot. [≤ 1,048,576 bytes; R452; empty] -/
  bytes : List Byte := []
  /-- Validity page. [42 bytes, log 107; R452; erased] -/
  validity : List Byte := []
deriving DecidableEq, Repr

/-- What the mount takes from the identification of the NAND part (R431, Table LG-9). -/
structure NandPart where
  /-- Identification: 0 ID bytes, 0x10 ONFI 1.0, 0x20 ONFI 2.x. [8 bits; R431, R459; 0] -/
  onfi : Nat := 0
  /-- Page size. [16 bits, bytes; R459; 0] -/
  pageSize : Nat := 0
  /-- Spare size. [16 bits, bytes; R459; 0] -/
  spare : Nat := 0
  /-- Pages per block. [16 bits; R459; 0] -/
  pagesPerBlk : Nat := 0
  /-- Blocks of CE0. [32 bits; R459; 0] -/
  blocks0 : Nat := 0
  /-- Blocks of CE1, 0 not used. [32 bits; R430, R459; 0] -/
  blocks1 : Nat := 0
  /-- Timing mode in use. [0 to 5; R431, R459; 0] -/
  timingMode : Nat := 0
  /-- t_PROG max. [16 bits, µs; R459; 0] -/
  tProg : Nat := 0
  /-- t_BERS max. [16 bits, µs; R459; 0] -/
  tBers : Nat := 0
  /-- Part name. [≤ 32 characters; R459; empty] -/
  name : List Byte := []
deriving DecidableEq, Repr, Inhabited

/-- The tables of the control partition (R436, R437). -/
structure Control where
  /-- Generation. [count; R437, R448; 0 none] -/
  generation : Nat := 0
  /-- Bad-block table: the factory bad blocks, ascending. [physical blocks; R435; empty] -/
  factory : List Nat := []
  /-- Bad-block table: the retired blocks, newest first, with whether 0x00 was written to the spare byte 0 of the last page.
  [physical blocks; R435; empty] -/
  grown : List (Nat × Bool) := []
  /-- Physical block of each logical block, plus 1, where it is no longer the one of the format. [32 bits each; R436;
  empty] -/
  map : Table Nat := []
  /-- Erase count of each logical block's physical block. [32 bits each; R436, R459; 0] -/
  erases : Table Nat := []
  /-- Partition table: ring blocks as formatted. [32 bits; R437; 0] -/
  ringFormatted : Nat := 0
  /-- Places of the ring that it has given up. [places; R435; empty] -/
  given : List Nat := []
  /-- Pinned blocks. [32 bits; R437, R459; 0] -/
  pinBlocks : Nat := 0
  /-- Spare blocks left. [32 bits; R437, R459; 0] -/
  spares : Nat := 0
  /-- Scrub interval in days. [8 bits; R454, R459; 7] -/
  scrubDays : Nat := 7
  /-- End of the last complete scrub pass, operating time. [ns; R454; DESIGN CHOICE 0, log 21] -/
  scrubFrom : Nat := 0
deriving DecidableEq, Repr

/-- A parameter set (R451). -/
structure Backup where
  /-- Generation of the set. [64 bits; R451; 0 none] -/
  generation : Nat := 0
  /-- Parameter overlay. [overlay; R148, R451; none] -/
  overlay : Option Overlay := none
  /-- Learned values of the outputs. [Table OU-12; R271, R451; 0] -/
  learn : Table Learn := []
  /-- Learned values of the brakes. [Table OU-12; R276, R451; 0] -/
  brakeLearn : Table BrakeLearn := []
  /-- Door cycles and egress activations by entry. [2 × 32 bits each; R285, R451; 0] -/
  doors : Table (Nat × Nat) := []
  /-- Recovery counters and windows by class. [Table FC-10; R353, R451; 0] -/
  classes : Table ClassSt := []
  /-- Next seeds by item. [0 to 31 each; R366, R451; 0] -/
  seeds : Table Nat := []
  /-- Operating time. [64 bits; R451, R463; 0] -/
  opNs : Nat := 0
  /-- Session timeout. [16 bits, s; R150, R451; 300] -/
  timeout : Nat := 300
deriving DecidableEq, Repr

/-- The values of a parameter set that change in a delta page: all that the set holds, as they stand (R451). -/
structure Delta where
  /-- Generation of the delta page. [64 bits; R451; 0] -/
  generation : Nat := 0
  /-- The complete set that it follows. [set; R451; none] -/
  base : Backup := {}
  /-- The values of which it holds those that differ. [set; R451; none] -/
  now : Backup := {}
deriving DecidableEq, Repr

/-- The commands that the Ledger uses with the NAND part, and no others (R432). -/
inductive NandCmd where
  | reset
  | readId
  | readParameterPage
  | setFeatures
  | readStatus
  /-- 0x00, then 0x30. -/
  | pageRead
  /-- 0x80, then 0x10. -/
  | pageProgram
  /-- 0x80, then 0x15. -/
  | cacheProgram
  /-- 0x60, then 0xD0. -/
  | blockErase
deriving DecidableEq, Repr, Inhabited

structure Ledger where
  /-- 0 not mounted, 1 mounted, 2 flushing, 3 stopped, 4 formatting. [8 bits; R459; 0] -/
  state : Nat := 0
  /-- Mount result. [8 bits; R459; 0] -/
  result : Nat := 0
  /-- What the mount found: the part's identification, geometry and times. [Table LG-1, LG-9; R431, R459; 0 until a
  mount] -/
  part : NandPart := {}
  /-- Ring pages, oldest first. [NAND; R440; empty] -/
  ring : List Page := []
  /-- Sealed pages queued for programming. [R443; empty] -/
  queued : List Page := []
  /-- Records of the open page. [≤ one page; R443; empty] -/
  openRecs : List LedgerRec := []
  /-- When the oldest record of the open page was placed. [ns; R443; DESIGN CHOICE 0, log 21] -/
  openSince : Nat := 0
  /-- When the oldest record of rank 3 of the open page was placed. [ns; R444; DESIGN CHOICE 0, log 21] -/
  rank3Since : Nat := 0
  /-- Next page sequence. [64 bits; R440; 0] -/
  nextPage : Nat := 0
  /-- Running number of the ring block that is being written: one more for each block begun. [count; R437, R448; 0] -/
  block : Nat := 0
  /-- Pages programmed in that block. [count; R437, R448; 0] -/
  blockPages : Nat := 0
  /-- Chain segment. [32 bits; R440, R459; 0] -/
  segment : Nat := 0
  /-- Next record sequence. [64 bits; R440; 0] -/
  nextRec : Nat := 0
  /-- Number of the next anchor: 0x2A00:08 shows the one before it. [64 bits; R441, R459; 0] -/
  anchor : Nat := 0
  /-- Hash of the last page sealed. [32 bytes; R440; zeros] -/
  hash : List Byte := []
  /-- Records stored. [64 bits; R459; 0] -/
  stored : Nat := 0
  /-- Records dropped. [32 bits, saturating; R459; 0] -/
  dropped : Nat := 0
  /-- Records summarised. [32 bits, saturating; R459; 0] -/
  summarised : Nat := 0
  /-- Fill limit F in pages. [8 bits; R446, R459; 0] -/
  fill : Nat := 0
  /-- Hold-up mode. [1 bit; R444; no] -/
  holdup : Bool := false
  /-- The tables of the control partition that the Ledger works with. [tables; R436, R437; empty until a mount] -/
  tables : Control := {}
  /-- Their copies in the control partition, newest first. [2 copies; R437; none] -/
  control : List Control := []
  /-- The block of the pinned region that is being written, by its place plus 1. [count; R437, R456; 0 none] -/
  pinBlock : Nat := 0
  /-- Pages programmed in that block. [count; R437, R456; 0] -/
  pinPages : Nat := 0
  /-- Pages programmed in the parameter partition. [count; R451; 0] -/
  paramPages : Nat := 0
  /-- End of the last complete scrub pass. [64 bits, ns; R454, R459; 0] -/
  scrubTime : Nat := 0
  /-- Most corrected bits of a sector, last pass. [8 bits; R459; 0] -/
  worst : Nat := 0
  /-- Blocks rewritten. [32 bits, saturating; R459; 0] -/
  rewritten : Nat := 0
  /-- Uncorrectable pages. [32 bits, saturating; R459; 0] -/
  uncorrectable : Nat := 0
  /-- The chip enable whose operation under way is repeated after its first timeout. [0 or 1; R433; none] -/
  retried : Option Nat := none
  /-- Image slot A of the NAND. [slot; R452; empty] -/
  slotA : ImageSlot := {}
  /-- Image slot B of the NAND. [slot; R452; empty] -/
  slotB : ImageSlot := {}
  /-- The newest parameter set of the backup partition. [set; R451; none] -/
  backup : Backup := {}
  /-- The complete set before it. [set; R451; none] -/
  older : Backup := {}
  /-- The delta page after it. [page; R451; none] -/
  delta : Option Delta := none
  /-- A change waits to be written to the parameter backup. [1 bit; R451; no] -/
  dirty : Bool := false
  /-- When the oldest of them came. [ns; R271, R328, R463; none] -/
  dirtySince : Nat := 0
  /-- Their write has been counted as deferred beyond 60 s. [1 bit; R328; no] -/
  deferred : Bool := false
  /-- Pins 0 to 15. [16; R455, R459; free] -/
  pins : Table Pin := []
  /-- 0x2A08:01. [64 bits; R457, R459; 0] -/
  readPage : Nat := 0
  /-- 0x2A08:02, page data. [≤ 4,096 bytes; R457, R459; empty] -/
  pageData : List Byte := []
  /-- 0x2A08:03. [8 bits; R457, R459; 0] -/
  pageStatus : Nat := 0
  /-- 0x2A09:01. [8 bits; R457, R459; 0] -/
  readPin : Nat := 0
  /-- 0x2A09:02. [32 bits; R457, R459; 0] -/
  pinIndex : Nat := 0
  /-- 0x2A09:03, page data. [≤ 4,096 bytes; R457, R459; empty] -/
  pinData : List Byte := []
  /-- 0x2A09:04. [8 bits; R457, R459; 0] -/
  pinStatus : Nat := 0
  /-- 0x2A0C:01, ns. [64 bits; R459; 0] -/
  pinTime : Nat := 0
  /-- 0x2A0C:02, s. [16 bits; R459; 300] -/
  pinBefore : Nat := 300
  /-- 0x2A0C:03, s. [16 bits; R459; 60] -/
  pinAfter : Nat := 60
  /-- 0x2A0C:05. [8 bits; R459; 0] -/
  pinResult : Nat := 0
  /-- 0x2A0C:06. [8 bits; R459; 0xFF] -/
  lastPin : Nat := 0xFF
  /-- The last flush did not complete. [1 bit; R449; no] -/
  flushed : Bool := false
  /-- The last program of a flush failed: its page is incomplete. [1 bit; R447; no] -/
  torn : Bool := false
  /-- Code of the fault whose flush stopped the Ledger, 0 none. [16 bits; R448, R449; 0] -/
  flushCode : Nat := 0
  /-- The data and spare area of the record page programmed last. [≤ 4,352 bytes; R434; none] -/
  written : List Byte := []
  /-- The commands that the last operation gave the NAND part, oldest first; a command that it repeats stands once (log
  entry 87). [Table of R432; R432; empty] -/
  cmds : List NandCmd := []
deriving DecidableEq, Repr

/-! ### Time -/

structure Time where
  /-- The count of PLL A since the device left RESET, in ns: it times every reaction, and no step or slew of device time
  moves it. [ns; R409, R463, R465; 0] -/
  now : Nat := 0
  /-- Device time in ns. [64 bits; R462; 0] -/
  dev : Nat := 0
  /-- Fraction of the accumulator in 2⁻³² ns. [32 bits; R462; 0] -/
  frac : Nat := 0
  /-- Operating time, kept in ns; 0x2300:0B shows ms. [64 bits of ms; R463; 0] -/
  opNs : Nat := 0
  /-- Hairspring state. [8 bits; R464; FREE_RUN] -/
  spring : Nat := 0
  /-- Source in use. [8 bits; R472; 0] -/
  source : Nat := 0
  /-- Offset in ns. [32 bits; R472; 0] -/
  offset : Int := 0
  /-- Frequency adjustment in ppb. [32 bits; R472; 0] -/
  adjust : Int := 0
  /-- Consecutive updates within 1,000 ns. [count; R464; DESIGN CHOICE 0, log 21] -/
  close : Nat := 0
  /-- Consecutive updates above the step threshold. [count; R464; DESIGN CHOICE 0, log 21] -/
  far : Nat := 0
  /-- The last three updates of each source, newest first. [ns; R464; none] -/
  updates : Table (List Nat) := []
  /-- The last offset of each source. [ns; R464, R467; DESIGN CHOICE 0, log 21] -/
  offs : Table Int := []
  /-- The source in use has given no offset yet since it came into use. [1 bit; R464; no] -/
  fresh : Bool := false
  /-- Steps since power-up. [32 bits, saturating; R472; 0] -/
  steps : Nat := 0
  /-- Last edges of PPS0 and PPS1. [64 bits each, ns; R472; 0] -/
  edges : Table Nat := []
  /-- Last raw edges of PPS0 and PPS1. [64 bits each, ns; R467; DESIGN CHOICE 0, log 21] -/
  rawEdges : Table Nat := []
  /-- Next second written, none when used. [64 bits; R467; none] -/
  second : Option Nat := none
  /-- PPS inputs usable. [2 bits; R472; 0] -/
  ppsUsable : Nat := 0
  /-- PPS inputs lost. [2 bits; R472; 0] -/
  ppsLost : Nat := 0
  /-- PPSO high. [1 bit; R467; low] -/
  ppso : Bool := false
  /-- Entry into HOLDOVER. [ns; R464; none] -/
  heldSince : Nat := 0
deriving DecidableEq, Repr

/-- The whole block. -/
structure State where
  /-- The commands that wait, first in, first out. [queue; the block's command interface; empty] -/
  pending : List Instr := []
  ctl : Ctl := {}
  power : Power := {}
  fuses : Fuses := {}
  cfg : Cfg := {}
  dict : Dict := {}
  field : Field := {}
  /-- Pair-table entries by number 1 to 255. [255; R184; not evaluated] -/
  pairs : Table PairSt := []
  array : Array := {}
  outs : Outs := {}
  proc : Proc := {}
  col : Collector := {}
  breach : Breach := {}
  test : SelfTest := {}
  net : Net := {}
  led : Ledger := {}
  time : Time := {}
  /-- The model's own: free values drawn so far. [model; log 9; DESIGN CHOICE 0] -/
  draws : Nat := 0
deriving DecidableEq, Repr

/-- The block as it powers up: in RESET, its supplies not yet settled (R62, R84), nothing written. -/
def State.reset : State := {}

end Sys2Proof.Machine
end

