-- ==== Sys2Proof/Machine/Ops.lean ====
section
/-! DEFINITION. The named operations that the meanings share: sparse tables and memories, byte order,
saturating counters, time, source numbers, the populated sites and the levels of the fault codes. -/

namespace Sys2Proof.Machine

/-! ### Sparse tables -/

/-- The value of a table at a key: the default where the key is not listed. -/
def tget {α : Type} (d : α) : Table α → Nat → α
  | [], _ => d
  | (k, v) :: t, i => if k = i then v else tget d t i

/-- Put an entry that is not the default where its key belongs. -/
def tins {α : Type} : Table α → Nat → α → Table α
  | [], i, v => [(i, v)]
  | (k, w) :: t, i, v =>
    if i < k then (i, v) :: (k, w) :: t
    else if i = k then (i, v) :: t
    else (k, w) :: tins t i v

/-- A write that keeps the canonical form: keys rising, no entry equal to the default. Writing the default
removes the entry. -/
def tset {α : Type} [DecidableEq α] (d : α) (t : Table α) (i : Nat) (v : α) : Table α :=
  if v = d then t.filter (fun p => p.1 ≠ i) else tins t i v

/-- Change the entry at a key. -/
def tmod {α : Type} [DecidableEq α] (d : α) (t : Table α) (i : Nat) (f : α → α) : Table α :=
  tset d t i (f (tget d t i))

/-- Every key of a table is at least `n`, the keys rise, and no entry equals the default. -/
def tableFrom {α : Type} [DecidableEq α] (d : α) : Nat → Table α → Bool
  | _, [] => true
  | n, (k, v) :: t => decide (n ≤ k) && decide (v ≠ d) && tableFrom d (k + 1) t

/-- The canonical form of a table. -/
def tableOk {α : Type} [DecidableEq α] (d : α) (t : Table α) : Bool := tableFrom d 0 t

/-- The canonical form of a byte memory. -/
def Memory.wf (m : Mem) : Bool := tableOk 0 m

/-! ### Memory: a byte, and words least significant byte first -/

/-- The byte at an address; an address that nothing has written reads 0 (log entry 5). -/
def rdByte (m : Mem) (a : Nat) : Byte := tget 0 m a

/-- Write one byte. -/
def wrByte (m : Mem) (a : Nat) (b : Byte) : Mem := tset 0 m a b

/-- Write bytes at rising addresses. -/
def wrBytes : Mem → Nat → List Byte → Mem
  | m, _, [] => m
  | m, a, b :: bs => wrBytes (wrByte m a b) (a + 1) bs

/-- Read `n` bytes at rising addresses. -/
def rdBytes (m : Mem) (a : Nat) : Nat → List Byte
  | 0 => []
  | n + 1 => rdByte m a :: rdBytes m (a + 1) n

/-- The `n` bytes of a number, least significant first (R114). -/
def le : Nat → Nat → List Byte
  | 0, _ => []
  | n + 1, v => BitVec.ofNat 8 v :: le n (v / 256)

/-- The number that bytes spell, least significant first. -/
def unle : List Byte → Nat
  | [] => 0
  | b :: bs => b.toNat + 256 * unle bs

/-- The `n` bytes of a number, most significant first. -/
def be (n v : Nat) : List Byte := (le n v).reverse

/-- The number that bytes spell, most significant first. -/
def unbe (bs : List Byte) : Nat := unle bs.reverse

/-- The 32-bit word at an address, least significant byte first. -/
def rdWord (m : Mem) (a : Nat) : Word := BitVec.ofNat 32 (unle (rdBytes m a 4))

/-- Write a 32-bit word, least significant byte first. -/
def wrWord (m : Mem) (a : Nat) (w : Word) : Mem := wrBytes m a (le 4 w.toNat)

/-- Bytes cut or padded with zeros to a length. -/
def padTo (n : Nat) (bs : List Byte) : List Byte := (bs.take n) ++ List.replicate (n - bs.length) 0

/-- Zero bytes. -/
def zeros (n : Nat) : List Byte := List.replicate n 0

/-! ### Bits and counters -/

/-- Bit `i` of a number. -/
def bit (v i : Nat) : Bool := v.testBit i

/-- A flag as a number. -/
def b2n (b : Bool) : Nat := if b then 1 else 0

/-- Set or clear bit `i` of a number. -/
def setBit (v i : Nat) (b : Bool) : Nat :=
  if v.testBit i then (if b then v else v - 2 ^ i) else (if b then v + 2 ^ i else v)

/-- The number whose bit `i` is `f i`, for `i` below `n`. -/
def bitsOf (f : Nat → Bool) : Nat → Nat
  | 0 => 0
  | n + 1 => bitsOf f n + (if f n then 2 ^ n else 0)

/-- The bits from `lo`, `n` of them. -/
def field (v lo n : Nat) : Nat := (v >>> lo) % 2 ^ n

/-- A saturating 32-bit count. -/
def inc32 (v : Nat) (k : Nat := 1) : Nat := min (v + k) 0xFFFFFFFF

/-- A saturating 16-bit count. -/
def inc16 (v : Nat) (k : Nat := 1) : Nat := min (v + k) 0xFFFF

/-- A number modulo 2³². -/
def mod32 (v : Nat) : Nat := v % 2 ^ 32

/-- Clamp an integer between two bounds. -/
def clamp (lo hi v : Int) : Int := if v < lo then lo else if hi < v then hi else v

/-- The number that carries an integer in `n` bytes, two's complement. -/
def twos (n : Nat) (v : Int) : Nat := (v % (2 ^ (8 * n) : Int)).toNat

/-- The integer that `n` bytes carry, two's complement. -/
def untwos (n : Nat) (v : Nat) : Int := if v < 2 ^ (8 * n - 1) then v else (v : Int) - 2 ^ (8 * n)

/-- Distance of two numbers. -/
def ndist (a b : Nat) : Nat := (a - b) + (b - a)

/-! ### Time -/

/-- What one cycle of the TIME clock adds to device time, in 2⁻³² ns: 10 ns scaled by the frequency adjustment (R462). -/
def Time.step (t : Time) : Nat := ((10 * 2 ^ 32 * (1000000000 + t.adjust)) / 1000000000).toNat

/-- Device time after `d` ns: each whole cycle of the TIME clock that ends in them adds its step through the 32-bit
fractional accumulator, and the count has 64 bits (R462). -/
def Time.run (d : Nat) (t : Time) : Time :=
  let acc := t.frac + ((t.now + d) / 10 - t.now / 10) * t.step
  { t with now := t.now + d, dev := (t.dev + acc / 2 ^ 32) % 2 ^ 64, frac := acc % 2 ^ 32 }

/-- Operating time after `d` ns in a state: it counts from STARTUP_TEST on (R463). -/
def DevState.operating (d : Nat) : DevState → Nat
  | .reset | .fuseSense => 0
  | .startupTest | .configLoad | .safe | .run | .configure | .maintenance | .halt => d

/-- Let time run to `t` of PLL A's count, when `t` is ahead: device time runs with it, and operating time from STARTUP_TEST
on (R462, R463; log entry 91). -/
def advance (t : Nat) (s : State) : State :=
  let d := t - s.time.now
  { s with time := { s.time.run d with opNs := s.time.opNs + s.ctl.st.operating d } }

/-- One cycle of the TIME clock without a command (R462, R463): device time goes on outside RESET, where
it starts from 0 (R84), and operating time counts from STARTUP_TEST on (log entry 1). -/
def idle (s : State) : State :=
  match s.ctl.st with
  | .reset => s
  | .fuseSense | .startupTest | .configLoad | .safe | .run | .configure | .maintenance | .halt => advance (s.time.now + 10) s

/-- A time rounded down to a 10 ns time tick (R14, R340). -/
def tick10 (t : Nat) : Nat := t - t % 10

/-- The device time of an instant `t` of PLL A's count, as the two counts stand to each other now: device time counts at
the end of each 10 ns cycle (R462, R463, R465). -/
def devAt (s : State) (t : Nat) : Nat := (((s.time.dev + t : Nat) : Int) - (tick10 s.time.now : Int)).toNat

/-- The multiple of `p` ns of device time that is due where the last one was served at the device time `last`, plus 1; 0
is none, and then a multiple at which device time stands counts (R357, R467). -/
def dueMultiple (p last dev : Nat) : Nat :=
  if last = 0 then (if dev % p < 10 then dev else (dev / p + 1) * p)
  else min (((last - 1) / p + 1) * p) ((dev / p + 1) * p)

/-- Let time run until device time has come to `due`: as many cycles of the TIME clock as that takes (R462; log entry 23). -/
def runToDev (due : Nat) (s : State) : State :=
  advance (s.time.now + 10 * (((due - s.time.dev) * 2 ^ 32 - s.time.frac + s.time.step - 1) / s.time.step)) s

/-- Let time run on to `d` ns after a stamped instant: `at_` is that instant plus 1, and 0 where there is none (log
entry 23). -/
def afterStamp (at_ d : Nat) (s : State) : State := if at_ = 0 then s else advance (at_ - 1 + d) s

/-- Operating time in ms (R463). -/
def opMs (s : State) : Nat := s.time.opNs / 1000000

/-- A second in ns. -/
def second : Nat := 1000000000

/-! ### Sites and source numbers (Table FC-2) -/

/-- The site of a source number below 0x0700. -/
def siteOf (src : Nat) : Nat := src / 256

/-- The offset of a source number within its site. -/
def offOf (src : Nat) : Nat := src % 256

/-- A source number of site `f`. -/
def elemAt (f o : Nat) : Nat := f * 256 + o

/-- Whether a source number names an element, supply or die of a site. -/
def isSiteSrc (src : Nat) : Bool := decide (src < 0x0700)

/-- The numbers below `n`. -/
def upto (n : Nat) : List Nat := List.range n

/-- The populated-site mask of fuse word 1 (R3, Table SU-3). The shadow is read once sensing has
loaded it (R94). -/
def popMask (s : State) : Nat := ((tget {} s.fuses.shadow 1).value.toNat) % 128

/-- Whether site `f` is populated. -/
def populated (s : State) (f : Nat) : Bool := decide (f < 7) && bit (popMask s) f

/-- The populated sites, ascending. -/
def popSites (s : State) : List Nat := (upto 7).filter (populated s)

/-- A shadow word after correction (R94). -/
def shadowWord (s : State) (i : Nat) : Nat := (tget {} s.fuses.shadow i).value.toNat

/-- Whether a capability of Table OD-6 is present (R126). -/
def hasCap (s : State) (id : Nat) : Bool := s.fuses.caps.contains id

/-- Whether a source number names something the device has (R4, R15). -/
def srcExists (s : State) (src : Nat) : Bool :=
  if src < 0x0700 then populated s (siteOf src) && (decide (offOf src < 0x28)
    || (decide (0x40 ≤ offOf src) && decide (offOf src < 0x58))
    || (decide (0x60 ≤ offOf src) && decide (offOf src < 0x62))
    || (decide (0x70 ≤ offOf src) && decide (offOf src < 0x74)) || decide (offOf src = 0xFF))
  else true

/-! ### Device state -/

/-- The state code of Table AR-6, with the two codes of 0x2101:02. -/
def DevState.code : DevState → Nat
  | .reset => 0x00
  | .fuseSense => 0x01
  | .startupTest => 0x10
  | .configLoad => 0x10
  | .safe => 0x20
  | .run => 0x30
  | .configure => 0x40
  | .maintenance => 0x50
  | .halt => 0x7F

/-- Whether inputs are sampled and the lanes evaluate: SAFE, RUN and MAINTENANCE (Table AR-6). -/
def evaluating (s : State) : Bool :=
  match s.ctl.st with
  | .safe => true
  | .run => true
  | .maintenance => true
  | _ => false

/-- Whether the device is in RUN. -/
def inRun (s : State) : Bool := decide (s.ctl.st = .run)

/-- Whether an image is in force (R43). -/
def configured (s : State) : Bool := s.cfg.image.isSome

/-- Whether the image in force names a site (R5). -/
def siteNamed (s : State) (f : Nat) : Bool :=
  match s.cfg.image with
  | some i => bit i.sites f
  | none => false

/-! ### Fault codes -/

/-- The defined level of a code (the defining tables of each chapter, R334). 0x0B31 has the level of its
domain, from the source: L3 for an F die or a core, L2 otherwise (R471). The detail bytes of 0x80 and above, which no
table uses, hold the code of a failed status link, of L3 (Table AR-2, log entry 18). -/
def codeLevel (code src : Nat) : Nat :=
  if code = 0x0B31 then (if src < 0x0704 then 3 else 2)
  else if [0x0605, 0x0606, 0x0802, 0x0803, 0x0804, 0x0805, 0x0909, 0x090A, 0x0A01, 0x0A06, 0x0A07,
      0x0B01, 0x0B02, 0x0B03, 0x0B08, 0x0C06, 0x0C40, 0x0E01, 0x0E02].contains code then 4
  else if [0x0501, 0x0502, 0x0507, 0x0508, 0x0509, 0x050A, 0x0603, 0x0701, 0x0703, 0x0704, 0x0A03,
      0x0A04, 0x0A05, 0x0B04, 0x0B07, 0x0C20, 0x0C21, 0x0C22, 0x0C23, 0x0E10, 0x0E11, 0x0E12,
      0x0E13, 0x0E16, 0x0E17].contains code then 3
  else if [0x0101, 0x0102, 0x0103, 0x0104, 0x0109, 0x010B, 0x0201, 0x0202, 0x0203, 0x0204, 0x0301,
      0x0302, 0x0303, 0x0304, 0x0305, 0x0308, 0x0309, 0x030A, 0x030B, 0x030C, 0x030D, 0x030E,
      0x0401, 0x0402, 0x0403, 0x0404, 0x0405, 0x0406, 0x0408, 0x0505, 0x0506, 0x0905, 0x0908,
      0x0A02, 0x0B09, 0x0B22, 0x0B23, 0x0C01, 0x0C02, 0x0C03, 0x0C10, 0x0D08, 0x0D0A, 0x0D0E,
      0x0E14, 0x0E15, 0x0F10, 0x1001, 0x1002, 0x1003, 0x1004].contains code then 2
  else if [0x0105, 0x0106, 0x0107, 0x010A, 0x010C, 0x0306, 0x0307, 0x030F, 0x0407, 0x0409, 0x0503,
      0x0504, 0x0604, 0x0901, 0x0902, 0x0903, 0x0904, 0x0906, 0x0907, 0x0A08, 0x0A09, 0x0B05,
      0x0B06, 0x0B0A, 0x0B0B, 0x0B21, 0x0C04, 0x0C05, 0x0D01, 0x0D02, 0x0D03, 0x0D05, 0x0D07,
      0x0D0C, 0x0D0D, 0x0D40, 0x0D41, 0x0E18, 0x0E19, 0x0F01, 0x0F02, 0x0F03, 0x0F04, 0x0F05,
      0x0F06, 0x0F07, 0x0F08, 0x0F09, 0x0F0A, 0x0F0B, 0x0F20, 0x0F30, 0x0F31].contains code then 1
  else if 0x80 ≤ code % 256 then 3
  else 0

end Sys2Proof.Machine

namespace Sys2Proof

/-- The defined level of a report (R334). -/
def Report.lvl (a : Report) : Nat := Machine.codeLevel a.code a.source

end Sys2Proof

namespace Sys2Proof.Machine

/-- The class byte of a code (R332). -/
def codeClass (code : Nat) : Nat := code / 256

/-- Whether a code is one that can be raised: of a class of Table FC-1, and with a level in a defining table (R332,
R334). -/
def codeDefined (code : Nat) : Bool :=
  decide (1 ≤ codeClass code) && decide (codeClass code ≤ 0x10) && (decide (codeLevel code 0 ≠ 0)
    || [0x0108, 0x010D, 0x0601, 0x0602, 0x0702, 0x0801, 0x0A0A, 0x0B0C, 0x0D04, 0x0D06, 0x0D09, 0x0E1A].contains code)

/-- Whether a source number is one of Table FC-2 (R333). -/
def sourceDefined (n : Nat) : Bool :=
  if n < 0x0700 then
    let o := n % 256
    decide (o < 0x28) || (decide (0x40 ≤ o) && decide (o < 0x58)) || decide (o = 0x60) || decide (o = 0x61)
      || (decide (0x70 ≤ o) && decide (o < 0x74)) || decide (o = 0xFF)
  else if n < 0x0800 then
    let o := n - 0x0700
    decide (o < 4) || (decide (8 ≤ o) && decide (o < 0x0B)) || (decide (0x10 ≤ o) && decide (o < 0x1A))
      || (decide (0x20 ≤ o) && decide (o < 0x28)) || (decide (0x30 ≤ o) && decide (o < 0x36))
      || [0x40, 0x50, 0x60, 0x70, 0x78, 0x7E, 0xFF].contains o
  else (decide (0x0801 ≤ n) && decide (n ≤ 0x08FF)) || (decide (0x1000 ≤ n) && decide (n < 0x1200))

/-- The report of a checker at the present instant (R339, R340). -/
def report (s : State) (code src : Nat) (second : Nat := 0xFFFF) (detail : Nat := 0) : Report :=
  { code := code, source := src, second := second, detail := detail, time := tick10 s.time.now }

/-- The same for a decision of a sample tick or of an evaluation tick's logical time (R340). -/
def reportAt (s : State) (t code src : Nat) (second : Nat := 0xFFFF) (detail : Nat := 0) : Report :=
  { report s code src second detail with time := tick10 t }

/-- A report whose condition is gone in the time tick of its detection (R346). -/
def momentary (r : Report) : Report := { r with lasting := false }

/-- The content of a DOMAIN object changes: its 16-bit generation number goes on (R122, R133). -/
def bump (idx sub : Nat) (s : State) : State :=
  { s with dict := { s.dict with
    generations := tset 0 s.dict.generations (idx * 256 + sub)
      ((tget 0 s.dict.generations (idx * 256 + sub) + 1) % 65536) } }

/-- Draw a fresh number for a free value (log entry 9). -/
def draw (s : State) : Nat × State := (s.draws, { s with draws := s.draws + 1 })

end Sys2Proof.Machine
end

