-- ==== Sys2Proof/Machine/Objects.lean ====
section
/-! DEFINITION. The object dictionary's layout: which indexes exist, and for each object and subindex its
type, access code, default and range (R113 to R116 and the object tables of every chapter). An index is
read as a group (the lowest index of its kind) and an element; for the per-site objects the element is
the source number of Table FC-2. Ranges that a table writes as codes count as enumerated sets
(log entry 10). -/

namespace Sys2Proof.Machine

/-- The data types of R114; a string or DOMAIN with its sizes in bytes. -/
inductive Ty where
  | bool
  | unsigned (bytes : Nat)
  | signed (bytes : Nat)
  | text (max : Nat)
  | octets (least most : Nat)
  | dom (max : Nat)
deriving DecidableEq, Repr, Inhabited

/-- The access codes of Table OD-1. -/
inductive Acc where
  | ro
  | const
  | rw
  | wo
  | srw
  | mrw
deriving DecidableEq, Repr, Inhabited

/-- The range of a numeric object. `num` gives 0x06090031 above and 0x06090032 below; `codes`,
`codesOr` and `vals` are enumerated sets, `mask` a bit field and `rule` a set the text states; outside
them the code is 0x06090030. `step` is a numeric range whose values must be multiples. -/
inductive Rng where
  | any
  | num (lo hi : Int)
  | step (lo hi k : Int)
  | codes (lo hi : Int)
  | codesOr (lo hi extra : Int)
  | vals (l : List Int)
  | mask (m : Nat)
  | rule (n : Nat)
deriving DecidableEq, Repr, Inhabited

/-- One line of an object table: the group, the subindexes it covers, and what they hold. -/
structure Row where
  grp  : Nat
  lo   : Nat
  hi   : Nat
  ty   : Ty
  acc  : Acc
  dflt : Int := 0
  rng  : Rng := .any
deriving DecidableEq, Repr, Inhabited

/-! ### Indexes -/

/-- The group and element of an offset within the configuration of a site (0x3000 + 0x200·f on). -/
def siteCfgGroup (o : Nat) : Option Nat :=
  if o < 0x20 then some 0x3000 else if o < 0x28 then some 0x3020
  else if o < 0x40 then none else if o < 0x50 then some 0x3040
  else if o < 0x58 then some 0x3050 else if o < 0x60 then none
  else if o < 0x62 then some 0x3060 else if o = 0x80 then some 0x3080
  else if o = 0x81 then some 0x3081 else none

/-- The group and element offset within the live status of a site (0x4000 + 0x200·f on). -/
def siteLiveGroup (o : Nat) : Option (Nat × Nat) :=
  if o = 0 then some (0x4000, 0) else if o = 1 then some (0x4001, 0)
  else if o < 0x10 then none else if o < 0x30 then some (0x4010, o - 0x10)
  else if o < 0x38 then some (0x4030, 0x20 + (o - 0x30))
  else if o < 0x40 then none else if o = 0x40 then some (0x4040, 0)
  else if o < 0x50 then none else if o < 0x60 then some (0x4050, 0x40 + (o - 0x50))
  else if o < 0x68 then some (0x4060, 0x50 + (o - 0x60))
  else if o < 0x70 then none else if o < 0x72 then some (0x4070, 0x60 + (o - 0x70))
  else if o < 0x78 then none else if o < 0x7A then some (0x4078, 0x60 + (o - 0x78)) else none

/-- The group and element of an index (Table OD-2), presence on this device apart. -/
def groupOf (idx : Nat) : Option (Nat × Nat) :=
  if [0x1000, 0x1001, 0x1003, 0x1008, 0x1009, 0x100A, 0x1017, 0x1018, 0x2000, 0x2100, 0x2101, 0x2102,
      0x2110, 0x2300, 0x2301, 0x2302, 0x2400, 0x2401, 0x2402, 0x2403, 0x2500, 0x2501, 0x2502, 0x2600,
      0x2700, 0x2800, 0x2801, 0x2802, 0x2803, 0x2920, 0x2A00, 0x2A01, 0x2A02, 0x2A04, 0x2A08, 0x2A09,
      0x2A0C, 0x2B18, 0x2B40, 0x2B41, 0x3E00, 0x3F00, 0x3F01, 0x5000, 0x5001, 0x5002,
      0x5003].contains idx then some (idx, 0)
  else if 0x2001 ≤ idx ∧ idx ≤ 0x20FF then some (0x2001, idx - 0x2001)
  else if 0x2200 ≤ idx ∧ idx < 0x2220 then some (0x2200, idx - 0x2200)
  else if 0x2408 ≤ idx ∧ idx < 0x240F then some (0x2408, idx - 0x2408)
  else if 0x2601 ≤ idx ∧ idx ≤ 0x2610 then some (0x2601, idx - 0x2600)
  else if 0x2804 ≤ idx ∧ idx < 0x2810 then some (0x2804, idx - 0x2804)
  else if 0x2900 ≤ idx ∧ idx < 0x2904 then some (0x2900, idx - 0x2900)
  else if 0x2910 ≤ idx ∧ idx < 0x2914 then some (0x2910, idx - 0x2910)
  else if 0x2A10 ≤ idx ∧ idx < 0x2A20 then some (0x2A10, idx - 0x2A10)
  else if 0x2B00 ≤ idx ∧ idx < 0x2B08 then some (0x2B00, idx - 0x2B00)
  else if 0x2B10 ≤ idx ∧ idx < 0x2B12 then some (0x2B10, idx - 0x2B10)
  else if 0x2B20 ≤ idx ∧ idx < 0x2B28 then some (0x2B20, idx - 0x2B20)
  else if 0x2B30 ≤ idx ∧ idx < 0x2B34 then some (0x2B30, idx - 0x2B30)
  else if 0x2B38 ≤ idx ∧ idx < 0x2B3C then some (0x2B38, idx - 0x2B38)
  else if 0x2C00 ≤ idx ∧ idx < 0x2E00 then some (0x2C00, idx - 0x2C00)
  else if 0x3000 ≤ idx ∧ idx < 0x3E00 then
    (siteCfgGroup ((idx - 0x3000) % 0x200)).map
      (fun g => (g, elemAt ((idx - 0x3000) / 0x200) ((idx - 0x3000) % 0x200)))
  else if 0x3E01 ≤ idx ∧ idx ≤ 0x3EFF then some (0x3E01, idx - 0x3E00)
  else if 0x4000 ≤ idx ∧ idx < 0x4E00 then
    (siteLiveGroup ((idx - 0x4000) % 0x200)).map
      (fun g => (g.1, elemAt ((idx - 0x4000) / 0x200) g.2))
  else if 0x5010 ≤ idx ∧ idx < 0x5017 then some (0x5010, idx - 0x5010)
  else if 0x5020 ≤ idx ∧ idx < 0x5027 then some (0x5020, idx - 0x5020)
  else if 0x5200 ≤ idx ∧ idx < 0x5400 then some (0x5200, idx - 0x5200)
  else if 0x6000 ≤ idx ∧ idx < 0x60E0 then
    (if (idx - 0x6000) % 0x20 < 0x10 then
      some (0x6000, elemAt ((idx - 0x6000) / 0x20) (0x40 + (idx - 0x6000) % 0x20))
    else if (idx - 0x6000) % 0x20 < 0x12 then
      some (0x6010, elemAt ((idx - 0x6000) / 0x20) (0x60 + (idx - 0x6010) % 0x20))
    else none)
  else if 0x6801 ≤ idx ∧ idx ≤ 0x68FF then some (0x6800, idx - 0x6800)
  else none

/-- Whether the objects of a group and element are present on this device (R4, R126, R282, R381,
R473). Per-site objects need the site, brake objects the brake capability, capability objects their
place in the list. -/
def groupPresent (s : State) (g e : Nat) : Bool :=
  if [0x3000, 0x3020, 0x3040, 0x3050, 0x3080, 0x3081, 0x4000, 0x4001, 0x4010, 0x4030, 0x4040, 0x4050,
      0x4060, 0x6000].contains g then populated s (siteOf e)
  else if [0x3060, 0x4070, 0x4078, 0x6010].contains g then populated s (siteOf e) && hasCap s 2
  else if g = 0x2408 ∨ g = 0x5010 ∨ g = 0x5020 then populated s e
  else if g = 0x2804 then (decide (e < 4) || decide (e = 11) || populated s (e - 4))
  else if g = 0x2001 then decide (e < s.fuses.caps.length)
  else true

/-! ### Rows -/

/-- The subindex-0 values: the highest subindex of every record and array (R113). -/
def entryCounts : List (Nat × Nat) :=
  [(0x1018, 4), (0x2000, 2), (0x2100, 2), (0x2101, 3), (0x2102, 7), (0x2110, 13), (0x2200, 10),
   (0x2300, 11), (0x2301, 8), (0x2302, 7), (0x2400, 6), (0x2401, 3), (0x2402, 8), (0x2403, 2)]
  ++ [(0x2408, 4), (0x2500, 3), (0x2501, 32), (0x2502, 4), (0x2600, 8), (0x2601, 9), (0x2700, 7),
   (0x2800, 4), (0x2801, 1), (0x2802, 6), (0x2803, 2), (0x2804, 9), (0x2900, 17), (0x2910, 8)]
  ++ [(0x2920, 0x37), (0x2A00, 11), (0x2A01, 13), (0x2A02, 9), (0x2A04, 1), (0x2A08, 3), (0x2A09, 4),
   (0x2A0C, 8), (0x2A10, 6), (0x2B00, 9), (0x2B10, 10), (0x2B18, 5), (0x2B20, 10), (0x2B30, 9)]
  ++ [(0x2B38, 8), (0x2B40, 14), (0x2B41, 5), (0x2C00, 25), (0x3000, 5), (0x3020, 5), (0x3040, 10),
   (0x3050, 5), (0x3060, 14), (0x3080, 10), (0x3081, 1), (0x3E00, 1), (0x3E01, 14), (0x3F00, 1)]
  ++ [(0x3F01, 12), (0x4000, 5), (0x4001, 3), (0x4010, 7), (0x4030, 7), (0x4040, 11), (0x4050, 7),
   (0x4060, 5), (0x4070, 7), (0x4078, 1), (0x5000, 6), (0x5001, 8), (0x5002, 3), (0x5003, 1)]
  ++ [(0x5010, 3), (0x5020, 2), (0x5200, 3), (0x6000, 9), (0x6010, 9), (0x6800, 2)]

/-- The highest subindex of a capability object, by its ID (Table OD-7, Table NW-10, Table PM-4a). -/
def capCount (id : Nat) : Nat :=
  if id = 1 then 12 else if id = 3 then 8 else if id = 4 then 9 else if id = 7 then 5
  else if id = 0xA then 5 else if id = 0xB then 11 else 3

/-- The device, session and fuse objects (Tables OD-5, OD-8, OD-14, OD-17, AR-8, SU-10, SU-12). -/
def rowsDevice : List Row :=
  [⟨0x1000, 0, 0, .unsigned 4, .const, 0, .any⟩, ⟨0x1001, 0, 0, .unsigned 1, .ro, 0, .any⟩,
   ⟨0x1003, 0, 0, .unsigned 1, .ro, 0, .any⟩, ⟨0x1003, 1, 0x20, .unsigned 4, .ro, 0, .any⟩,
   ⟨0x1008, 0, 0, .text 16, .const, 0, .any⟩, ⟨0x1009, 0, 0, .text 16, .const, 0, .any⟩,
   ⟨0x100A, 0, 0, .text 16, .ro, 0, .any⟩, ⟨0x1017, 0, 0, .unsigned 2, .rw, 0, .any⟩,
   ⟨0x1018, 1, 4, .unsigned 4, .const, 0, .any⟩, ⟨0x2000, 1, 1, .unsigned 2, .ro, 0x2001, .any⟩]
  ++ [⟨0x2000, 2, 2, .unsigned 4, .ro, 0, .any⟩, ⟨0x2001, 1, 3, .unsigned 2, .const, 0, .any⟩,
   ⟨0x2100, 1, 1, .unsigned 1, .ro, 0, .any⟩,
   ⟨0x2100, 2, 2, .unsigned 1, .rw, 0, .vals [0x20, 0x30, 0x40, 0x50]⟩,
   ⟨0x2101, 1, 2, .unsigned 4, .ro, 0, .any⟩, ⟨0x2101, 3, 3, .unsigned 8, .ro, 0, .any⟩,
   ⟨0x2102, 1, 5, .unsigned 4, .ro, 0, .any⟩, ⟨0x2102, 6, 6, .unsigned 8, .ro, 0, .any⟩,
   ⟨0x2102, 7, 7, .unsigned 1, .ro, 0, .any⟩]
  ++ [⟨0x2110, 1, 1, .unsigned 1, .ro, 0, .any⟩, ⟨0x2110, 2, 2, .unsigned 1, .wo, 0, .codes 0 2⟩,
   ⟨0x2110, 3, 3, .octets 16 16, .wo, 0, .any⟩, ⟨0x2110, 4, 4, .octets 16 16, .ro, 0, .any⟩,
   ⟨0x2110, 5, 5, .octets 32 32, .wo, 0, .any⟩, ⟨0x2110, 6, 6, .unsigned 2, .rw, 300, .num 30 3600⟩,
   ⟨0x2110, 7, 7, .unsigned 1, .ro, 0xFF, .any⟩, ⟨0x2110, 8, 8, .dom 1048576, .wo, 0, .any⟩,
   ⟨0x2110, 9, 9, .unsigned 4, .ro, 0, .any⟩, ⟨0x2110, 0xA, 0xA, .unsigned 1, .wo, 0, .vals [1, 2]⟩]
  ++ [⟨0x2110, 0xB, 0xB, .unsigned 1, .ro, 0, .any⟩, ⟨0x2110, 0xC, 0xD, .unsigned 2, .ro, 0, .any⟩,
   ⟨0x2200, 1, 9, .unsigned 4, .ro, 0, .any⟩, ⟨0x2200, 0xA, 0xA, .unsigned 2, .ro, 0, .any⟩,
   ⟨0x2B18, 1, 5, .unsigned 4, .ro, 0, .any⟩,
   ⟨0x3F01, 1, 1, .unsigned 2, .ro, 0, .any⟩, ⟨0x3F01, 2, 2, .unsigned 4, .ro, 0, .any⟩,
   ⟨0x3F01, 3, 4, .unsigned 1, .ro, 0, .any⟩, ⟨0x3F01, 5, 5, .unsigned 2, .ro, 0, .any⟩,
   ⟨0x3F01, 6, 6, .unsigned 1, .ro, 0, .any⟩, ⟨0x3F01, 7, 7, .unsigned 4, .ro, 0, .any⟩,
   ⟨0x3F01, 8, 8, .octets 32 32, .ro, 0, .any⟩, ⟨0x3F01, 9, 9, .text 32, .ro, 0, .any⟩,
   ⟨0x3F01, 0xA, 0xC, .unsigned 1, .ro, 0, .any⟩]

/-- The timebase and monitor objects (Tables CK-6 and CK-7). -/
def rowsClock : List Row :=
  [⟨0x2300, 1, 1, .unsigned 8, .ro, 0, .any⟩, ⟨0x2300, 2, 3, .unsigned 1, .ro, 0, .any⟩,
   ⟨0x2300, 4, 4, .unsigned 2, .srw, 0x1200, .rule 5⟩, ⟨0x2300, 5, 6, .signed 4, .ro, 0, .any⟩,
   ⟨0x2300, 7, 7, .unsigned 4, .srw, 10000, .num 1000 1000000000⟩,
   ⟨0x2300, 8, 8, .unsigned 2, .srw, 60, .num 10 3600⟩, ⟨0x2300, 9, 9, .unsigned 8, .wo, 0, .any⟩,
   ⟨0x2300, 0xA, 0xA, .unsigned 4, .ro, 0, .any⟩, ⟨0x2300, 0xB, 0xB, .unsigned 8, .ro, 0, .any⟩]
  ++ [⟨0x2301, 1, 1, .unsigned 1, .srw, 0, .num 0 127⟩, ⟨0x2301, 2, 3, .unsigned 1, .srw, 128, .any⟩,
   ⟨0x2301, 4, 4, .unsigned 1, .ro, 0, .any⟩, ⟨0x2301, 5, 5, .signed 4, .ro, 0, .any⟩,
   ⟨0x2301, 6, 6, .octets 32 32, .srw, 0, .rule 8⟩, ⟨0x2301, 7, 7, .octets 8 8, .ro, 0, .any⟩,
   ⟨0x2301, 8, 8, .signed 1, .srw, -3, .num (-4) 1⟩, ⟨0x2302, 1, 1, .unsigned 1, .srw, 0, .mask 0xF⟩,
   ⟨0x2302, 2, 3, .unsigned 2, .srw, 0, .num 0 10000⟩, ⟨0x2302, 4, 5, .unsigned 8, .ro, 0, .any⟩]
  ++ [⟨0x2302, 6, 6, .unsigned 8, .wo, 0, .rule 6⟩, ⟨0x2302, 7, 7, .unsigned 1, .ro, 0, .any⟩,
   ⟨0x2400, 1, 5, .unsigned 2, .ro, 0, .any⟩, ⟨0x2400, 6, 6, .bool, .ro, 1, .any⟩,
   ⟨0x2401, 1, 1, .unsigned 2, .ro, 0, .any⟩, ⟨0x2401, 2, 3, .signed 2, .ro, 0, .any⟩,
   ⟨0x2402, 1, 8, .signed 2, .ro, 0, .any⟩, ⟨0x2403, 1, 2, .unsigned 8, .ro, 0, .any⟩,
   ⟨0x2408, 1, 1, .unsigned 2, .ro, 0, .any⟩, ⟨0x2408, 2, 4, .signed 2, .ro, 0, .any⟩]

/-- The fault and self-test objects (Tables FC-9 to FC-11, ST-5). -/
def rowsFault : List Row :=
  [⟨0x2500, 1, 1, .octets 32 32, .ro, 0, .any⟩, ⟨0x2500, 2, 2, .unsigned 4, .ro, 0, .any⟩,
   ⟨0x2500, 3, 3, .bool, .ro, 0, .any⟩, ⟨0x2501, 1, 0x20, .octets 32 32, .ro, 0, .any⟩,
   ⟨0x2502, 1, 1, .unsigned 4, .wo, 0, .num 1 0xFFFFFFFF⟩, ⟨0x2502, 2, 2, .unsigned 1, .wo, 0, .vals [1]⟩,
   ⟨0x2502, 3, 3, .unsigned 1, .wo, 0, .vals [1]⟩, ⟨0x2502, 4, 4, .unsigned 2, .ro, 0, .any⟩,
   ⟨0x2600, 1, 1, .unsigned 2, .ro, 0, .any⟩, ⟨0x2600, 2, 2, .unsigned 1, .ro, 0xFF, .any⟩]
  ++ [⟨0x2600, 3, 4, .unsigned 4, .ro, 1, .any⟩, ⟨0x2600, 5, 6, .unsigned 2, .ro, 0, .any⟩,
   ⟨0x2600, 7, 8, .unsigned 4, .ro, 0, .any⟩, ⟨0x2601, 1, 1, .unsigned 4, .srw, 0, .num 0 86400⟩,
   ⟨0x2601, 2, 2, .unsigned 1, .srw, 3, .num 1 20⟩, ⟨0x2601, 3, 3, .bool, .srw, 1, .any⟩,
   ⟨0x2601, 4, 4, .unsigned 2, .ro, 0, .any⟩, ⟨0x2601, 5, 5, .unsigned 1, .ro, 0, .any⟩,
   ⟨0x2601, 6, 7, .unsigned 2, .ro, 0, .any⟩, ⟨0x2601, 8, 8, .unsigned 8, .ro, 0, .any⟩,
   ⟨0x2601, 9, 9, .unsigned 1, .mrw, 0, .vals [1]⟩]
  ++ [⟨0x2700, 1, 1, .unsigned 2, .mrw, 0, .any⟩, ⟨0x2700, 2, 2, .unsigned 1, .mrw, 1, .vals [1, 2]⟩,
   ⟨0x2700, 3, 3, .unsigned 1, .mrw, 1, .num 1 255⟩, ⟨0x2700, 4, 4, .unsigned 1, .mrw, 0, .vals [1]⟩,
   ⟨0x2700, 5, 7, .unsigned 1, .ro, 0, .any⟩, ⟨0x2800, 1, 3, .unsigned 4, .srw, 3600, .num 600 86400⟩,
   ⟨0x2800, 4, 4, .unsigned 2, .srw, 60, .num 10 3600⟩, ⟨0x2801, 1, 1, .unsigned 1, .wo, 0, .codes 0 0xB⟩,
   ⟨0x2802, 1, 3, .unsigned 4, .ro, 0, .any⟩, ⟨0x2802, 4, 5, .unsigned 2, .ro, 0, .any⟩,
   ⟨0x2802, 6, 6, .unsigned 1, .ro, 0, .any⟩]
  ++ [⟨0x2803, 1, 2, .unsigned 2, .ro, 0, .any⟩, ⟨0x2804, 1, 2, .unsigned 1, .ro, 0, .any⟩,
   ⟨0x2804, 3, 3, .unsigned 8, .ro, 0, .any⟩, ⟨0x2804, 4, 4, .unsigned 4, .ro, 0, .any⟩,
   ⟨0x2804, 5, 5, .unsigned 8, .ro, 0, .any⟩, ⟨0x2804, 6, 7, .unsigned 2, .ro, 0, .any⟩,
   ⟨0x2804, 8, 8, .unsigned 1, .ro, 0, .any⟩, ⟨0x2804, 9, 9, .unsigned 4, .ro, 0, .any⟩]

/-- The performance monitors and the Ledger (Tables PM-4 to PM-6, LG-9). -/
def rowsLedger : List Row :=
  [⟨0x2900, 1, 1, .unsigned 1, .rw, 3, .mask 3⟩, ⟨0x2900, 2, 5, .unsigned 1, .rw, 0, .codes 0 0xF⟩,
   ⟨0x2900, 6, 0xE, .unsigned 4, .rw, 0, .any⟩, ⟨0x2900, 0xF, 0xF, .unsigned 2, .rw, 0, .vals [0]⟩,
   ⟨0x2900, 0x10, 0x10, .unsigned 8, .ro, 0, .any⟩, ⟨0x2900, 0x11, 0x11, .octets 48 48, .ro, 0, .any⟩,
   ⟨0x2910, 1, 1, .unsigned 1, .rw, 0, .codes 0 2⟩, ⟨0x2910, 2, 2, .unsigned 4, .rw, 65536, .num 64 1048576⟩,
   ⟨0x2910, 3, 3, .bool, .rw, 0, .any⟩, ⟨0x2910, 4, 4, .unsigned 2, .ro, 0, .any⟩]
  ++ [⟨0x2910, 5, 6, .unsigned 4, .ro, 0, .any⟩, ⟨0x2910, 7, 7, .dom 4096, .ro, 0, .any⟩,
   ⟨0x2910, 8, 8, .unsigned 1, .wo, 0, .vals [1]⟩, ⟨0x2920, 1, 1, .unsigned 1, .wo, 0, .vals [1]⟩,
   ⟨0x2920, 2, 2, .unsigned 1, .ro, 0, .any⟩, ⟨0x2920, 3, 3, .unsigned 8, .ro, 0, .any⟩,
   ⟨0x2920, 0x10, 0x16, .unsigned 4, .ro, 0, .any⟩, ⟨0x2920, 0x17, 0x17, .unsigned 8, .ro, 0, .any⟩,
   ⟨0x2920, 0x20, 0x26, .unsigned 4, .ro, 0, .any⟩, ⟨0x2920, 0x27, 0x27, .unsigned 8, .ro, 0, .any⟩,
   ⟨0x2920, 0x30, 0x36, .unsigned 4, .ro, 0, .any⟩, ⟨0x2920, 0x37, 0x37, .unsigned 8, .ro, 0, .any⟩]
  ++ [⟨0x2A00, 1, 2, .unsigned 1, .ro, 0, .any⟩, ⟨0x2A00, 3, 5, .unsigned 8, .ro, 0, .any⟩,
   ⟨0x2A00, 6, 7, .unsigned 4, .ro, 0, .any⟩, ⟨0x2A00, 8, 8, .unsigned 8, .ro, 0, .any⟩,
   ⟨0x2A00, 9, 9, .unsigned 4, .ro, 0, .any⟩, ⟨0x2A00, 0xA, 0xA, .unsigned 1, .ro, 0, .any⟩,
   ⟨0x2A00, 0xB, 0xB, .bool, .ro, 0, .any⟩, ⟨0x2A01, 1, 1, .unsigned 1, .ro, 0, .any⟩,
   ⟨0x2A01, 2, 2, .text 32, .ro, 0, .any⟩, ⟨0x2A01, 3, 5, .unsigned 2, .ro, 0, .any⟩]
  ++ [⟨0x2A01, 6, 7, .unsigned 4, .ro, 0, .any⟩, ⟨0x2A01, 8, 8, .unsigned 1, .ro, 0, .any⟩,
   ⟨0x2A01, 9, 0xA, .unsigned 2, .ro, 0, .any⟩, ⟨0x2A01, 0xB, 0xD, .unsigned 4, .ro, 0, .any⟩,
   ⟨0x2A02, 1, 4, .unsigned 4, .ro, 0, .any⟩, ⟨0x2A02, 5, 5, .unsigned 1, .ro, 7, .any⟩,
   ⟨0x2A02, 6, 6, .unsigned 8, .ro, 0, .any⟩, ⟨0x2A02, 7, 7, .unsigned 1, .ro, 0, .any⟩,
   ⟨0x2A02, 8, 9, .unsigned 4, .ro, 0, .any⟩, ⟨0x2A04, 1, 1, .unsigned 2, .mrw, 0, .vals [0x464D]⟩]
  ++ [⟨0x2A08, 1, 1, .unsigned 8, .rw, 0, .any⟩, ⟨0x2A08, 2, 2, .dom 4096, .ro, 0, .any⟩,
   ⟨0x2A08, 3, 3, .unsigned 1, .ro, 0, .any⟩, ⟨0x2A09, 1, 1, .unsigned 1, .rw, 0, .num 0 15⟩,
   ⟨0x2A09, 2, 2, .unsigned 4, .rw, 0, .any⟩, ⟨0x2A09, 3, 3, .dom 4096, .ro, 0, .any⟩,
   ⟨0x2A09, 4, 4, .unsigned 1, .ro, 0, .any⟩, ⟨0x2A0C, 1, 1, .unsigned 8, .rw, 0, .any⟩,
   ⟨0x2A0C, 2, 2, .unsigned 2, .rw, 300, .num 0 3600⟩, ⟨0x2A0C, 3, 3, .unsigned 2, .rw, 60, .num 0 3600⟩,
   ⟨0x2A0C, 4, 4, .unsigned 1, .wo, 0, .vals [1]⟩]
  ++ [⟨0x2A0C, 5, 5, .unsigned 1, .ro, 0, .any⟩, ⟨0x2A0C, 6, 6, .unsigned 1, .ro, 0xFF, .any⟩,
   ⟨0x2A0C, 7, 7, .unsigned 1, .mrw, 0, .num 0 15⟩, ⟨0x2A0C, 8, 8, .unsigned 4, .ro, 0, .any⟩,
   ⟨0x2A10, 1, 1, .unsigned 1, .ro, 0, .any⟩, ⟨0x2A10, 2, 4, .unsigned 8, .ro, 0, .any⟩,
   ⟨0x2A10, 5, 5, .unsigned 4, .ro, 0, .any⟩, ⟨0x2A10, 6, 6, .unsigned 8, .ro, 0, .any⟩]

/-- The network objects and the capability subindexes (Tables NW-5 to NW-11, OD-7, PM-4a). -/
def rowsNet : List Row :=
  [⟨0x2B00, 1, 1, .bool, .srw, 0, .any⟩, ⟨0x2B00, 2, 2, .unsigned 1, .srw, 0, .num 0 31⟩,
   ⟨0x2B00, 3, 3, .unsigned 1, .srw, 0, .codes 0 3⟩, ⟨0x2B00, 4, 4, .unsigned 1, .ro, 0, .any⟩,
   ⟨0x2B00, 5, 9, .unsigned 4, .ro, 0, .any⟩, ⟨0x2B00, 0xA, 0xA, .octets 6 6, .const, 0, .any⟩,
   ⟨0x2B00, 0xB, 0xB, .unsigned 4, .srw, 0, .any⟩, ⟨0x2B00, 0xC, 0xC, .unsigned 4, .srw, 0xFFFFFF00, .rule 2⟩,
   ⟨0x2B00, 0xD, 0xD, .unsigned 4, .srw, 0, .any⟩, ⟨0x2B00, 0xE, 0xE, .unsigned 2, .srw, 0, .any⟩]
  ++ [⟨0x2B10, 1, 1, .unsigned 1, .srw, 0, .num 0 127⟩,
   ⟨0x2B10, 2, 2, .unsigned 4, .srw, 500000, .vals [125000, 250000, 500000, 1000000]⟩,
   ⟨0x2B10, 3, 3, .unsigned 4, .srw, 2000000, .vals [1000000, 2000000, 4000000, 5000000]⟩,
   ⟨0x2B10, 4, 4, .unsigned 2, .srw, 0x504B, .rule 4⟩, ⟨0x2B10, 5, 5, .unsigned 1, .ro, 3, .any⟩,
   ⟨0x2B10, 6, 6, .unsigned 2, .ro, 0, .any⟩, ⟨0x2B10, 7, 9, .unsigned 4, .ro, 0, .any⟩,
   ⟨0x2B10, 0xA, 0xA, .unsigned 1, .ro, 0, .any⟩, ⟨0x2B20, 1, 1, .bool, .srw, 0, .any⟩]
  ++ [⟨0x2B20, 2, 2, .unsigned 2, .srw, 0xFFFF, .codesOr 0 4095 0xFFFF⟩,
   ⟨0x2B20, 3, 3, .unsigned 1, .srw, 0xFF, .codesOr 0 7 0xFF⟩, ⟨0x2B20, 4, 4, .unsigned 1, .ro, 0, .any⟩,
   ⟨0x2B20, 5, 0xA, .unsigned 4, .ro, 0, .any⟩, ⟨0x2B30, 1, 1, .bool, .srw, 0, .any⟩,
   ⟨0x2B30, 2, 2, .unsigned 1, .srw, 0, .codes 0 3⟩, ⟨0x2B30, 3, 3, .unsigned 2, .srw, 200, .step 8 800 2⟩,
   ⟨0x2B30, 4, 4, .unsigned 1, .srw, 1, .num 1 64⟩, ⟨0x2B30, 5, 5, .octets 64 64, .srw, 0, .any⟩,
   ⟨0x2B30, 6, 7, .unsigned 4, .ro, 0, .any⟩, ⟨0x2B30, 8, 8, .octets 64 64, .ro, 0, .any⟩]
  ++ [⟨0x2B30, 9, 9, .unsigned 8, .ro, 0, .any⟩, ⟨0x2B38, 1, 1, .unsigned 1, .srw, 0, .codes 0 2⟩,
   ⟨0x2B38, 2, 2, .unsigned 4, .srw, 115200, .vals [9600, 19200, 38400, 57600, 115200, 230400, 460800,
     921600, 1000000, 2000000, 4000000]⟩,
   ⟨0x2B38, 3, 3, .unsigned 2, .srw, 1000, .num 100 60000⟩, ⟨0x2B38, 4, 4, .unsigned 8, .rw, 0, .any⟩,
   ⟨0x2B38, 5, 5, .unsigned 4, .ro, 0, .any⟩, ⟨0x2B38, 6, 6, .unsigned 8, .ro, 0, .any⟩,
   ⟨0x2B38, 7, 7, .unsigned 4, .ro, 0, .any⟩, ⟨0x2B38, 8, 8, .bool, .ro, 0, .any⟩]
  ++ [⟨0x2B40, 1, 1, .unsigned 1, .srw, 1, .vals [0, 1]⟩, ⟨0x2B40, 2, 5, .unsigned 1, .srw, 0xFF, .codesOr 8 0x77 0xFF⟩,
   ⟨0x2B40, 6, 9, .signed 2, .srw, 850, .num (-400) 1500⟩, ⟨0x2B40, 0xA, 0xD, .signed 2, .ro, -32768, .any⟩,
   ⟨0x2B40, 0xE, 0xE, .unsigned 4, .ro, 0, .any⟩, ⟨0x2B41, 1, 1, .unsigned 1, .srw, 1, .vals [0, 1]⟩,
   ⟨0x2B41, 2, 2, .unsigned 1, .srw, 0x50, .codes 8 0x77⟩, ⟨0x2B41, 3, 3, .unsigned 1, .srw, 2, .vals [1, 2]⟩,
   ⟨0x2B41, 4, 4, .octets 128 128, .ro, 0, .any⟩, ⟨0x2B41, 5, 5, .unsigned 1, .ro, 0, .any⟩]
  ++ [⟨0x2C00, 1, 1, .unsigned 1, .srw, 0, .codes 0 3⟩, ⟨0x2C00, 2, 2, .unsigned 2, .srw, 0, .num 0 4095⟩,
   ⟨0x2C00, 3, 3, .unsigned 1, .srw, 0, .any⟩, ⟨0x2C00, 4, 4, .unsigned 1, .srw, 0, .num 0 2⟩,
   ⟨0x2C00, 5, 5, .unsigned 2, .srw, 0, .mask 0xFFF⟩, ⟨0x2C00, 6, 6, .unsigned 1, .srw, 0, .num 0 64⟩,
   ⟨0x2C00, 7, 7, .unsigned 1, .srw, 0, .mask 3⟩, ⟨0x2C00, 8, 8, .unsigned 2, .srw, 1, .num 1 1000⟩,
   ⟨0x2C00, 9, 9, .unsigned 2, .srw, 0, .num 0 999⟩, ⟨0x2C00, 0xA, 0xA, .unsigned 4, .srw, 100000, .step 300 10000000 100⟩]
  ++ [⟨0x2C00, 0xB, 0xB, .unsigned 1, .srw, 8, .num 1 255⟩, ⟨0x2C00, 0xC, 0xC, .unsigned 4, .srw, 0, .rule 7⟩,
   ⟨0x2C00, 0xD, 0xD, .unsigned 4, .srw, 0, .any⟩, ⟨0x2C00, 0xE, 0xE, .unsigned 4, .srw, 0, .rule 3⟩,
   ⟨0x2C00, 0xF, 0xF, .unsigned 4, .ro, 0, .any⟩, ⟨0x2C00, 0x10, 0x10, .unsigned 1, .ro, 0, .any⟩,
   ⟨0x2C00, 0x11, 0x11, .unsigned 4, .ro, 0, .any⟩, ⟨0x2C00, 0x12, 0x13, .unsigned 8, .ro, 0, .any⟩,
   ⟨0x2C00, 0x14, 0x19, .unsigned 4, .ro, 0, .any⟩]

/-- The specific subindexes of the capability objects; the group is 0x2001 with the ID in `grp`'s low
byte: 0xC000 + ID. -/
def rowsCap : List Row :=
  [⟨0xC001, 4, 4, .unsigned 1, .const, 0, .any⟩, ⟨0xC001, 5, 5, .unsigned 1, .ro, 0, .any⟩,
   ⟨0xC001, 6, 0xC, .octets 32 32, .const, 0, .any⟩, ⟨0xC003, 4, 4, .unsigned 4, .srw, 0, .any⟩,
   ⟨0xC003, 5, 5, .unsigned 2, .srw, 0, .num 0 4095⟩, ⟨0xC003, 6, 6, .unsigned 2, .ro, 0, .any⟩,
   ⟨0xC003, 7, 8, .unsigned 4, .ro, 0, .any⟩, ⟨0xC004, 4, 5, .unsigned 1, .srw, 0, .codes 0 2⟩,
   ⟨0xC004, 6, 6, .unsigned 2, .srw, 400, .num 10 1000⟩, ⟨0xC004, 7, 7, .unsigned 1, .ro, 0, .any⟩]
  ++ [⟨0xC004, 8, 9, .unsigned 4, .ro, 0, .any⟩, ⟨0xC007, 4, 4, .unsigned 1, .const, 4, .any⟩,
   ⟨0xC007, 5, 5, .unsigned 2, .const, 256, .any⟩, ⟨0xC00A, 4, 4, .unsigned 2, .ro, 0, .any⟩,
   ⟨0xC00A, 5, 5, .unsigned 4, .ro, 0, .any⟩, ⟨0xC00B, 4, 4, .unsigned 2, .srw, 0xFFFF, .codesOr 0 511 0xFFFF⟩,
   ⟨0xC00B, 5, 5, .unsigned 2, .srw, 2000, .num 200 50000⟩, ⟨0xC00B, 6, 6, .unsigned 1, .srw, 0, .num 0 248⟩,
   ⟨0xC00B, 7, 7, .octets 496 496, .srw, 0, .any⟩, ⟨0xC00B, 8, 8, .unsigned 1, .ro, 0, .any⟩,
   ⟨0xC00B, 9, 9, .unsigned 2, .ro, 0xFFFF, .any⟩, ⟨0xC00B, 0xA, 0xB, .unsigned 4, .ro, 0, .any⟩]

/-- The safety configuration of the sites, the pair table and the program (Tables IN-4, IN-5, OU-8 to
OU-10, DC-7, FB-7, PL-9). -/
def rowsSafety : List Row :=
  [⟨0x3000, 1, 1, .unsigned 1, .srw, 0, .vals [0, 1, 3]⟩, ⟨0x3000, 2, 2, .unsigned 4, .srw, 2000, .num 20 100000⟩,
   ⟨0x3000, 3, 3, .unsigned 1, .srw, 0xFF, .codesOr 0 7 0xFF⟩, ⟨0x3000, 4, 4, .unsigned 1, .srw, 0, .mask 7⟩,
   ⟨0x3000, 5, 5, .unsigned 2, .srw, 0, .num 0 2000⟩, ⟨0x3020, 1, 1, .unsigned 1, .srw, 0, .codes 0 3⟩,
   ⟨0x3020, 2, 2, .unsigned 4, .srw, 10000, .step 1000 10000000 1000⟩,
   ⟨0x3020, 3, 3, .unsigned 4, .srw, 0, .num 0 9999999⟩, ⟨0x3020, 4, 4, .unsigned 2, .srw, 100, .num 20 2000⟩,
   ⟨0x3020, 5, 5, .unsigned 2, .srw, 500, .num 20 2000⟩]
  ++ [⟨0x3040, 1, 1, .unsigned 1, .srw, 0, .codes 0 2⟩, ⟨0x3040, 2, 2, .unsigned 1, .srw, 0xFF, .codesOr 0 7 0xFF⟩,
   ⟨0x3040, 3, 3, .unsigned 1, .srw, 1, .vals [1, 2, 4]⟩, ⟨0x3040, 4, 4, .unsigned 2, .srw, 2000, .num 500 50000⟩,
   ⟨0x3040, 5, 5, .unsigned 2, .srw, 200, .num 100 500⟩, ⟨0x3040, 6, 6, .unsigned 2, .srw, 32, .num 1 1000⟩,
   ⟨0x3040, 7, 7, .unsigned 1, .srw, 0, .mask 7⟩, ⟨0x3040, 8, 8, .unsigned 1, .srw, 30, .num 20 50⟩,
   ⟨0x3040, 9, 9, .unsigned 2, .srw, 10, .num 5 1000⟩, ⟨0x3040, 0xA, 0xA, .unsigned 1, .srw, 30, .num 10 50⟩]
  ++ [⟨0x3050, 1, 1, .unsigned 1, .srw, 0, .codes 0 1⟩, ⟨0x3050, 2, 2, .unsigned 1, .srw, 1, .vals [1, 2, 4]⟩,
   ⟨0x3050, 3, 3, .unsigned 2, .srw, 2000, .num 500 50000⟩, ⟨0x3050, 4, 4, .unsigned 2, .srw, 200, .num 100 500⟩,
   ⟨0x3050, 5, 5, .unsigned 2, .srw, 32, .num 1 1000⟩, ⟨0x3060, 1, 1, .unsigned 1, .srw, 0, .codes 0 1⟩,
   ⟨0x3060, 2, 2, .unsigned 2, .srw, 3000, .num 500 3000⟩, ⟨0x3060, 3, 3, .unsigned 2, .srw, 2000, .num 300 2000⟩,
   ⟨0x3060, 4, 4, .unsigned 2, .srw, 2000, .num 500 50000⟩, ⟨0x3060, 5, 5, .unsigned 4, .srw, 10000, .num 1000 900000⟩]
  ++ [⟨0x3060, 6, 6, .unsigned 4, .srw, 200000, .num 1000 900000⟩, ⟨0x3060, 7, 7, .unsigned 1, .srw, 15, .num 5 15⟩,
   ⟨0x3060, 8, 8, .unsigned 1, .srw, 25, .num 10 50⟩, ⟨0x3060, 9, 9, .unsigned 1, .srw, 3, .mask 7⟩,
   ⟨0x3060, 0xA, 0xA, .unsigned 2, .srw, 200, .num 50 2000⟩, ⟨0x3060, 0xB, 0xB, .unsigned 2, .srw, 1000, .num 100 10000⟩,
   ⟨0x3060, 0xC, 0xC, .unsigned 2, .srw, 0, .num 0 720⟩, ⟨0x3060, 0xD, 0xD, .unsigned 2, .srw, 200, .num 100 500⟩,
   ⟨0x3060, 0xE, 0xE, .unsigned 2, .srw, 32, .num 1 1000⟩, ⟨0x3081, 1, 1, .dom 16400, .srw, 0, .any⟩]
  ++ [⟨0x3E00, 1, 1, .unsigned 1, .ro, 0, .any⟩, ⟨0x3E01, 1, 1, .unsigned 1, .srw, 0, .codes 0 4⟩,
   ⟨0x3E01, 2, 3, .unsigned 2, .srw, 0xFFFF, .rule 1⟩, ⟨0x3E01, 4, 4, .unsigned 4, .srw, 500000, .num 100 30000000⟩,
   ⟨0x3E01, 5, 5, .unsigned 1, .srw, 2, .codes 0 2⟩, ⟨0x3E01, 6, 6, .unsigned 1, .srw, 0, .any⟩,
   ⟨0x3E01, 7, 7, .unsigned 2, .srw, 5000, .num 100 60000⟩, ⟨0x3E01, 8, 8, .unsigned 1, .srw, 0, .any⟩,
   ⟨0x3E01, 9, 9, .unsigned 1, .srw, 0, .mask 1⟩, ⟨0x3E01, 0xA, 0xA, .unsigned 1, .ro, 0xFF, .any⟩]
  ++ [⟨0x3E01, 0xB, 0xB, .unsigned 2, .ro, 0, .any⟩, ⟨0x3E01, 0xC, 0xC, .signed 4, .ro, 0, .any⟩,
   ⟨0x3E01, 0xD, 0xD, .unsigned 8, .ro, 0, .any⟩, ⟨0x3E01, 0xE, 0xE, .unsigned 4, .ro, 0, .any⟩,
   ⟨0x3F00, 1, 1, .dom 590080, .srw, 0, .any⟩, ⟨0x3080, 1, 1, .unsigned 2, .ro, 0, .any⟩,
   ⟨0x3080, 2, 2, .unsigned 4, .ro, 0, .any⟩, ⟨0x3080, 3, 3, .unsigned 1, .ro, 0, .any⟩,
   ⟨0x3080, 4, 4, .unsigned 8, .ro, 0, .any⟩, ⟨0x3080, 5, 6, .unsigned 4, .ro, 0, .any⟩,
   ⟨0x3080, 7, 7, .unsigned 8, .ro, 0, .any⟩, ⟨0x3080, 8, 8, .octets 256 256, .ro, 0, .any⟩,
   ⟨0x3080, 9, 9, .unsigned 4, .ro, 0, .any⟩, ⟨0x3080, 0xA, 0xA, .unsigned 1, .ro, 0, .any⟩]

/-- The live status, the process image and the counters (Tables IN-6, OU-11, OU-12, PL-10). -/
def rowsLive : List Row :=
  [⟨0x4000, 1, 4, .unsigned 4, .ro, 0, .any⟩, ⟨0x4000, 5, 5, .unsigned 8, .ro, 0, .any⟩,
   ⟨0x4001, 1, 1, .unsigned 8, .ro, 0, .any⟩, ⟨0x4001, 2, 2, .unsigned 2, .ro, 0, .any⟩,
   ⟨0x4001, 3, 3, .unsigned 4, .ro, 0, .any⟩, ⟨0x4010, 1, 2, .unsigned 8, .ro, 0, .any⟩,
   ⟨0x4010, 3, 3, .unsigned 1, .ro, 0, .any⟩, ⟨0x4010, 4, 4, .signed 2, .ro, 0, .any⟩,
   ⟨0x4010, 5, 6, .unsigned 2, .ro, 0, .any⟩, ⟨0x4010, 7, 7, .unsigned 4, .ro, 0, .any⟩]
  ++ [⟨0x4030, 1, 1, .unsigned 1, .ro, 0, .any⟩, ⟨0x4030, 2, 5, .unsigned 2, .ro, 0, .any⟩,
   ⟨0x4030, 6, 6, .unsigned 8, .ro, 0, .any⟩, ⟨0x4030, 7, 7, .unsigned 4, .ro, 0, .any⟩,
   ⟨0x4040, 1, 4, .unsigned 4, .ro, 0, .any⟩, ⟨0x4040, 5, 9, .unsigned 2, .ro, 0, .any⟩,
   ⟨0x4040, 0xA, 0xA, .unsigned 1, .ro, 0, .any⟩, ⟨0x4040, 0xB, 0xB, .unsigned 8, .ro, 0, .any⟩,
   ⟨0x4050, 1, 1, .unsigned 1, .ro, 0, .any⟩, ⟨0x4050, 2, 2, .unsigned 2, .ro, 0, .any⟩]
  ++ [⟨0x4050, 3, 3, .signed 2, .ro, 0, .any⟩, ⟨0x4050, 4, 4, .unsigned 1, .ro, 0, .any⟩,
   ⟨0x4050, 5, 5, .unsigned 8, .ro, 0, .any⟩, ⟨0x4050, 6, 6, .unsigned 4, .ro, 0, .any⟩,
   ⟨0x4050, 7, 7, .unsigned 1, .ro, 0, .any⟩, ⟨0x4060, 1, 1, .unsigned 1, .ro, 0, .any⟩,
   ⟨0x4060, 2, 2, .unsigned 2, .ro, 0, .any⟩, ⟨0x4060, 3, 3, .signed 2, .ro, 0, .any⟩,
   ⟨0x4060, 4, 4, .unsigned 1, .ro, 0, .any⟩, ⟨0x4060, 5, 5, .unsigned 8, .ro, 0, .any⟩]
  ++ [⟨0x4070, 1, 1, .unsigned 1, .ro, 0, .any⟩, ⟨0x4070, 2, 3, .unsigned 2, .ro, 0, .any⟩,
   ⟨0x4070, 4, 4, .unsigned 4, .ro, 0xFFFFFFFF, .any⟩, ⟨0x4070, 5, 6, .unsigned 1, .ro, 0, .any⟩,
   ⟨0x4070, 7, 7, .unsigned 8, .ro, 0, .any⟩, ⟨0x4078, 1, 1, .dom 4108, .ro, 0, .any⟩,
   ⟨0x5000, 1, 1, .unsigned 4, .ro, 0, .any⟩, ⟨0x5000, 2, 3, .unsigned 8, .ro, 0, .any⟩,
   ⟨0x5000, 4, 6, .unsigned 4, .ro, 0, .any⟩, ⟨0x5001, 1, 4, .unsigned 2, .ro, 0, .any⟩]
  ++ [⟨0x5001, 5, 8, .unsigned 4, .ro, 0, .any⟩, ⟨0x5002, 1, 3, .unsigned 4, .ro, 0, .any⟩,
   ⟨0x5003, 1, 1, .octets 128 128, .ro, 0, .any⟩, ⟨0x5010, 1, 2, .unsigned 4, .ro, 0, .any⟩,
   ⟨0x5010, 3, 3, .unsigned 8, .ro, 0, .any⟩, ⟨0x5020, 1, 1, .unsigned 4, .ro, 0, .any⟩,
   ⟨0x5020, 2, 2, .unsigned 8, .ro, 0, .any⟩, ⟨0x5200, 1, 1, .octets 0 64, .ro, 0, .any⟩,
   ⟨0x5200, 2, 2, .bool, .ro, 0, .any⟩, ⟨0x5200, 3, 3, .octets 0 64, .ro, 0, .any⟩]
  ++ [⟨0x6000, 1, 4, .unsigned 4, .ro, 0, .any⟩, ⟨0x6000, 5, 5, .unsigned 1, .ro, 0, .any⟩,
   ⟨0x6000, 6, 7, .unsigned 4, .ro, 0, .any⟩, ⟨0x6000, 8, 8, .unsigned 2, .ro, 0, .any⟩,
   ⟨0x6000, 9, 9, .unsigned 1, .mrw, 0, .vals [1]⟩, ⟨0x6010, 1, 2, .unsigned 4, .ro, 0, .any⟩,
   ⟨0x6010, 3, 3, .unsigned 1, .ro, 0, .any⟩, ⟨0x6010, 4, 8, .unsigned 4, .ro, 0, .any⟩,
   ⟨0x6010, 9, 9, .unsigned 1, .mrw, 0, .vals [1]⟩, ⟨0x6800, 1, 2, .unsigned 4, .ro, 0, .any⟩]

/-- Every row. -/
def rows : List Row :=
  rowsDevice ++ rowsClock ++ rowsFault ++ rowsLedger ++ rowsNet ++ rowsCap ++ rowsSafety ++ rowsLive

/-- The highest subindex of a group and element (R113, R426). -/
def subCount (s : State) (g e : Nat) : Nat :=
  if g = 0x2001 then capCount (s.fuses.caps.getD e 0)
  else if g = 0x2B00 then (if e = 0 ∨ e = 4 then 14 else 9)
  else ((entryCounts.find? (fun p => p.1 = g)).map (·.2)).getD 0

/-- The row of a group, element and subindex; subindex 0 of a record is its entry count. -/
def rowOf (s : State) (g e sub : Nat) : Option Row :=
  let grp := if g = 0x2001 ∧ 4 ≤ sub then 0xC000 + s.fuses.caps.getD e 0 else g
  if sub ≤ subCount s g e ∨ (g = 0x1003 ∧ sub ≤ 0x20) then
    match rows.find? (fun r => r.grp = grp ∧ r.lo ≤ sub ∧ sub ≤ r.hi) with
    | some r => some r
    | none => if sub = 0 then some ⟨g, 0, 0, .unsigned 1, .const, subCount s g e, .any⟩ else none
  else none

/-- The bytes a numeric type takes; none for strings and DOMAINs. -/
def Ty.size : Ty → Option Nat
  | .bool => some 1
  | .unsigned n => some n
  | .signed n => some n
  | _ => none

/-- The value a numeric type reads from bytes. -/
def Ty.value (t : Ty) (bs : List Byte) : Int :=
  match t with
  | .signed n => untwos n (unle bs)
  | _ => unle bs

/-- A valid terminal code of R213: site 0 to 6 and input 0 to 31, or 0xFFFF. -/
def terminalOk (v : Int) : Bool :=
  decide (v = 0xFFFF) || (decide (0 ≤ v) && decide (v.toNat / 256 < 7) && decide (v.toNat % 256 < 32))

/-- Whether a mask is contiguous from bit 31 down (Table NW-8). -/
def contiguousMask (v : Nat) : Bool := (upto 33).any (fun k => decide (v = 2 ^ 32 - 2 ^ k))

/-- The nibbles of a source priority: source codes 0 to 4, no source twice (Table CK-6). -/
def priorityOk (v : Nat) : Bool :=
  let n := [field v 12 4, field v 8 4, field v 4 4, field v 0 4]
  n.all (fun x => decide (x ≤ 4)) && decide ((n.filter (fun x => decide (x ≠ 0))).Nodup)

/-- The first abort code of R119 that a numeric value meets; 0 when it passes. -/
def rngCheck (r : Rng) (v : Int) : Nat :=
  match r with
  | .any => 0
  | .num lo hi => if hi < v then 0x06090031 else if v < lo then 0x06090032 else 0
  | .step lo hi k => if hi < v then 0x06090031 else if v < lo then 0x06090032
      else if v % k = 0 then 0 else 0x06090030
  | .codes lo hi => if lo ≤ v ∧ v ≤ hi then 0 else 0x06090030
  | .codesOr lo hi x => if (lo ≤ v ∧ v ≤ hi) ∨ v = x then 0 else 0x06090030
  | .vals l => if l.contains v then 0 else 0x06090030
  | .mask m => if v.toNat &&& m = v.toNat then 0 else 0x06090030
  | .rule n =>
    if n = 1 then (if terminalOk v then 0 else 0x06090030)
    else if n = 2 then (if contiguousMask v.toNat then 0 else 0x06090030)
    else if n = 3 then (if bit v.toNat 31 then (if field v.toNat 29 2 = 0 then 0 else 0x06090030)
      else if field v.toNat 29 2 ≠ 0 then 0x06090030
      else if field v.toNat 0 29 ≤ 0x7FF then 0 else 0x06090031)
    else if n = 4 then
      (if 50 ≤ field v.toNat 8 8 ∧ field v.toNat 8 8 ≤ 90 ∧ 50 ≤ field v.toNat 0 8
        ∧ field v.toNat 0 8 ≤ 90 then 0 else 0x06090030)
    else if n = 5 then (if priorityOk v.toNat then 0 else 0x06090030)
    else if n = 6 then (if v.toNat % 1000000000 = 0 then 0 else 0x06090030)
    else if n = 7 then (if v = 0 then 0 else if 10000000 < v then 0x06090031 else if v < 100 then 0x06090032
      else if v % 100 = 0 then 0 else 0x06090030)
    else 0

/-- A value as a read shows it: reserved bits read as 0 (R12). -/
def Rng.shown (r : Rng) (v : Nat) : Nat :=
  match r with
  | .mask m => v &&& m
  | .rule n => if n = 3 then v &&& 0x9FFFFFFF else v
  | .any | .num _ _ | .step _ _ _ | .codes _ _ | .codesOr _ _ _ | .vals _ => v

/-- Whether every 16-bit field of a string lies within a bound. -/
def fieldsBelow (m : Nat) : List Byte → Bool
  | a :: b :: l => decide (unle [a, b] ≤ m) && fieldsBelow m l
  | [_] | [] => true

/-- The range check of a string: rule 8, the PHY delays of 0x2301:06, holds every 16-bit field to 2,000 (Table CK-6). -/
def bytesCheck (r : Rng) (data : List Byte) : Nat :=
  match r with
  | .rule n => if n = 8 ∧ !fieldsBelow 2000 data then 0x06090031 else 0
  | .any | .num _ _ | .step _ _ _ | .codes _ _ | .codesOr _ _ _ | .vals _ | .mask _ => 0

/-- The checks of R119 on the data of a write: length, then range. -/
def dataCheck (row : Row) (data : List Byte) : Nat :=
  match row.ty with
  | .text m => if data.length ≤ m then 0 else 0x06070010
  | .octets lo hi => if lo ≤ data.length ∧ data.length ≤ hi then bytesCheck row.rng data else 0x06070010
  | .dom _ => 0
  | .bool => if data.length ≠ 1 then 0x06070010 else if unle data ≤ 1 then 0 else 0x06090030
  | t => if t.size ≠ some data.length then 0x06070010 else rngCheck row.rng (t.value data)

end Sys2Proof.Machine
end

