-- ==== Sys2Proof/Machine/Operands.lean ====
section
/-! DEFINITION. The configuration as the machine reads it: the srw values in force with the defaults of the
object tables, the netlists of Table FB-5 and the program of Table PL-7. -/

namespace Sys2Proof.Machine

/-! ### Values -/

/-- A set of srw values: those of the image in force, or of an image under check. -/
structure Conf where
  nums : Table Nat := []
  strs : Table (List Byte) := []
deriving DecidableEq, Repr, Inhabited

/-- The listed value of a key. -/
def tfind {α : Type} : Table α → Nat → Option α
  | [], _ => none
  | (k, v) :: t, i => if k = i then some v else tfind t i

/-- Write a value where every listed value counts, whatever it is. -/
def tput {α : Type} : Table α → Nat → α → Table α
  | [], i, v => [(i, v)]
  | (k, w) :: t, i, v => if i < k then (i, v) :: (k, w) :: t
    else if i = k then (i, v) :: t else (k, w) :: tput t i v

/-- Write every value of one table into another. -/
def tmerge {α : Type} (t u : Table α) : Table α := u.foldl (fun a p => tput a p.1 p.2) t

/-- The key of an object and subindex. -/
def okey (idx sub : Nat) : Nat := idx * 256 + sub

/-- The values in force (R109). -/
def confOf (s : State) : Conf := { nums := s.cfg.nums, strs := s.cfg.strs }

/-- A numeric srw value, or its default. -/
def cnum (c : Conf) (idx sub dflt : Nat) : Nat := (tfind c.nums (okey idx sub)).getD dflt

/-- A string or DOMAIN srw value, or its default. -/
def cstr (c : Conf) (idx sub : Nat) (dflt : List Byte) : List Byte := (tfind c.strs (okey idx sub)).getD dflt

/-- The configuration index of an element of a site (R180, R181, R280 to R282). -/
def cfgIdx (el : Nat) : Nat := 0x3000 + 0x200 * siteOf el + offOf el

/-! ### Inputs and sources (Tables IN-4, IN-5) -/

/-- The input type; 0 unused (R153). -/
def inType (c : Conf) (el : Nat) : Nat := cnum c (cfgIdx el) 1 0
/-- The filter time N in µs. -/
def inFilter (c : Conf) (el : Nat) : Nat := cnum c (cfgIdx el) 2 2000
/-- The source number of the test-pulse source that feeds an input. -/
def inSource (c : Conf) (el : Nat) : Option Nat :=
  let j := cnum c (cfgIdx el) 3 0xFF
  if j < 8 then some (elemAt (siteOf el) (0x20 + j)) else none
/-- The flags of an input: bit 0 Ledger record, bit 1 transition check, bit 2 OSSD. -/
def inFlags (c : Conf) (el : Nat) : Nat := cnum c (cfgIdx el) 4 0
/-- The OSSD LOW tolerance in µs. -/
def inTol (c : Conf) (el : Nat) : Nat := cnum c (cfgIdx el) 5 0
/-- The mode of a source: 0 off, 1 steady, 2 fixed pulse, 3 adaptive pulse. -/
def srcMode (c : Conf) (el : Nat) : Nat := cnum c (cfgIdx el) 1 0
/-- The pulse period in µs. -/
def srcPeriod (c : Conf) (el : Nat) : Nat := cnum c (cfgIdx el) 2 10000
/-- The pulse phase in µs. -/
def srcPhase (c : Conf) (el : Nat) : Nat := cnum c (cfgIdx el) 3 0
/-- The minimum width in µs. -/
def srcWmin (c : Conf) (el : Nat) : Nat := cnum c (cfgIdx el) 4 100
/-- The maximum width in µs. -/
def srcWmax (c : Conf) (el : Nat) : Nat := cnum c (cfgIdx el) 5 500
/-- Whether a source pulses. -/
def srcPulses (c : Conf) (el : Nat) : Bool := decide (2 ≤ srcMode c el)
/-- The input numbers of a site. -/
def siteInputs (f : Nat) : List Nat := (upto 32).map (elemAt f)
/-- The sources of a site. -/
def siteSources (f : Nat) : List Nat := (upto 8).map (fun j => elemAt f (0x20 + j))
/-- The inputs that a source feeds (R171). -/
def fedBy (c : Conf) (src : Nat) : List Nat :=
  (siteInputs (siteOf src)).filter (fun i => decide (inType c i ≠ 0) && decide (inSource c i = some src))

/-! ### Outputs, returns and brakes (Tables OU-8 to OU-10) -/

/-- Whether a source number is an output. -/
def isOutput (el : Nat) : Bool := isSiteSrc el && decide (0x40 ≤ offOf el) && decide (offOf el < 0x50)
/-- Whether a source number is a return. -/
def isReturn (el : Nat) : Bool := isSiteSrc el && decide (0x50 ≤ offOf el) && decide (offOf el < 0x58)
/-- Whether a source number is a brake. -/
def isBrake (el : Nat) : Bool := isSiteSrc el && decide (0x60 ≤ offOf el) && decide (offOf el < 0x62)
/-- The mode of an output (0 unused, 1 PP, 2 PM), return or brake (0 unused, 1 in use). -/
def elMode (c : Conf) (el : Nat) : Nat := cnum c (cfgIdx el) 1 0
/-- The size of the parallel set an element is configured in (R250). -/
def elPar (c : Conf) (el : Nat) : Nat :=
  if isOutput el then cnum c (cfgIdx el) 3 1 else if isReturn el then cnum c (cfgIdx el) 2 1 else 1
/-- The lowest member of an element's parallel set (R250). -/
def setLow (c : Conf) (el : Nat) : Nat :=
  let n := elPar c el
  if n = 2 ∨ n = 4 then el - (offOf el % 16 % n) else el
/-- The members of an element's parallel set, ascending (R250). -/
def setMembers (c : Conf) (el : Nat) : List Nat :=
  let n := elPar c el
  if n = 2 ∨ n = 4 then (upto n).map (fun k => setLow c el + k) else [el]
/-- The return that serves an output in PM mode. -/
def outReturn (c : Conf) (el : Nat) : Option Nat :=
  let k := cnum c (cfgIdx el) 2 0xFF
  if elMode c el = 2 ∧ k < 8 then some (elemAt (siteOf el) (0x50 + k)) else none
/-- The lane-agreement time in µs; a set has the time of its lowest member (R280). -/
def elAgree (c : Conf) (el : Nat) : Nat :=
  let l := cfgIdx (setLow c el)
  if isReturn el then cnum c l 3 2000 else cnum c l 4 2000
/-- The dark-test width in µs. -/
def dtWidth (c : Conf) (el : Nat) : Nat :=
  let l := cfgIdx (setLow c el)
  if isOutput el then cnum c l 5 200 else if isReturn el then cnum c l 4 200 else cnum c l 0xD 200
/-- The dark-test interval in frames. -/
def dtInterval (c : Conf) (el : Nat) : Nat :=
  let l := cfgIdx (setLow c el)
  if isOutput el then cnum c l 6 32 else if isReturn el then cnum c l 5 32 else cnum c l 0xE 32
/-- The flags of an output: bit 0 light test, bit 1 minimum load, bit 2 Ledger detail. -/
def outFlags (c : Conf) (el : Nat) : Nat := cnum c (cfgIdx (setLow c el)) 7 0
/-- The light-test width in µs. -/
def ltWidth (c : Conf) (el : Nat) : Nat := cnum c (cfgIdx (setLow c el)) 8 30
/-- The minimum load current in mA. -/
def minLoad (c : Conf) (el : Nat) : Nat := cnum c (cfgIdx (setLow c el)) 9 10
/-- The drift warning threshold in percent. -/
def driftPct (c : Conf) (el : Nat) : Nat := cnum c (cfgIdx (setLow c el)) 0xA 30
/-- A brake setting of Table OU-10. -/
def brakeCfg (c : Conf) (el sub dflt : Nat) : Nat := cnum c (cfgIdx el) sub dflt
/-- The outputs of a site. -/
def siteOutputs (f : Nat) : List Nat := (upto 16).map (fun q => elemAt f (0x40 + q))
/-- The returns of a site. -/
def siteReturns (f : Nat) : List Nat := (upto 8).map (fun k => elemAt f (0x50 + k))
/-- The brakes of a site. -/
def siteBrakes (f : Nat) : List Nat := (upto 2).map (fun b => elemAt f (0x60 + b))
/-- The outputs, returns and brakes of a site, in the bit order of B+0x40:01. -/
def siteElems (f : Nat) : List Nat := siteOutputs f ++ siteReturns f ++ siteBrakes f
/-- The bit of an output, return or brake in a site word of B+0x40:01. -/
def elBit (el : Nat) : Nat :=
  if offOf el < 0x50 then offOf el - 0x40 else if offOf el < 0x60 then 16 + (offOf el - 0x50)
  else 24 + (offOf el - 0x60)
/-- The outputs that a return serves (R249). -/
def servedBy (c : Conf) (ret : Nat) : List Nat :=
  (siteOutputs (siteOf ret)).filter (fun q => match outReturn c q with
    | some r => (setMembers c r).contains ret
    | none => false)
/-- The group supply (source number) of an output: G0 for Q0 to Q7, G1 for Q8 to Q15 (R242). -/
def groupSupply (el : Nat) : Nat :=
  elemAt (siteOf el) (if isBrake el then 0x72 else if offOf el < 0x48 then 0x70 else 0x71)

/-! ### The pair table (Table DC-7) -/

/-- A numeric setting of an entry. -/
def pairCfg (c : Conf) (e sub dflt : Nat) : Nat := cnum c (0x3E00 + e) sub dflt
/-- The kind of an entry: 0 unused, 1 equivalent, 2 antivalent, 3 reset, 4 door. -/
def pairKind (c : Conf) (e : Nat) : Nat := pairCfg c e 1 0
/-- The input of a channel of an entry: channel 1 at subindex 2, channel 2 at subindex 3. -/
def pairChan (c : Conf) (e ch : Nat) : Option Nat :=
  let v := pairCfg c e (1 + ch) 0xFFFF
  if v = 0xFFFF then none else some v
/-- The discrepancy time in µs. -/
def pairDisc (c : Conf) (e : Nat) : Nat := pairCfg c e 4 500000
/-- The restart or latch mode. -/
def pairMode (c : Conf) (e : Nat) : Nat := pairCfg c e 5 2
/-- The reset entry that serves an entry, 0 none. -/
def pairReset (c : Conf) (e : Nat) : Nat := pairCfg c e 6 0
/-- The maximum press in ms. -/
def pairTmax (c : Conf) (e : Nat) : Nat := pairCfg c e 7 5000
/-- The linked entry of a door, 0 none. -/
def pairLinked (c : Conf) (e : Nat) : Nat := pairCfg c e 8 0
/-- The entry numbers. -/
def entries : List Nat := (upto 255).map (· + 1)
/-- The entries in use. -/
def usedEntries (c : Conf) : List Nat :=
  (c.nums.filterMap (fun p => if p.1 % 256 = 1 ∧ 0x3E01 ≤ p.1 / 256 ∧ p.1 / 256 ≤ 0x3EFF ∧ p.2 ≠ 0
    then some (p.1 / 256 - 0x3E00) else none))
/-- The channels of an entry. -/
def pairChans (c : Conf) (e : Nat) : List Nat := (pairChan c e 1).toList ++ (pairChan c e 2).toList

/-! ### Fault classes and connections -/

/-- The quiet period of a class in s; 0 never (R352). -/
def quietOf (c : Conf) (cls : Nat) : Nat := cnum c (0x2600 + cls) 1 0
/-- The recovery limit of a class (R353). -/
def limitOf (c : Conf) (cls : Nat) : Nat := cnum c (0x2600 + cls) 2 3
/-- Whether an L1 record of a class holds FAULT_N (R348). -/
def holdsL1 (c : Conf) (cls : Nat) : Bool := decide (cnum c (0x2600 + cls) 3 1 ≠ 0)
/-- A setting of a Genxon Safe connection (Table NW-11). -/
def connCfg (c : Conf) (k sub dflt : Nat) : Nat := cnum c (0x2C00 + k) sub dflt
/-- The direction of a connection: 0 unused, 1 send, 2 receive, 3 pairing. -/
def connDir (c : Conf) (k : Nat) : Nat := connCfg c k 1 0
/-- The connections in use. -/
def usedConns (c : Conf) : List Nat :=
  (c.nums.filterMap (fun p => if p.1 % 256 = 1 ∧ 0x2C00 ≤ p.1 / 256 ∧ p.1 / 256 < 0x2E00 ∧ p.2 ≠ 0
    then some (p.1 / 256 - 0x2C00) else none))

/-! ### Netlists (Table FB-5) -/

/-- The number in `n` bytes of a byte string from an offset, least significant byte first. -/
def num (bs : List Byte) (off n : Nat) : Nat := unle ((bs.drop off).take n)

/-- One slot record. -/
def parseSlot (r : List Byte) : Slot :=
  { ty := num r 0 1, ins := (upto (min 8 (num r 1 1))).map (fun k => num r (2 + 2 * k) 2),
    p0 := num r 18 4, p1 := num r 22 4, p2 := num r 26 4, ledger := num r 30 1 }

/-- The `n` slot records of a byte string. -/
def parseSlots : Nat → List Byte → List Slot
  | 0, _ => []
  | n + 1, bs => parseSlot (bs.take 32) :: parseSlots n (bs.drop 32)

/-- The bytes of the netlist of site `f` (R238). -/
def netlistBytes (c : Conf) (f : Nat) : List Byte := cstr c (0x3081 + 0x200 * f) 1 []

/-- The slots of the netlist of site `f`. -/
def netlist (c : Conf) (f : Nat) : List Slot :=
  let b := netlistBytes c f
  parseSlots (min 512 (num b 4 2)) (b.drop 16)

/-! ### The program (Table PL-7) -/

/-- A partition descriptor. -/
structure Part where
  codeOff : Nat := 0
  codeLen : Nat := 0
  dataOff : Nat := 0
  dataLen : Nat := 0
  entry   : Nat := 0
  wcet    : Nat := 0
  tmin    : Nat := 0
  sig     : Nat := 0
  owned   : List Nat := []
deriving DecidableEq, Repr, Inhabited

/-- The bytes of the program in force. -/
def progBytes (c : Conf) : List Byte := cstr c 0x3F00 1 []

/-- The descriptor of partition `p`: the one of the three that names it (Table PL-7). -/
def partOf (c : Conf) (p : Nat) : Part :=
  let b := progBytes c
  match (upto 3).find? (fun i => decide (num b (64 + 64 * i) 1 = p)) with
  | none => {}
  | some i =>
    let d := (b.drop (64 + 64 * i)).take 64
    { codeOff := num d 4 4, codeLen := num d 8 4, dataOff := num d 12 4, dataLen := num d 16 4,
      entry := num d 20 4, wcet := num d 24 4, tmin := num d 28 2, sig := num d 32 4,
      owned := (upto 7).map (fun f => num d (36 + 4 * f) 4) }

/-- The safety cycle in µs; 0 without a program. -/
def safetyCycle (c : Conf) : Nat := num (progBytes c) 4 4

/-- Whether partition `p` owns an output, return or brake (R308, Table PL-7). -/
def owns (c : Conf) (p el : Nat) : Bool := bit ((partOf c p).owned.getD (siteOf el) 0) (elBit el)

/-- The partition that owns an element. -/
def ownerOf (c : Conf) (el : Nat) : Option Nat := (upto 3).find? (fun p => owns c p el)

end Sys2Proof.Machine
end

