-- ==== Sys2Proof/Machine/Flags.lean ====
section
/-! DEFINITION. What follows from the records that are not cleared and from the reports that wait for their
commit: the reactions of R335 and R336, the inputs and elements that count as faulty or are forced off,
and the FAULT_N pin. A report has its reaction at its defined level from its detection on (R338), a
record at its applied level until it is cleared (R346). -/

namespace Sys2Proof.Machine

/-- A fault in effect: a record that is not cleared, or a report that waits for its commit. -/
structure Act where
  code    : Nat
  source  : Nat
  second  : Nat
  level   : Nat
  present : Bool
deriving DecidableEq, Repr, Inhabited

/-- Whether a record is not cleared: its status is active (R346). -/
def Record.uncleared (r : Record) : Bool := decide (r.status = 0)

/-- The level a waiting report acts at: its defined level, or L4 where R46 commits it so. -/
def Pending.level (p : Pending) : Nat :=
  if p.force4 then 4 else p.rep.lvl

/-- The faults in effect. -/
def actives (s : State) : List Act :=
  ((s.col.records.filter Record.uncleared).map
    (fun r => ⟨r.code, r.source, r.second, r.level, r.present⟩))
  ++ (s.col.pending.filter (fun p => !p.superseded)).map
    (fun p => ⟨p.rep.code, p.rep.source, p.rep.second, p.level, p.present⟩)

/-- Whether a fault of this code and source is in effect. -/
def faultActive (s : State) (code src : Nat) : Bool :=
  (actives s).any (fun a => decide (a.code = code) && decide (a.source = src))

/-! ### Inputs and sources (R171, R222, R335) -/

/-- Whether a source has an active class 0x02 fault; 0x0204 names both its sources (R170, R171). -/
def sourceFaulty (s : State) (src : Nat) : Bool :=
  (actives s).any (fun a => decide (codeClass a.code = 2)
    && (decide (a.source = src) || (decide (a.code = 0x0204) && decide (a.second = src))))

/-- Whether a fault of an input makes it faulty: one of Table IN-3 (R171, R193), or one of L2 or above (Table FC-4), but
for 0x010B, which only blocks (R204). -/
def Act.faults (a : Act) : Bool :=
  (decide (0x0101 ≤ a.code) && decide (a.code ≤ 0x0107)) || (decide (2 ≤ a.level) && decide (a.code ≠ 0x010B))

/-- Whether an input has an active fault that makes it faulty. -/
def inputOwnFault (s : State) (i : Nat) : Bool := (actives s).any (fun a => decide (a.source = i) && a.faults)

/-- Whether the source of an input has an active class 0x02 fault (R171). -/
def fedFaulty (s : State) (i : Nat) : Bool :=
  match inSource (confOf s) i with
  | some src => sourceFaulty s src
  | none => false

/-- Whether an input counts as faulty: by a fault of its own or of its source (R171, R222, R335). -/
def inputFaulty (s : State) (i : Nat) : Bool := inputOwnFault s i || fedFaulty s i

/-- Whether a faulty input holds an entry (R193, Table FC-4). The 0x0109 that the entry itself has raised does not: the
entry waits in DISC_OFF until it is cleared (R192, R194; DEDUCED, log entry 11). -/
def inputHolds (s : State) (e i : Nat) : Bool :=
  fedFaulty s i || (actives s).any (fun a => decide (a.source = i) && a.faults
    && !(decide (a.code = 0x0109) && (pairChans (confOf s) e).contains a.second))

/-- Whether an input has an active fault of Table IN-3, or counts as faulty under R171 (Table IN-6 B:04). -/
def inputTable3 (s : State) (i : Nat) : Bool :=
  fedFaulty s i || (actives s).any (fun a => decide (a.source = i) && decide (0x0101 ≤ a.code) && decide (a.code ≤ 0x0107))

/-- Whether VFLD_TP of a site has tripped (R168). -/
def tpTripped (s : State) (f : Nat) : Bool :=
  decide ((tget {} s.power.supplies (elemAt f 0x72)).status = 3)

/-- Whether a source feeds an input and its supply has tripped: no class 0x01 fault is raised for it (R168). -/
def tpForced (s : State) (i : Nat) : Bool := (inSource (confOf s) i).isSome && tpTripped s (siteOf i)

/-- Whether an input is forced OFF by a supply: VFLD_L of its site (R159), or VFLD_TP when a source
feeds it (R168). -/
def inputForced (s : State) (i : Nat) : Bool :=
  tget false s.power.vfldLTrip (siteOf i) || tpForced s i

/-! ### Outputs, returns and brakes (R249, R334 to R336) -/

/-- The elements that an L2 fault of an element forces off: its parallel set, and under R249 every
output served by the same return with its set. -/
def elemScope (c : Conf) (el : Nat) : List Nat :=
  let own := setMembers c el
  let ret := if isReturn el then some el else if isOutput el then outReturn c (setLow c el) else none
  match ret with
  | none => own
  | some r => own ++ (servedBy c r).flatMap (setMembers c)

/-- The site an L3 fault of a source covers alone; none where it covers every populated site or no
site (R336). -/
def siteScope (c : Conf) (src : Nat) : Option Nat :=
  if src < 0x0700 then some (siteOf src)
  else if 0x0801 ≤ src ∧ src ≤ 0x08FF then (pairChan c (src - 0x0800) 1).map siteOf
  else none

/-- Whether a source is a core or a partition, whose L3 fault removes a core instead (R336). -/
def isCoreSrc (src : Nat) : Bool :=
  (decide (0x0700 ≤ src) && decide (src < 0x0704)) || (decide (0x0708 ≤ src) && decide (src < 0x070B))

/-- Whether a source is a Genxon Safe connection. -/
def isConnSrc (src : Nat) : Bool := decide (0x1000 ≤ src) && decide (src < 0x1200)

/-- The sites that an L3 fault covers (R336). -/
def l3Sites (s : State) (src : Nat) : List Nat :=
  let c := confOf s
  match siteScope c src with
  | some f => if populated s f then [f] else []
  | none =>
    if isCoreSrc src then []
    else if isConnSrc src then
      (popSites s).filter (fun f =>
        decide ((partOf c (connCfg c (src - 0x1000) 4 0)).owned.getD f 0 ≠ 0))
    else popSites s

/-- Whether a switch belongs to a function that uses a connection: the partition that receives it owns the switch (R323,
R336; DEDUCED, log entry 85). -/
def connUses (c : Conf) (src el : Nat) : Bool := isConnSrc src && owns c (connCfg c (src - 0x1000) 4 0) el

/-- Whether a fault in effect forces an output, return or brake off (R334 to R336); an external feed opens
the output's return too (R251). -/
def actForces (s : State) (a : Act) (el : Nat) : Bool :=
  let c := confOf s
  if 4 ≤ a.level then true
  else if a.level = 3 then (l3Sites s a.source).contains (siteOf el)
  else if a.level = 2 then
    if a.code = 0x0308 then isOutput el && decide (elemAt (siteOf el) 0xFF = a.source)
      && bit (tget 0 s.outs.opened (siteOf el)) (groupSupply el % 256 - 0x70)
    else if a.code = 0x0304 then
      (elemScope c a.source).contains el || ((outReturn c (setLow c a.source)).map (setMembers c)).any (·.contains el)
    else if a.code = 0x0305 then
      (elemScope c a.source).contains el || (elemScope c a.second).contains el
    else if isOutput a.source || isReturn a.source || isBrake a.source then (elemScope c a.source).contains el
    else if isSiteSrc a.source && decide (0x70 ≤ offOf a.source) && decide (offOf a.source < 0x73) then
      (isOutput el || isBrake el) && decide (groupSupply el = a.source)
    else if 0x0708 ≤ a.source ∧ a.source < 0x070B then owns c (a.source - 0x0708) el
    else connUses c a.source el
  else false

/-- Whether the collector has stopped both Curfew pairs of a site: the switches of both sides are open (R33, R34). -/
def curfewHeld (s : State) (f : Nat) : Bool := bit s.col.curfew f

/-- Whether an output, return or brake is forced off in both lanes. -/
def forcedOff (s : State) (el : Nat) : Bool :=
  curfewHeld s (siteOf el) || (actives s).any (fun a => actForces s a el)

/-- Whether the loss of a connection takes the function of an element safe in both lanes: its lanes are not compared
meanwhile, so no class 0x10 fault follows (R323). -/
def connHeld (s : State) (el : Nat) : Bool :=
  (actives s).any (fun a => decide (2 ≤ a.level) && connUses (confOf s) a.source el)

/-- Whether a whole site is forced off by an L3 or L4 reaction or a stopped Curfew (R336). -/
def siteForced (s : State) (f : Nat) : Bool :=
  curfewHeld s f || (actives s).any (fun a =>
    decide (4 ≤ a.level) || (decide (a.level = 3) && (l3Sites s a.source).contains f))

/-! ### Entries, connections -/

/-- Whether an L2 record of an entry holds it (Table FC-4). -/
def entryHeldByFault (s : State) (e : Nat) : Bool :=
  (actives s).any (fun a => decide (a.source = 0x0800 + e) && decide (2 ≤ a.level))

/-- Whether a fault makes a connection invalid (R335). -/
def connFaulty (s : State) (k : Nat) : Bool :=
  (actives s).any (fun a => decide (a.source = 0x1000 + k) && decide (2 ≤ a.level))

/-! ### Counts and FAULT_N (R344, R348, R361, R362) -/

/-- The uncleared records. -/
def unclearedRecs (s : State) : List Record := s.col.records.filter Record.uncleared

/-- The number of uncleared records (0x2600:01). -/
def unclearedCount (s : State) : Nat := (unclearedRecs s).length

/-- The highest applied level of an uncleared record, 0xFF none (0x2600:02). -/
def highestLevel (s : State) : Nat :=
  if unclearedCount s = 0 then 0xFF else (unclearedRecs s).foldl (fun m r => max m r.level) 0

/-- Whether a record holds FAULT_N (R348). -/
def Record.holds (c : Conf) (r : Record) : Bool :=
  (decide (2 ≤ r.level) || (decide (r.level = 1) && holdsL1 c (codeClass r.code)))
    && decide (r.status ≠ 3)
    && ((r.uncleared && (r.present || !r.read || r.permanent)))

/-- Whether a waiting report holds FAULT_N from its receipt (R348): one of L1 whose condition has gone makes a record that
is cleared at its commit. -/
def Pending.holds (c : Conf) (p : Pending) : Bool :=
  decide (2 ≤ p.level) || (p.present && decide (p.level = 1) && holdsL1 c (codeClass p.rep.code))

/-- Whether the FAULT_N pin is low: a record holds it, or the state does (R48, R84, R43, R348). -/
def faultNLow (s : State) : Bool :=
  (match s.ctl.st with
    | .reset | .fuseSense | .startupTest | .configLoad | .halt => true
    | .safe | .run | .configure | .maintenance => false)
  || s.col.records.any (Record.holds (confOf s)) || s.col.pending.any (fun p => !p.superseded && p.holds (confOf s))

/-- Whether a fault forbids RUN: an uncleared class 0x09 or 0x0F record of L2 or above (R42). -/
def blocksRun (s : State) : Bool :=
  (actives s).any (fun a => decide (2 ≤ a.level)
    && (decide (codeClass a.code = 0x09) || decide (codeClass a.code = 0x0F)))

end Sys2Proof.Machine
end

