-- ==== Sys2Proof/Machine/Collector.lean ====
section
/-! DEFINITION. The fault collector's operations: breach counters, handing records to the Ledger buffer,
taking a report, the end of a condition, and clearing a record (R328 to R330, R338 to R347, R443). -/

namespace Sys2Proof.Machine

/-! ### Records as bytes (Table FC-6) -/

/-- Byte 11 of a record: status and flags. -/
def Record.flagByte (r : Record) : Nat :=
  r.status + 4 * b2n r.present + 8 * b2n r.read + 16 * b2n r.escalated + 32 * b2n r.sameTick
    + 64 * b2n r.permanent + 128 * b2n r.injected

/-- The 32 bytes of a record (Table FC-6). -/
def Record.bytes (r : Record) : List Byte :=
  le 8 r.time ++ le 2 r.code ++ le 1 (r.level + 16 * r.defined) ++ le 1 r.flagByte
    ++ le 2 r.source ++ le 2 r.second ++ le 4 r.seq ++ le 8 r.detail ++ le 2 r.count
    ++ le 1 (b2n r.recovered + 2 * b2n r.acked) ++ [0]

/-- The Ledger's copy of a record (R351, Table LG-6). -/
def Record.copy (r : Record) : LedgerRec :=
  { type := 1, rank := if 2 ≤ r.level then 3 else 5, source := r.source, code := r.code, data := r.bytes }

/-! ### Breaches and the Ledger buffer -/

/-- Whether a report comes before another in collector order (R341): time, defined level with the higher first, source,
code. -/
def comesBefore (a b : Report) : Bool :=
  let la := a.lvl
  let lb := b.lvl
  decide (a.time < b.time ∨ (a.time = b.time ∧ (lb < la ∨ (la = lb ∧ (a.source < b.source
    ∨ (a.source = b.source ∧ a.code < b.code))))))

/-- Insert a waiting report in collector order. -/
def pendInsert (p : Pending) : List Pending → List Pending
  | [] => [p]
  | q :: qs =>
    if comesBefore p.rep q.rep then p :: q :: qs
    else q :: pendInsert p qs

/-- One breach of a rank is counted (R330); `cls` is the fault class a lost record counts under, 0 none. -/
def breachCount (rank cls : Nat) (s : State) : State :=
  let b := s.breach
  { s with breach := { b with
    counts := tmod 0 b.counts rank inc32
    window := tmod 0 b.window rank (· + 1)
    byClass := if cls = 0 then b.byClass else tmod 0 b.byClass (rank * 32 + cls) (· + 1)
    rank := if decide (b.time = tick10 s.time.dev) && decide (b.rank ≠ 0) then min b.rank rank else rank
    windowFrom := if tget 0 b.window rank = 0 then tset 0 b.windowFrom rank s.time.now else b.windowFrom
    time := tick10 s.time.dev } }

/-- Record slots of a page: 31 or 63 (R440), one fewer where a periodic anchor comes first (R441). -/
def pageRoom (s : State) (seq : Nat) : Nat :=
  (if s.led.part.pageSize = 4096 then 63 else 31) - (if seq % 1024 = 0 then 1 else 0)

/-- Seal the open page and queue it (R443). Its numbers, hash and anchors are fixed when it is
programmed, in the same order (log entry 13). -/
def sealOpen (s : State) : State :=
  if s.led.openRecs = [] then s
  else { s with led := { s.led with
    queued := s.led.queued ++ [⟨s.led.nextPage, s.led.segment, [], 0, s.led.openRecs, 0⟩]
    openRecs := [], nextPage := s.led.nextPage + 1 } }

/-- Remove the newest rank-5 record of a list, where there is one. -/
def dropNewest5 (l : List LedgerRec) : Option (LedgerRec × List LedgerRec) :=
  match l.reverse with
  | rl => match rl.find? (fun r => decide (r.rank = 5)) with
    | none => none
    | some r => some (r, (rl.erase r).reverse)

/-- Replace the newest rank-5 record of the queued pages by another record. -/
def replaceQueued (r : LedgerRec) : List Page → Option (LedgerRec × List Page)
  | [] => none
  | p :: ps =>
    match replaceQueued r ps with
    | some (v, qs) => some (v, p :: qs)
    | none => match dropNewest5 p.recs with
      | some (v, rs) => some (v, { p with recs := rs ++ [r] } :: ps)
      | none => none

/-- The fault class under which a lost record is counted (R330). -/
def recCls (r : LedgerRec) : Nat := if r.type = 1 then codeClass r.code else 0

/-- Since when the open page has held a record of rank 3, with another record on it (R444). -/
def rank3From (r : LedgerRec) (s : State) : Nat :=
  if r.rank = 3 ∧ s.led.openRecs.all (fun x => decide (x.rank ≠ 3)) then s.time.now else s.led.rank3Since

/-- The open page is sealed where it is full: what R444 calls filling (log entry 13). -/
def sealFull (s : State) : State := if s.led.openRecs.length < pageRoom s s.led.nextPage then s else sealOpen s

/-- Append a record to the open page. -/
def openPut (r : LedgerRec) (s : State) : State :=
  { s with led := { s.led with
    openSince := if s.led.openRecs = [] then s.time.now else s.led.openSince
    rank3Since := rank3From r s
    openRecs := s.led.openRecs ++ [r] } }

/-- The loss of a rank-5 record (R443). -/
def lose5 (cls : Nat) (s : State) : State :=
  breachCount 5 cls { s with led := { s.led with dropped := inc32 s.led.dropped } }

/-- The placing of R443; `lose` counts a breach. One of the F pages is reserved for the parameter delta (R446). -/
def placeWith (lose : Nat → Nat → State → State) (r : LedgerRec) (s : State) : State :=
  if s.led.openRecs = [] ∧ s.led.queued.length + 1 < s.led.fill then sealFull (openPut r s)
  else if s.led.openRecs ≠ [] ∧ s.led.openRecs.length < pageRoom s s.led.nextPage then sealFull (openPut r s)
  else if s.led.openRecs ≠ [] ∧ s.led.queued.length + 2 < s.led.fill then sealFull (openPut r (sealOpen s))
  else if r.rank = 5 then lose5 (recCls r) s
  else match dropNewest5 s.led.openRecs with
    | some (v, rs) => lose5 (recCls v) { s with led := { s.led with openRecs := rs ++ [r], rank3Since := rank3From r s } }
    | none => match replaceQueued r s.led.queued with
      | some (v, ps) => lose5 (recCls v) { s with led := { s.led with queued := ps } }
      | none => lose 3 (recCls r) { s with led := { s.led with summarised := inc32 s.led.summarised } }

/-- A producer hands a record of time `t` over (R443, R447, R450). Before the mount is decided the buffer keeps
it, fault records apart, which the mount copies from the collector (R87; log entry 14). Where the
Ledger is not mounted, is flushing, has stopped or formats, it counts as a breach of its rank. -/
def ledgerWith (lose : Nat → Nat → State → State) (t : Nat) (r : LedgerRec) (s : State) : State :=
  let r := { r with time := t }
  if s.led.state = 1 then placeWith lose r s
  else if s.led.state = 0 ∧ s.led.result = 0 then (if r.type = 1 then s else openPut r s)
  else lose r.rank (recCls r) s

/-! ### Joining a report to the records (R339) -/

/-- Change the records that a test picks; `put` copies each that changes to the Ledger (R351). -/
def updWith (put : LedgerRec → State → State) (pick : Record → Bool) (f : Record → Record) (s : State) : State :=
  let s' := { s with col := { s.col with records := s.col.records.map (fun r => if pick r then f r else r) } }
  ((s.col.records.filter pick).filter (fun r =>
    decide ((f r).flagByte ≠ r.flagByte) || decide ((f r).recovered ≠ r.recovered)
      || decide ((f r).acked ≠ r.acked))).foldl (fun a r => put (f r).copy a) s'

/-- Whether a record is the uncleared one of a report. -/
def Record.sameAs (r : Record) (a : Report) : Bool :=
  r.uncleared && decide (r.code = a.code) && decide (r.source = a.source)

/-- `n` further reports on an uncleared record (R339): one without a lasting condition ends none that is present. -/
def Record.again (n : Nat) (lasting : Bool) (opNow : Nat) (r : Record) : Record :=
  { r with
    count := min (r.count + n) 65535
    present := r.present || lasting
    read := if r.present then r.read else false
    goneAt := if r.present || lasting then r.goneAt else opNow }

/-- Whether a further report joins a waiting one: the record it waits to become will not be cleared with its commit,
since its condition is present or its level is above L1 (R339, R346). -/
def Pending.joins (p : Pending) (a : Report) : Bool :=
  decide (p.rep.code = a.code) && decide (p.rep.source = a.source) && !p.superseded
    && (p.present || decide (2 ≤ p.level))

/-- Operating time at the timestamp of a report: a condition with no lasting state is gone there (R346, R352). -/
def Report.goneAt (a : Report) (s : State) : Nat := s.time.opNs - (s.time.now - a.time)

/-- Whether a report joins an uncleared record or a waiting report (R339). -/
def joined (s : State) (a : Report) : Bool :=
  s.col.records.any (Record.sameAs · a) || s.col.pending.any (Pending.joins · a)

/-- A report joins the record or the waiting report of its code and source, or waits for its own commit (R339, R341). -/
def enterWith (put : LedgerRec → State → State) (a : Report) (force4 : Bool) (s : State) : State :=
  if s.col.records.any (Record.sameAs · a) then
    updWith put (Record.sameAs · a) (Record.again 1 a.lasting (Report.goneAt a s)) s
  else if s.col.pending.any (Pending.joins · a) then
    { s with col := { s.col with pending := (s.col.pending.map (fun p =>
      if p.joins a then { p with
        count := min (p.count + 1) 65535, present := p.present || a.lasting
        goneAt := if p.present || a.lasting then p.goneAt else Report.goneAt a s } else p)) } }
  else
    let p : Pending := { rep := a, present := a.lasting, force4 := force4, stamp := tick10 (devAt s a.time), goneAt := Report.goneAt a s }
    { s with col := { s.col with pending := pendInsert p s.col.pending } }

/-- Whether one of the 1,024 places for records that are not cleared is free for a further report (R344). -/
def room (s : State) : Bool := decide (unclearedCount s + s.col.pending.length < 1024)

/-- The Ledger's copy of a report of L0 or L1 that finds no place: its sequence number field reads 0 (R344). -/
def Report.copy (lvl : Nat) (a : Report) (s : State) : LedgerRec :=
  Record.copy {
    time := tick10 (devAt s a.time), code := a.code, level := lvl, defined := lvl, source := a.source
    second := a.second, seq := 0, detail := a.detail, present := a.lasting }

/-- One breach of a rank (R330). A rank 3 breach raises 0x0D40 at L1, gone in its own tick (log entry 12), which goes to
the Ledger alone where it finds no place (R344); where the copy of that record is lost in its turn, that breach is
counted with this one. -/
def breach (rank cls : Nat) (s : State) : State :=
  let s := breachCount rank cls s
  let a := momentary (report s 0x0D40 0x0770)
  let put := fun (r : LedgerRec) (t : State) => ledgerWith breachCount t.time.dev r t
  if rank = 3 ∧ s.ctl.st ≠ .reset then
    if joined s a ∨ room s then enterWith put a false s
    else breachCount 5 (codeClass a.code) (put (Report.copy 1 a s) s)
  else s

/-- A fault of 0x0508 or 0x0606 is a rank 1 breach (R328). -/
def rankOne (code : Nat) (s : State) : State := if code = 0x0508 ∨ code = 0x0606 then breach 1 0 s else s

/-- The placing of a record in the buffer (R443). -/
def place (r : LedgerRec) (s : State) : State := placeWith breach r s

/-- A producer hands a record of time `t` over. -/
def ledgerAt (t : Nat) (r : LedgerRec) (s : State) : State := ledgerWith breach t r s

/-- Records that the buffer gives up: each counts as a breach of its rank (R330). -/
def loseAll (l : List LedgerRec) (s : State) : State :=
  l.foldl (fun a r => if r.rank = 5 then lose5 (recCls r) a else breach 3 (recCls r) a) s

/-- The records in the buffer that no page of the NAND part holds. -/
def unprogrammed (s : State) : List LedgerRec := s.led.queued.flatMap Page.recs ++ s.led.openRecs

/-- A producer hands a record of the present device time over. -/
def ledgerPut (r : LedgerRec) (s : State) : State := ledgerAt s.time.dev r s

/-! ### Held records -/

/-- Whether a record has recovered by itself in the present time tick (R354). -/
def recoveredNow (s : State) (x : Record) : Bool := x.recovered && decide (x.recAt = tick10 s.time.now + 1)

/-- Whether the collector still holds a record: uncleared, in the history or first fault (R349), or of a recovery that
a coincidence in its time tick may still undo (R354). -/
def kept (s : State) (r : Record) : Bool :=
  r.uncleared || s.col.history.contains r.seq || decide (s.col.first = some r.seq) || recoveredNow s r

/-- Forget the records that nothing holds any more. One that leaves before the mount counts as a
breach of its rank (R448). -/
def prune (s : State) : State :=
  let gone := s.col.records.filter (fun r => !kept s r)
  let s' := { s with col := { s.col with records := s.col.records.filter (kept s) } }
  if s.led.state = 0 ∧ s.led.result = 0 then
    gone.foldl (fun a r => breach (if 2 ≤ r.level then 3 else 5) (codeClass r.code) a) s'
  else s'

/-- Change the records that a test picks, copying each that changes to the Ledger (R351). -/
def updRecords (pick : Record → Bool) (f : Record → Record) (s : State) : State := updWith ledgerPut pick f s

/-- A report joins its record or waits for its own commit. -/
def enter (a : Report) (force4 : Bool) (s : State) : State := enterWith ledgerPut a force4 s

/-! ### The coincidences of a recovery (R354) -/

/-- The recoveries of the present time tick that a test picks count no more, in the counter and in the window. -/
def uncount (pick : Record → Bool) (s : State) : State :=
  (s.col.records.filter (fun x => pick x && recoveredNow s x)).foldl (fun a x => { a with col := { a.col with
    classes := (tmod {} a.col.classes (codeClass x.code)
      (fun k => { k with counter := k.counter - 1, times := k.times.drop 1, last := x.recLast })) } }) s

/-- A report of a condition that returns in the time tick of its record's recovery: the record has not recovered
(R354). -/
def unrecover (a : Report) (s : State) : State :=
  let pick := fun (x : Record) => recoveredNow s x && decide (x.code = a.code) && decide (x.source = a.source)
  updRecords pick (fun x => { x with status := 0, recovered := false, read := false, recAt := 0 }) (uncount pick s)

/-! ### Taking a report (R338, R339, R344) -/

/-- The mask of a list of sites. -/
def siteMask (l : List Nat) : Nat := bitsOf (fun f => l.contains f) 7

/-- The part of a reaction that the collector takes at the detection: an L4 reaction stops the Curfew
pattern everywhere, halts the cores and discards a waiting request (R34, R45, R334); an L3 reaction
that covers more than one site stops the pattern to those (R336). -/
def reactAtOnce (lvl src : Nat) (s : State) : State :=
  if 4 ≤ lvl then
    { s with
      col := { s.col with curfew := s.col.curfew ||| popMask s }
      ctl := { s.ctl with request := none }
      proc := { s.proc with cores := ((upto 4).foldl (fun t k => tmod {} t k (fun c => { c with role := .halted }))
        s.proc.cores) } }
  else if lvl = 3 then
    let l := l3Sites s src
    if 1 < l.length then { s with col := { s.col with curfew := s.col.curfew ||| siteMask l } } else s
  else s

/-- A report that finds a place or a record to join. -/
def takeIn (a : Report) (force4 : Bool) (s : State) : State :=
  reactAtOnce (if force4 then 4 else a.lvl) a.source (enter a force4 s)

/-- A report that meets 1,024 uncleared records (R344). One of L2 or above has its reaction at once, and its place as a
breach of rank 1 where it is one (R328), and 0x0E02 is raised at L4. -/
def takeOver (lvl : Nat) (a : Report) (s : State) : State :=
  if 2 ≤ lvl then
    enter (report s 0x0E02 0x077E) false (reactAtOnce 4 0x077E (reactAtOnce lvl a.source (rankOne a.code s)))
  else breach 5 (codeClass a.code) (ledgerPut (Report.copy lvl a s) s)

/-- A report reaches the collector (R338 to R341, R344). In RESET and FUSE_SENSE nothing is recorded
(R87). `force4` marks the fault of R46 that finds no standby. -/
def take (a : Report) (force4 : Bool) (s : State) : State :=
  if s.ctl.st = .reset ∨ s.ctl.st = .fuseSense then s
  else
    let s := unrecover a s
    if joined s a ∨ room s then takeIn a force4 s else takeOver (if force4 then 4 else a.lvl) a s

/-! ### Conditions and clearing (R346, R354) -/

/-- A removed core whose BIST has passed stands by again when its fault has been cleared (R305). -/
def coreBack (s : State) : State :=
  { s with proc := { s.proc with cores := ((upto 4).foldl (fun t k =>
      tmod {} t k (fun c => if c.role = .removed ∧ c.bist = 2
          ∧ ¬ ((actives s).any (fun a => decide (a.source = 0x0700 + k) && decide (3 ≤ a.level))) = true
        then { c with role := .standby, part := 0xF, set := 0xF, bist := 0 } else c)) s.proc.cores) } }

/-- Clear the records that a test picks, where their condition is gone and their level allows it. -/
def clearRecords (pick : Record → Bool) (f : Record → Record) (s : State) : State :=
  coreBack (updRecords (fun r => pick r && r.uncleared && !r.present && decide (r.level < 4))
    (fun r => f { r with status := 1 }) s)

/-- The condition of a code at a source is gone (R346): an L0 or L1 record is cleared at once, another
starts its quiet period. -/
def gone (code src : Nat) (s : State) : State :=
  let pick := fun (r : Record) =>
    r.uncleared && r.present && decide (r.code = code) && decide (r.source = src)
  if s.col.records.any pick then
    clearRecords (fun r => decide (r.code = code) && decide (r.source = src) && decide (r.level ≤ 1)) id
      (updRecords pick (fun r => { r with present := false, read := false, goneAt := s.time.opNs }) s)
  else { s with col := { s.col with pending := (s.col.pending.map (fun p =>
      if decide (p.rep.code = code) && decide (p.rep.source = src) then { p with
        present := false, goneAt := if p.present then s.time.opNs else p.goneAt } else p)) } }

/-- Whether the condition of a code at a source is present. -/
def condPresent (s : State) (code src : Nat) : Bool :=
  (actives s).any (fun a => decide (a.code = code) && decide (a.source = src) && a.present)

/-- The records and waiting reports of the codes and sources that a test picks are superseded: cleared in this tick,
recovering nothing (R346). -/
def supersede (pick : Nat → Nat → Bool) (s : State) : State :=
  let s := { s with col := { s.col with pending := (s.col.pending.map (fun p =>
    if pick p.rep.code p.rep.source then { p with superseded := true, present := false } else p)) } }
  coreBack (updRecords (fun r => pick r.code r.source && r.uncleared) (fun r => { r with status := 3, present := false }) s)

end Sys2Proof.Machine
end

