-- ==== Sys2Proof/Machine/Crypto.lean ====
section
/-! DEFINITION. The algorithms the manual names: CRC-16 and CRC-32, SHA-256 and HMAC-SHA-256, AES-128
with CMAC, and ECDSA verification on P-256 (R30, R91, R105, R132, R141, R400, R440). -/

namespace Sys2Proof.Machine

/-! ### CRC -/

/-- One byte into the CRC-32 register, least significant bit first (Table OD-10). -/
def crc32Bits : Nat → Word → Word
  | 0, c => c
  | n + 1, c => crc32Bits n (if c.getLsbD 0 then (c >>> 1) ^^^ 0xEDB88320 else c >>> 1)

/-- The IEEE 802.3 CRC-32 of bytes (R132). -/
def crc32 (bs : List Byte) : Nat :=
  ((bs.foldl (fun c b => crc32Bits 8 (c ^^^ (b.setWidth 32))) (0xFFFFFFFF : Word)) ^^^ 0xFFFFFFFF).toNat

/-- One byte into a CRC-16 register, most significant bit first. -/
def crc16Bits (poly : BitVec 16) : Nat → BitVec 16 → BitVec 16
  | 0, c => c
  | n + 1, c => crc16Bits poly n (if c.getMsbD 0 then (c <<< 1) ^^^ poly else c <<< 1)

/-- A CRC-16 without reflection and without final XOR. -/
def crc16 (poly init : BitVec 16) (bs : List Byte) : Nat :=
  (bs.foldl (fun c b => crc16Bits poly 8 (c ^^^ ((b.setWidth 16 : BitVec 16) <<< (8 : Nat)))) init).toNat

/-- One byte into the register of the safety CRC, most significant bit first (R401). -/
def safeCrcBits : Nat → Word → Word
  | 0, c => c
  | n + 1, c => safeCrcBits n (if c.getMsbD 0 then (c <<< 1) ^^^ 0x741B8CD7 else c <<< 1)

/-- The safety CRC of a telegram under a domain identity (R401). -/
def safeCrc (domain : Nat) (bs : List Byte) : Nat :=
  ((bs.foldl (fun c b => safeCrcBits 8 (c ^^^ ((b.setWidth 32 : Word) <<< (24 : Nat))))
    (BitVec.ofNat 32 domain ^^^ 0xFFFFFFFF)) ^^^ 0xFFFFFFFF).toNat

/-- The CRC of a fuse region (R91). -/
def fuseCrc (bs : List Byte) : Nat := crc16 0x1021 0xFFFF bs

/-! ### SHA-256 and HMAC -/

/-- The round constants. -/
def shaK : List Word :=
  [0x428A2F98, 0x71374491, 0xB5C0FBCF, 0xE9B5DBA5, 0x3956C25B, 0x59F111F1, 0x923F82A4, 0xAB1C5ED5]
  ++ [0xD807AA98, 0x12835B01, 0x243185BE, 0x550C7DC3, 0x72BE5D74, 0x80DEB1FE, 0x9BDC06A7, 0xC19BF174]
  ++ [0xE49B69C1, 0xEFBE4786, 0x0FC19DC6, 0x240CA1CC, 0x2DE92C6F, 0x4A7484AA, 0x5CB0A9DC, 0x76F988DA]
  ++ [0x983E5152, 0xA831C66D, 0xB00327C8, 0xBF597FC7, 0xC6E00BF3, 0xD5A79147, 0x06CA6351, 0x14292967]
  ++ [0x27B70A85, 0x2E1B2138, 0x4D2C6DFC, 0x53380D13, 0x650A7354, 0x766A0ABB, 0x81C2C92E, 0x92722C85]
  ++ [0xA2BFE8A1, 0xA81A664B, 0xC24B8B70, 0xC76C51A3, 0xD192E819, 0xD6990624, 0xF40E3585, 0x106AA070]
  ++ [0x19A4C116, 0x1E376C08, 0x2748774C, 0x34B0BCB5, 0x391C0CB3, 0x4ED8AA4A, 0x5B9CCA4F, 0x682E6FF3]
  ++ [0x748F82EE, 0x78A5636F, 0x84C87814, 0x8CC70208, 0x90BEFFFA, 0xA4506CEB, 0xBEF9A3F7, 0xC67178F2]

/-- The initial hash value. -/
def shaH : List Word :=
  [0x6A09E667, 0xBB67AE85, 0x3C6EF372, 0xA54FF53A, 0x510E527F, 0x9B05688C, 0x1F83D9AB, 0x5BE0CD19]

/-- Entry `i` of a list of words. -/
def wordAt (l : List Word) (i : Nat) : Word := l.getD i 0

/-- The message schedule, newest word first, from the 16 words of a block. -/
def shaSchedule : Nat → List Word → List Word
  | 0, w => w
  | n + 1, w =>
    let x := wordAt w 14
    let y := wordAt w 1
    let s0 := x.rotateRight 7 ^^^ x.rotateRight 18 ^^^ (x >>> 3)
    let s1 := y.rotateRight 17 ^^^ y.rotateRight 19 ^^^ (y >>> 10)
    shaSchedule n ((wordAt w 15 + s0 + wordAt w 6 + s1) :: w)

/-- The rounds over the working variables a to h. -/
def shaRounds : List Word → List Word → List Word → List Word
  | k :: ks, w :: ws, [a, b, c, d, e, f, g, h] =>
    let s1 := e.rotateRight 6 ^^^ e.rotateRight 11 ^^^ e.rotateRight 25
    let ch := (e &&& f) ^^^ (~~~e &&& g)
    let t1 := h + s1 + ch + k + w
    let s0 := a.rotateRight 2 ^^^ a.rotateRight 13 ^^^ a.rotateRight 22
    let maj := (a &&& b) ^^^ (a &&& c) ^^^ (b &&& c)
    shaRounds ks ws [t1 + s0 + maj, a, b, c, d + t1, e, f, g]
  | _, _, v => v

/-- The 32-bit words of bytes, most significant byte first; `n` of them. -/
def beWords : Nat → List Byte → List Word
  | 0, _ => []
  | n + 1, bs => BitVec.ofNat 32 (unbe (bs.take 4)) :: beWords n (bs.drop 4)

/-- One block into the hash value. -/
def shaBlock (h : List Word) (blk : List Byte) : List Word :=
  let w := (shaSchedule 48 (beWords 16 blk).reverse).reverse
  List.zipWith (· + ·) h (shaRounds shaK w h)

/-- `n` blocks into the hash value. -/
def shaBlocks : Nat → List Word → List Byte → List Word
  | 0, h, _ => h
  | n + 1, h, bs => shaBlocks n (shaBlock h (bs.take 64)) (bs.drop 64)

/-- The padded message. -/
def shaPad (bs : List Byte) : List Byte :=
  bs ++ [0x80] ++ zeros ((119 - bs.length % 64) % 64) ++ be 8 (bs.length * 8)

/-- SHA-256. -/
def sha256 (bs : List Byte) : List Byte :=
  let m := shaPad bs
  (shaBlocks (m.length / 64) shaH m).flatMap (fun w => be 4 w.toNat)

/-- HMAC-SHA-256. -/
def hmac (key msg : List Byte) : List Byte :=
  let k := padTo 64 (if 64 < key.length then sha256 key else key)
  sha256 ((k.map (· ^^^ 0x5C)) ++ sha256 ((k.map (· ^^^ 0x36)) ++ msg))

/-! ### AES-128 and CMAC -/

/-- Doubling in GF(2⁸). -/
def xtime (a : Byte) : Byte := if a.getMsbD 0 then (a <<< 1) ^^^ 0x1B else a <<< 1

/-- The product in GF(2⁸), over the low `n` bits of `b`. -/
def gmulBits : Nat → Byte → Byte → Byte
  | 0, _, _ => 0
  | n + 1, a, b => (if b.getLsbD 0 then a else 0) ^^^ gmulBits n (xtime a) (b >>> 1)

/-- The product in GF(2⁸). -/
def gmul (a b : Byte) : Byte := gmulBits 8 a b

/-- The inverse in GF(2⁸), as the 254th power. -/
def ginv (a : Byte) : Byte :=
  let a2 := gmul a a
  let a4 := gmul a2 a2
  let a8 := gmul a4 a4
  let a16 := gmul a8 a8
  let a32 := gmul a16 a16
  let a64 := gmul a32 a32
  let a128 := gmul a64 a64
  gmul a2 (gmul a4 (gmul a8 (gmul a16 (gmul a32 (gmul a64 a128)))))

/-- The substitution box. -/
def sbox (a : Byte) : Byte :=
  let b := ginv a
  b ^^^ b.rotateLeft 1 ^^^ b.rotateLeft 2 ^^^ b.rotateLeft 3 ^^^ b.rotateLeft 4 ^^^ 0x63

/-- XOR of two byte strings. -/
def xorBytes (a b : List Byte) : List Byte := List.zipWith (· ^^^ ·) a b

/-- The round keys from the last one made, `n` more. -/
def aesKeys : Nat → Byte → List Byte → List (List Byte)
  | 0, _, _ => []
  | n + 1, rc, k =>
    let t := (k.drop 12)
    let g := (t.drop 1 ++ t.take 1).map sbox
    let g := xorBytes g [rc, 0, 0, 0]
    let w0 := xorBytes (k.take 4) g
    let w1 := xorBytes ((k.drop 4).take 4) w0
    let w2 := xorBytes ((k.drop 8).take 4) w1
    let w3 := xorBytes t w2
    let nk := w0 ++ w1 ++ w2 ++ w3
    nk :: aesKeys n (xtime rc) nk

/-- Entry `i` of a byte string. -/
def byteAt (l : List Byte) (i : Nat) : Byte := l.getD i 0

/-- Byte substitution and row shift. -/
def aesSubShift (st : List Byte) : List Byte :=
  (upto 16).map (fun i => sbox (byteAt st ((i + 4 * (i % 4)) % 16)))

/-- Column mixing. -/
def aesMix (st : List Byte) : List Byte :=
  (upto 16).map (fun i =>
    let c := 4 * (i / 4)
    let at_ (k : Nat) := byteAt st (c + (i + k) % 4)
    gmul 2 (at_ 0) ^^^ gmul 3 (at_ 1) ^^^ at_ 2 ^^^ at_ 3)

/-- The rounds over the round keys that remain. -/
def aesRounds : List (List Byte) → List Byte → List Byte
  | [], st => st
  | [k], st => xorBytes (aesSubShift st) k
  | k :: ks, st => aesRounds ks (xorBytes (aesMix (aesSubShift st)) k)

/-- AES-128 encryption of one block. -/
def aes (key blk : List Byte) : List Byte :=
  aesRounds (aesKeys 10 1 key) (xorBytes (padTo 16 blk) key)

/-- The inverse of the affine part of the substitution box. -/
def invAffine (a : Byte) : Byte := a.rotateLeft 1 ^^^ a.rotateLeft 3 ^^^ a.rotateLeft 6 ^^^ 0x05

/-- Inverse byte substitution and row shift. -/
def aesInvSubShift (st : List Byte) : List Byte :=
  (upto 16).map (fun i => ginv (invAffine (byteAt st ((i + 16 - 4 * (i % 4)) % 16))))

/-- Inverse column mixing. -/
def aesInvMix (st : List Byte) : List Byte :=
  (upto 16).map (fun i =>
    let c := 4 * (i / 4)
    let at_ (k : Nat) := byteAt st (c + (i + k) % 4)
    gmul 14 (at_ 0) ^^^ gmul 11 (at_ 1) ^^^ gmul 13 (at_ 2) ^^^ gmul 9 (at_ 3))

/-- The inverse rounds over the round keys that remain, the last one first. -/
def aesInvRounds : List (List Byte) → List Byte → List Byte
  | [], st => st
  | [k], st => xorBytes (aesInvSubShift st) k
  | k :: ks, st => aesInvRounds ks (aesInvMix (xorBytes (aesInvSubShift st) k))

/-- AES-128 decryption of one block (R402). -/
def aesInv (key blk : List Byte) : List Byte :=
  match ((aesKeys 10 1 key).reverse ++ [key]) with
  | [] => blk
  | k :: ks => aesInvRounds ks (xorBytes (padTo 16 blk) k)

/-- Doubling of a 128-bit string for the CMAC subkeys. -/
def cmacDouble (l : List Byte) : List Byte :=
  let n := unbe l
  let m := (n * 2) % 2 ^ 128
  be 16 (if n.testBit 127 then Nat.xor m 0x87 else m)

/-- The chain over `n` whole blocks. -/
def cmacChain (key : List Byte) : Nat → List Byte → List Byte → List Byte
  | 0, x, _ => x
  | n + 1, x, m => cmacChain key n (aes key (xorBytes x (m.take 16))) (m.drop 16)

/-- AES-128 CMAC. -/
def cmac (key msg : List Byte) : List Byte :=
  let k1 := cmacDouble (aes key (zeros 16))
  let n := (msg.length + 15) / 16 - 1
  let head := msg.take (16 * n)
  let last := msg.drop (16 * n)
  let fin := if last.length = 16 then xorBytes last k1
    else xorBytes (padTo 16 (last ++ [0x80])) (cmacDouble k1)
  aes key (xorBytes (cmacChain key n (zeros 16) head) fin)

/-! ### ECDSA on P-256 (R105, R108) -/

/-- The field prime of P-256. -/
def p256 : Nat := 0xFFFFFFFF00000001000000000000000000000000FFFFFFFFFFFFFFFFFFFFFFFF
/-- The order of P-256. -/
def n256 : Nat := 0xFFFFFFFF00000000FFFFFFFFFFFFFFFFBCE6FAADA7179E84F3B9CAC2FC632551
/-- The coefficient b of P-256. -/
def b256 : Nat := 0x5AC635D8AA3A93E7B3EBBD55769886BC651D06B0CC53B0F63BCE3C3E27D2604B
/-- The base point of P-256. -/
def g256 : Nat × Nat := (0x6B17D1F2E12C4247F8BCE6E563A440F277037D812DEB33A0F4A13945D898C296,
  0x4FE342E2FE1A7F9B8EE7EB4A7C0F9E162BCE33576B315ECECBB6406837BF51F5)

/-- Power modulo `m`, over `k` bits of the exponent from the top. -/
def powMod (m a e : Nat) : Nat → Nat
  | 0 => 1 % m
  | k + 1 =>
    let r := powMod m a (e / 2) k
    let r2 := r * r % m
    if e % 2 = 1 then r2 * a % m else r2

/-- The inverse modulo a prime below 2²⁵⁶. -/
def invMod (m a : Nat) : Nat := powMod m a (m - 2) 256

/-- Difference modulo `m`. -/
def subMod (m a b : Nat) : Nat := (a % m + (m - b % m)) % m

/-- The sum of two points; `none` is the point at infinity. -/
def ecAdd : Option (Nat × Nat) → Option (Nat × Nat) → Option (Nat × Nat)
  | none, q => q
  | p, none => p
  | some (x1, y1), some (x2, y2) =>
    if x1 = x2 ∧ (y1 + y2) % p256 = 0 then none
    else
      let l := if x1 = x2 then (3 * x1 * x1 + (p256 - 3)) % p256 * invMod p256 (2 * y1 % p256) % p256
        else subMod p256 y2 y1 * invMod p256 (subMod p256 x2 x1) % p256
      let x := subMod p256 (l * l % p256) (x1 + x2)
      some (x, subMod p256 (l * subMod p256 x1 x % p256) y1)

/-- The multiple of a point, over `k` bits of the factor. -/
def ecMul (e : Nat) (p : Option (Nat × Nat)) : Nat → Option (Nat × Nat)
  | 0 => none
  | k + 1 =>
    let r := ecMul (e / 2) p k
    let r2 := ecAdd r r
    if e % 2 = 1 then ecAdd r2 p else r2

/-- Whether a pair lies on the curve. -/
def onCurve (x y : Nat) : Bool :=
  decide (x < p256) && decide (y < p256)
    && decide (y * y % p256 = (x * x % p256 * x + (p256 - 3) * x + b256) % p256)

/-- Verification of a signature over a digest. -/
def ecdsaVerify (pub digest : List Byte) (r s : Nat) : Bool :=
  let x := unbe (pub.take 32)
  let y := unbe (pub.drop 32)
  if decide (pub.length = 64) && onCurve x y && decide (0 < r) && decide (r < n256)
      && decide (0 < s) && decide (s < n256) then
    let w := invMod n256 s
    let u1 := unbe digest * w % n256
    let u2 := r * w % n256
    match ecAdd (ecMul u1 (some g256) 256) (ecMul u2 (some (x, y)) 256) with
    | none => false
    | some (px, _) => decide (px % n256 = r)
  else false

end Sys2Proof.Machine
end

