-- ==== Sys2Proof/Machine/Lane.lean ====
section
/-! DEFINITION. The operations of the processor lane: a core's state words in both passes, its memory map and
journal, its counters, the trap, rollback and takeover, and the raising of a fault, which removes a core
where the fault says so (R46, R286 to R306, R475 to R479). -/

namespace Sys2Proof.Machine

/-! ### Access to cores, sets and partitions -/

/-- Core `k`. -/
def core (s : State) (k : Nat) : CoreSt := tget {} s.proc.cores k
/-- TCM set `i`. -/
def tcm (s : State) (i : Nat) : Tcm := tget {} s.proc.tcms i
/-- Partition `p`. -/
def part (s : State) (p : Nat) : PartSt := tget {} s.proc.parts p

/-- Change a core. -/
def modCore (k : Nat) (f : CoreSt → CoreSt) (s : State) : State :=
  { s with proc := { s.proc with cores := tmod {} s.proc.cores k f } }
/-- Change a TCM set. -/
def modTcm (i : Nat) (f : Tcm → Tcm) (s : State) : State :=
  { s with proc := { s.proc with tcms := tmod {} s.proc.tcms i f } }
/-- Change a partition. -/
def modPart (p : Nat) (f : PartSt → PartSt) (s : State) : State :=
  { s with proc := { s.proc with parts := tmod {} s.proc.parts p f } }
/-- Change a core's counters. -/
def modPerf (k : Nat) (f : Perf → Perf) (s : State) : State :=
  modCore k (fun c => { c with perf := f c.perf }) s

/-- Whether a core issues: it runs a partition, has not ended its cycle or trapped, and boundaries run
(R286, R303, R307, R308). -/
def issues (s : State) (k : Nat) : Bool :=
  let c := core s k
  decide (c.role = .active) && decide (c.part < 3) && !c.ended && !c.trapped && evaluating s && s.proc.running

/-! ### State words (R286, R293) -/

/-- A register of the primary pass; x0 reads 0. -/
def Ctx.get (c : Ctx) (r : BitVec 5) : Word := if r = 0 then 0 else tget 0 c.regs r.toNat
/-- Write a register of the primary pass; a write to x0 is discarded. -/
def Ctx.set (c : Ctx) (r : BitVec 5) (v : Word) : Ctx :=
  if r = 0 then c else { c with regs := tset 0 c.regs r.toNat v }
/-- A register of the shadow pass; x0 reads 0xFFFFFFFF (R293). -/
def Ctx.getInv (c : Ctx) (r : BitVec 5) : Word := if r = 0 then 0xFFFFFFFF else tget 0xFFFFFFFF c.regs r.toNat
/-- Write a register of the shadow pass. -/
def Ctx.setInv (c : Ctx) (r : BitVec 5) (v : Word) : Ctx :=
  if r = 0 then c else { c with regs := tset 0xFFFFFFFF c.regs r.toNat v }

/-- The CSRs with every word inverted. -/
def Csrs.inv (c : Csrs) : Csrs :=
  ⟨~~~c.mstatus, ~~~c.mtvec, ~~~c.mepc, ~~~c.mcause, ~~~c.mtval, ~~~c.mscratch, ~~~c.mcycle, ~~~c.mcycleh,
   ~~~c.minstret, ~~~c.minstreth⟩

/-- The state words with every word inverted. -/
def Ctx.inv (c : Ctx) : Ctx :=
  { regs := c.regs.map (fun p => (p.1, ~~~p.2)), pc := ~~~c.pc, csrs := c.csrs.inv }

/-- The 42 state words of a primary pass: x1 to x31, the PC and the ten CSRs (R298). -/
def Ctx.words (c : Ctx) : List Word :=
  (upto 31).map (fun i => tget 0 c.regs (i + 1)) ++ [c.pc, c.csrs.mstatus, c.csrs.mtvec, c.csrs.mepc,
    c.csrs.mcause, c.csrs.mtval, c.csrs.mscratch, c.csrs.mcycle, c.csrs.mcycleh, c.csrs.minstret,
    c.csrs.minstreth]

/-! ### Counters (R475 to R479) -/

/-- Add to a wrapping counter with its overflow flag: the new value, and whether it wrapped (R478). -/
def wrapAdd (v k : Nat) : Nat × Bool := ((v + k) % 2 ^ 32, decide (2 ^ 32 ≤ v + k))

/-- Add to slot category `i` (0 retired, 1 wasted, 2 front-end, 3 back-end, 4 idle), where slot counters
run (Table PM-4). -/
def slotAdd (i k : Nat) (p : Perf) : Perf :=
  if bit p.control 1 then
    let r := wrapAdd (tget 0 p.slots i) k
    { p with slots := tset 0 p.slots i r.1, flags := if r.2 then setBit p.flags (4 + i) true else p.flags }
  else p

/-- Count one event source: every counter that selects it, where event counters run (R477). -/
def eventAdd (code k : Nat) (p : Perf) : Perf :=
  if bit p.control 0 ∧ code ≠ 0 then
    (upto 4).foldl (fun q i =>
      if tget 0 q.select i = code then
        let r := wrapAdd (tget 0 q.events i) k
        { q with events := tset 0 q.events i r.1, flags := if r.2 then setBit q.flags i true else q.flags }
      else q) p
  else p

/-- Core cycles pass: they are counted as cycles and as event 0x01 (Table PM-2, Table PM-4). -/
def cyclesAdd (k : Nat) (p : Perf) : Perf := eventAdd 1 k { p with cycles := (p.cycles + k) % 2 ^ 64 }

/-- Slots of `cycles` core cycles, with the odd cycle left from before: their number, and the cycle left over. Of a slot
that two categories share the later one has it (DESIGN CHOICE, log entry 104). -/
def slotsOf (odd cycles : Nat) : Nat × Nat := ((odd + cycles) / 2, (odd + cycles) % 2)

/-- Every slot up to core cycle `top` that no other category took is Idle; the cycle began at `base` (R475). -/
def idleTo (base top : Nat) (p : Perf) : Perf :=
  let n := (top - base) / 2 - p.counted
  slotAdd 4 n { cyclesAdd (top - p.cycles) p with counted := p.counted + n }

/-- Whether a core is idle in its safety cycle (Table PM-1): it runs no partition, has stopped, or waits for the
boundary. -/
def idles (s : State) (k : Nat) : Bool :=
  let c := core s k
  decide (c.role ≠ .active) || decide (3 ≤ c.part) || c.trapped || (c.ended && (part s c.part).cycleDone)

/-- The slots of the cores that idle, up to the present moment (R474, R475): of every core while no safety cycles run, of
those that idle in the present cycle else. In HALT the count stands still. -/
def settleIdle (s : State) : State :=
  if s.ctl.st = .halt then s
  else if s.proc.running then
    let base := (part s 0).startCycles
    let top := base + min (safetyCycle (confOf s) * 400) ((s.time.now - s.proc.boundary) / 5 * 2)
    (upto 4).foldl (fun a k => if idles a k then modPerf k (idleTo base top) a else a) s
  else
    let n := (s.time.now - s.proc.countedTo) / 5
    let s := (upto 4).foldl (fun a k => modPerf k (fun p => slotAdd 4 n (cyclesAdd (2 * n) p)) a) s
    let s := (upto 3).foldl (fun a p => modPart p (fun q => { q with startCycles := q.startCycles + 2 * n }) a) s
    { s with proc := { s.proc with countedTo := s.proc.countedTo + 5 * n } }

/-- Core cycles whose slots are Wasted (R475). -/
def wasteCycles (k : Nat) (p : Perf) : Perf :=
  let n := slotsOf p.odd k
  slotAdd 1 n.1 { cyclesAdd k p with counted := p.counted + n.1, odd := n.2 }

/-- Every pending slot of the interval is Wasted, and its samples are discarded (R476, R479). -/
def wasteInterval (p : Perf) : Perf :=
  let k := (p.pending.map Prod.snd).foldl (· + ·) 0
  let p := slotAdd 1 k p
  { p with pending := [], discarded := inc32 p.discarded p.pendingSamples.length, pendingSamples := [] }

/-- Write one sample into the buffer (R479). -/
def sampleWrite (r : List Byte) (p : Perf) : Perf :=
  if p.samples.length < 256 then { p with samples := p.samples ++ [r], gen := (p.gen + 1) % 65536 }
  else if p.mode = 2 then { p with samples := p.samples.drop 1 ++ [r], gen := (p.gen + 1) % 65536 }
  else { p with lost := inc32 p.lost }

/-- A confirmed interval: its pending slots go to their categories and its samples to the buffer. -/
def confirmInterval (p : Perf) : Perf :=
  let p := p.pending.foldl (fun q e => slotAdd e.1 e.2 q) p
  let p := p.pendingSamples.foldl (fun q r => sampleWrite r q) p
  { p with pending := [], pendingSamples := [] }

/-- What the monitors see of one instruction: its class, whether it branched, whether it used the
multiplier or divider, and whether it read the input image (Tables PM-2, PM-3). -/
structure Seen where
  cls   : Nat := 0
  taken : Bool := false
  md    : Bool := false
  image : Bool := false
deriving DecidableEq, Repr, Inhabited

/-- The stalls of an instruction, within what R289 and R479 allow it. -/
def stallOf (n : Nat) (v : Seen) : Stall :=
  let f := Config.freeStall n
  { fetch := f.fetch, use := f.use, bank := if v.image then min 8 f.bank else 0
    busy := if v.md then f.busy else 0 }

/-- A sample record (Table PM-3). -/
def sampleRec (s : State) (k : Nat) (v : Seen) (w : Stall) : List Byte :=
  let c := core s k
  let sum := w.fetch + w.use + w.bank + w.busy
  let main := if sum = 0 then 0
    else if w.use + w.bank + w.busy ≤ w.fetch then 1 else if w.use + w.busy ≤ w.bank then 2 else 3
  le 4 c.prim.pc.toNat ++ le 2 (min (6 + sum) 65535)
    ++ le 1 (v.cls + 4 * b2n v.taken + 8 * b2n v.md + 16 * main) ++ le 1 c.part
    ++ le 4 (c.perf.cycles - (part s c.part).startCycles) ++ le 4 s.proc.cycle

/-- Select a sample at every Nth retired instruction (R479). -/
def sampleStep (r : List Byte) (jitter : Nat) (p : Perf) : Perf :=
  if p.mode = 0 then p
  else if p.toNext ≤ 1 then
    { p with
      toNext := p.interval + (if p.jitter then jitter else 0)
      pendingSamples := p.pendingSamples ++ [r] }
  else { p with toNext := p.toNext - 1 }

/-- Add to a 64-bit pair of counter CSRs. -/
def csrCount (lo hi : Word) (k : Nat) : Word × Word :=
  let v := lo.toNat + 2 ^ 32 * hi.toNat + k
  (BitVec.ofNat 32 v, BitVec.ofNat 32 (v / 2 ^ 32))

/-- The counter CSRs after `n` cycles and one instruction. -/
def Csrs.count (n : Nat) (c : Csrs) : Csrs :=
  let a := csrCount c.mcycle c.mcycleh n
  let b := csrCount c.minstret c.minstreth 1
  { c with mcycle := a.1, mcycleh := a.2, minstret := b.1, minstreth := b.2 }

/-- An instruction retires in both passes: counters, CSR counters and the sampler (R286, R475 to R479).
Its stalls are free values (log entry 15). -/
def retire (k : Nat) (v : Seen) (s : State) : State :=
  let (n, s) := draw s
  let w := stallOf n v
  let sum := w.fetch + w.use + w.bank + w.busy
  let r := sampleRec s k v w
  modCore k (fun c =>
    let p := cyclesAdd (2 + sum) c.perf
    let p := (eventAdd 7 w.fetch (eventAdd 8 w.use (eventAdd 9 w.bank p)))
    let p := if v.cls = 1 then eventAdd 3 1 p else if v.cls = 2 then eventAdd 4 1 p else p
    let p := if v.taken then eventAdd 5 1 p else p
    let p := if v.md then eventAdd 6 1 p else p
    let p := sampleStep r (Config.freeJitter n).toNat p
    let fe := slotsOf p.odd w.fetch
    let be := slotsOf fe.2 (w.use + w.bank + w.busy)
    let q := { p with
      pending := tmod 0 (tmod 0 (tmod 0 p.pending 0 (· + 1)) 2 (· + fe.1)) 3 (· + be.1)
      counted := p.counted + 1 + fe.1 + be.1, odd := be.2 }
    { c with
      perf := q
      prim := { c.prim with csrs := c.prim.csrs.count (2 + sum) }
      shad := { c.shad with csrs := (c.shad.csrs.inv.count (2 + sum)).inv } }) s

/-! ### Words under check bits (R290) -/

/-- The source number of the memory that a word belongs to (Table FC-2). -/
def placeMem : Place → Nat
  | .tcm i _ | .journal i _ => 0x0730 + i
  | .shared _ => 0x0734
  | .slot _ _ => 0x0735

/-- The address of a word that a record names. A slot has none in the core's map; it shows its copy's number (DESIGN
CHOICE, log entry 82). -/
def placeAddr : Place → Nat
  | .tcm _ a | .shared a => a
  | .journal _ n => 8 * n
  | .slot p c => 3 * p + c

/-- What a word shows when it is read. -/
def shows (s : State) (pl : Place) : Ecc :=
  ((s.proc.upsets.find? (fun e => decide (e.1 = pl))).map Prod.snd).getD .clean

/-- The words that a test picks have been written anew. -/
def clearUpsets (pick : Place → Bool) (s : State) : State :=
  { s with proc := { s.proc with upsets := s.proc.upsets.filter (fun e => !pick e.1) } }

/-- A read of a word with a single-bit error corrects it and writes it back (R290). -/
def mend (pl : Place) (s : State) : State :=
  if shows s pl = .corrected then
    take (momentary (report s 0x0801 (placeMem pl))) false (clearUpsets (fun q => decide (q = pl)) s)
  else s

/-- The same for a core's own read, which its counters see (Table PM-2). -/
def mendFor (k : Nat) (pl : Place) (s : State) : State :=
  if shows s pl = .corrected then mend pl (modPerf k (eventAdd 0x0D 1) s) else s

/-- The first word of a list that cannot be corrected. -/
def badPlace (s : State) (l : List Place) : Option Place := l.find? (fun pl => decide (shows s pl = .uncorrectable))

/-! ### Journal, rollback, takeover (R299 to R306) -/

/-- The address of the region of partition `p` (Table PL-1). -/
def regionBase (p : Nat) : Nat := 0x20040000 + 0x20000 * p

/-- Put the old word of a journal entry back: the data TCM of set `i` or the region of partition `p`. The word is written
anew, with its check bits. -/
def unwindOne (i p : Nat) (e : Nat × Word) (s : State) : State :=
  let s := clearUpsets (fun pl => decide (pl = if e.1 < 0x20000000 then .tcm i e.1 else .shared e.1)) s
  if e.1 < 0x20000000 then modTcm i (fun t => { t with dmem := wrWord t.dmem (e.1 - 0x10000000) e.2 }) s
  else modPart p (fun q => { q with region := wrWord q.region (e.1 - regionBase p) e.2 }) s

/-- The interval to the next checkpoint starts (R298). -/
def startInterval (k : Nat) (s : State) : State :=
  modCore k (fun c => { c with ckptCycles := c.perf.cycles, ckptTime := s.time.now }) s

/-- A restore takes core cycles, which are Wasted (R475). The next interval starts at its end (R298). -/
def restoreTime (k : Nat) (s : State) : State :=
  let (n, s) := draw s
  startInterval k (modPerf k (wasteCycles (min 3200 (Config.freeRestore n))) s)

/-- A checkpoint takes 0.5 µs at the most, confirmed or not: its slots are Wasted (R298, R475). -/
def checkpointTime (k : Nat) (s : State) : State :=
  let (n, s) := draw s
  modPerf k (wasteCycles (min 200 (Config.freeRestore n))) s

/-- Load a core's two passes with state words, the shadow inverted. `ended` says that the cycle's work is done: the
core issues nothing before the next boundary (R308). -/
def CoreSt.load (w : Ctx) (ended : Bool) (c : CoreSt) : CoreSt :=
  { c with prim := w, shad := w.inv, saved := w, posted := [], ended := ended, trapped := false, skew := [] }

/-- The core that stands by: one with role standby, or the one whose periodic test is under way (R305). -/
def standbyCore (s : State) : Option Nat :=
  match (upto 4).find? (fun k => decide ((core s k).role = .standby)) with
  | some k => some k
  | none => (upto 4).find? (fun k => decide ((core s k).role = .underTest))

/-- Item `n` of the scheduler. -/
def item (s : State) (n : Nat) : Item := tget {} s.test.items n
/-- Change an item. -/
def modItem (n : Nat) (f : Item → Item) (s : State) : State :=
  { s with test := { s.test with items := tmod {} s.test.items n f } }

/-- The source number of an item (R380). -/
def itemSrc (n : Nat) : Nat :=
  if n < 4 then 0x0700 + n else if n < 11 then elemAt (n - 4) 0xFF else 0x0733

/-- Whether a failed array test or restore has stopped the array of a site (R369). -/
def arrayStopped (s : State) (f : Nat) : Bool :=
  [0x0E12, 0x0E13, 0x0E17].any (fun c => faultActive s c (elemAt f 0xFF))

/-- The reset of a core after its test, or after the abandonment of one: its context and posted stores are those of reset
(Table ST-1, R305). -/
def CoreSt.restart (c : CoreSt) : CoreSt := { c.load {} false with chime := 0 }

/-- A core whose test is abandoned is reset, stands by again and is due for its test at once (R305, R371). No step of the
rotation is under way any more. -/
def coreDue (k : Nat) (s : State) : State :=
  modCore k (fun c => if c.role = .underTest then { c.restart with role := .standby } else c)
    { s with test := { s.test with untested := k :: s.test.untested.filter (· ≠ k), step := 0 } }

/-- The kind of an item's engine: 0 of a core, 1 of a slot array. -/
def engineOf (n : Nat) : Nat := if n < 4 then 0 else 1

/-- A test starts: the controller seeds the PRPG with the item's next seed (R364, R366). -/
def startTest (n : Nat) (s : State) : State :=
  modItem n (fun i => { i with state := 2, prpg := if n < 11 then Config.bistSeed (engineOf n) i.seed else i.prpg }) s

/-- A test under way is abandoned: it is counted, 0x0E1A is raised, its age stands and it stays eligible
(R378). An array comes out of its hold with its block states as they were (R236). -/
def abandonItem (n : Nat) (s : State) : State :=
  if (item s n).state = 2 then
    let s := modItem n (fun i => { i with state := 1, result := 5, copy := [] }) s
    let s := if 4 ≤ n ∧ n < 11 then
      let st := if arrayStopped s (n - 4) then 3 else 1
      { s with array := { s.array with fba := (tmod {} s.array.fba (n - 4)
          (fun a => if a.state = 2 then { a with state := st } else a)) } } else s
    let s := if n < 4 then coreDue n s else s
    let s := { s with test := { s.test with abandoned := inc32 s.test.abandoned } }
    take (momentary (report s 0x0E1A (itemSrc n))) false s
  else s

/-- The array tests that a reaction of a level abandons: on its die at L3, on every die at L4 (R378). -/
def abandonArrays (lvl src : Nat) (s : State) : State :=
  (upto 7).foldl (fun a f =>
    if 4 ≤ lvl ∨ (lvl = 3 ∧ (l3Sites s src).contains f) then abandonItem (4 + f) a else a) s

/-- An L4 report of the processor lane's own restore. -/
def takeStop (a : Report) (s : State) : State := abandonArrays 4 a.source (take a false s)

/-- Unwind journal entries, newest first; false where a word of the journal cannot be corrected, which ends the unwinding
(DESIGN CHOICE, log entry 82). The entries are numbered from the oldest. -/
def unwindAll (i p : Nat) : List (Nat × Word) → State → State × Bool
  | [], s => (s, true)
  | e :: es, s =>
    if shows s (.journal i es.length) = .uncorrectable then (s, false)
    else unwindAll i p es (unwindOne i p e (mend (.journal i es.length) s))

/-- Whether a word lies in the journal of a set. -/
def inJournal (i : Nat) : Place → Bool
  | .journal j _ => decide (j = i)
  | .tcm _ _ | .shared _ | .slot _ _ => false

/-- Unwind a set's journal (Table PL-4); a word of it that cannot be corrected raises 0x0803 (R315). -/
def unwind (i p : Nat) (s : State) : State :=
  let r := unwindAll i p (tcm s i).journal s
  let s := modTcm i (fun t => { t with journal := [] }) (clearUpsets (inJournal i) r.1)
  if r.2 then s else takeStop (report s 0x0803 (0x0730 + i)) s

/-- The rollback of Table PL-4: posted stores discarded, journal unwound, both passes reloaded. -/
def rollback (k : Nat) (s : State) : State :=
  let c := core s k
  let s := unwind c.set c.part s
  let s := modCore k (fun c =>
    { c.load c.saved (part s c.part).cycleDone with
      retried := true
      rolls := s.time.opNs :: c.rolls
      rollbacks := inc32 c.rollbacks
      perf := eventAdd 0x0B 1 (wasteInterval c.perf) }) s
  let s := { s with proc := { s.proc with rollbacks := inc32 s.proc.rollbacks } }
  restoreTime k (modPart c.part (fun p => { p with rolled := true }) s)

/-- Take a core out of its partition (R303, R305): its logic BIST runs next. -/
def removeCore (k : Nat) (s : State) : State :=
  modCore k (fun c => { c with
    role := .removed, part := 0xF, set := 0xF, posted := [], ended := false, retried := false, bist := 1
    perf := wasteInterval c.perf }) s

/-- The 42 state words as bytes, least significant first in each. -/
def Ctx.bytes (c : Ctx) : List Byte := c.words.flatMap (fun w => le 4 w.toNat)

/-- One copy of a standby slot as it is shipped (R304). -/
def SlotCopy.of (w : Ctx) : SlotCopy := { word := w, comp := w.inv, crc := crc32 w.bytes }

/-- Whether a copy passes its check: its rails are complementary and its CRC holds. -/
def SlotCopy.sound (c : SlotCopy) : Bool := decide (c.comp = c.word.inv) && decide (c.crc = crc32 c.word.bytes)

/-- The state words of a standby slot: those of its first sound copy. -/
def PartSt.slot (q : PartSt) : Ctx := ((q.copies.find? SlotCopy.sound).map SlotCopy.word).getD {}

/-- Whether a standby slot passes its check: one of its copies does. -/
def PartSt.slotOk (q : PartSt) : Bool := q.copies.any SlotCopy.sound

/-- Whether a word is one of a copy of a partition's standby slot. -/
def slotPlace (p : Nat) : Place → Bool
  | .slot q _ => decide (q = p)
  | .tcm _ _ | .journal _ _ | .shared _ => false

/-- Ship the state words of a confirmed checkpoint to the standby slot of its partition (R304). -/
def ship (p : Nat) (w : Ctx) (s : State) : State :=
  clearUpsets (slotPlace p) (modPart p (fun q => { q with copies := List.replicate 3 (SlotCopy.of w) }) s)

/-- Read a standby slot: a corrected word is written back; one that cannot be corrected raises 0x0802, and its copy is lost
(R290). -/
def readSlot (p : Nat) (s : State) : State :=
  let s := (upto 3).foldl (fun a c => mend (.slot p c) a) s
  let s := (upto 3).foldl (fun a c => if shows s (.slot p c) = .uncorrectable then
    takeStop (report a 0x0802 0x0735 0xFFFF (placeAddr (.slot p c))) a else a) s
  modPart p (fun q => { q with copies := ((upto 3).zip q.copies).filterMap (fun e =>
    if shows s (.slot p e.1) = .uncorrectable then none else some e.2) }) s

/-- The takeover of R305: the standby core takes the partition and set of core `k`, the journal is unwound, and the
partition resumes from its slot. A slot that fails its check raises 0x0804 and the partition does not resume. -/
def takeover (k j : Nat) (s : State) : State :=
  let c := core s k
  let s := if (core s j).role = .underTest then abandonItem 0x0B (abandonItem j s) else abandonItem 0x0B s
  let s := modCore j (fun d => { d with
    role := .active, part := c.part, set := c.set, chime := c.chime, retried := c.retried
    perf := eventAdd 0x0F 1 (idleTo (part s 0).startCycles c.perf.cycles d.perf) }) (removeCore k s)
  let s := readSlot c.part (unwind c.set c.part s)
  let s := { s with proc := { s.proc with takeovers := inc32 s.proc.takeovers } }
  let q := part s c.part
  if q.slotOk then
    restoreTime j (modCore j (CoreSt.load q.slot q.cycleDone) (modPart c.part (fun p => { p with rolled := true }) s))
  else takeStop (report s 0x0804 (0x0708 + c.part)) s

/-! ### Raising a fault -/

/-- The core that runs a partition. -/
def coreOfPart (s : State) (p : Nat) : Option Nat :=
  (upto 4).find? (fun k => decide ((core s k).role = .active) && decide ((core s k).part = p))

/-- The core that an L3 fault of a source removes: the core itself, or the one that runs the partition
(R336). -/
def coreNamed (s : State) (src : Nat) : Option Nat :=
  if 0x0700 ≤ src ∧ src < 0x0704 then some (src - 0x0700)
  else if 0x0708 ≤ src ∧ src < 0x070B then coreOfPart s (src - 0x0708)
  else none

/-- Whether the L3 reaction of a source needs a takeover that no standby core can make (R46, R306). -/
def needsL4 (s : State) (src : Nat) : Bool :=
  match coreNamed s src with
  | some k => decide ((core s k).role = .active) && decide ((core s k).part < 3) && (standbyCore s).isNone
  | none => false

/-- The L3 reaction of a source on a core (R303, R305): its partition is taken over and it is removed. -/
def removeNamed (src : Nat) (s : State) : State :=
  match coreNamed s src with
  | none => s
  | some k =>
    if (core s k).role = .active ∧ (core s k).part < 3 then
      match standbyCore s with
      | some j => takeover k j s
      | none => removeCore k s
    else if (core s k).role = .standby ∨ (core s k).role = .underTest then removeCore k (abandonItem k s)
    else s

/-- Change the waiting reports that a test picks. -/
def modPending (pick : Pending → Bool) (f : Pending → Pending) (s : State) : State :=
  { s with col := { s.col with pending := (s.col.pending.map (fun p => if pick p then f p else p)) } }

/-- The waiting report whose takeover a new report of the same safety cycle comes before in collector order (R306). -/
def outranked (a : Report) (s : State) : Option Pending :=
  s.col.pending.find? (fun p => p.taker.isSome && decide (s.proc.boundary ≤ p.rep.time) && comesBefore a p.rep)

/-- The standby core takes the partition of the report that comes first in collector order over; the other report's
record is committed at L4 (R46, R306). -/
def giveWay (a : Report) (p : Pending) (s : State) : State :=
  match coreNamed s a.source, p.taker with
  | some k, some j =>
    let s := modPending (fun q => decide (q = p)) (fun q => { q with force4 := true, taker := none }) s
    abandonArrays 4 p.rep.source (reactAtOnce 4 p.rep.source (takeover k j (take a false s)))
  | _, _ => s

/-- A checker raises a fault (R339). An L3 fault of a core removes it: the standby core takes its
partition over, and where none stands by the record is committed at L4 (R46, R305, R306, R336). -/
def raise (a : Report) (s : State) : State :=
  let lvl := a.lvl
  if s.ctl.st = .reset ∨ s.ctl.st = .fuseSense then s
  else if lvl = 3 then
    match (if needsL4 s a.source then outranked a s else none) with
    | some p => giveWay a p s
    | none =>
      let taker := if needsL4 s a.source then none else (coreNamed s a.source).bind (fun k =>
        if (core s k).role = .active ∧ (core s k).part < 3 then standbyCore s else none)
      let s := take a (needsL4 s a.source) s
      abandonArrays 3 a.source (removeNamed a.source
        (modPending (fun q => decide (q.rep = a)) (fun q => { q with taker := taker }) s))
  else if lvl = 4 then takeStop a s
  else take a false s

/-- Raise a lasting fault at the present time. -/
def fault (code src : Nat) (s : State) : State := raise (report s code src) s
/-- Raise a fault whose condition is gone in the tick of its detection. -/
def faultOnce (code src : Nat) (s : State) : State := raise (momentary (report s code src)) s

/-- Raise a lasting fault whose condition is not already present. -/
def faultNew (code src : Nat) (s : State) : State :=
  if condPresent s code src then s else fault code src s

/-- A condition goes, where it is present. -/
def goneIf (code src : Nat) (s : State) : State :=
  if condPresent s code src then gone code src s else s

/-- A mismatch on a core (R300, R301): a second one in a retried interval removes the core, another rolls
back and is recorded at L0: 0x0601 and 0x0602 with the core and its partition, 0x0702 with the core (R315). -/
def mismatch (k code : Nat) (s : State) : State :=
  let c := core s k
  if c.retried then faultOnce 0x0603 (0x0700 + k) s
  else
    let s := rollback k s
    let s := raise (momentary (report s code (0x0700 + k) (if code = 0x0702 then 0xFFFF else 0x0708 + c.part))) s
    let recent := (core s k).rolls.filter (fun t => decide (s.time.opNs < t + second))
    let s := modCore k (fun c => { c with rolls := recent }) s
    if 4 ≤ recent.length then
      let s := fault 0x0604 (0x0700 + k) s
      { s with test := { s.test with handover := some c.part } }
    else s

/-! ### The trap (R291) -/

/-- The CSRs after a trap, by the RISC-V privileged specification in machine mode only: MPIE takes MIE,
MIE is cleared, MPP is machine mode (log entry 16). -/
def Csrs.trap (pc cause tval : Word) (c : Csrs) : Csrs :=
  { c with
    mepc := pc, mcause := cause, mtval := tval
    mstatus := (if c.mstatus.getLsbD 3 then 0x80 else 0) ||| 0x1800 }

/-- An exception: both passes enter it alike, the partition stops and 0x0605 is raised with mcause and
mepc (R291). mtval is a free value. -/
def trap (k : Nat) (cause : Nat) (s : State) : State :=
  let (n, s) := draw s
  let tv := Config.freeTrapValue n
  let c := core s k
  let cw := BitVec.ofNat 32 cause
  let s := modCore k (fun c => { c with
    trapped := true
    prim := { c.prim with pc := c.prim.csrs.mtvec, csrs := c.prim.csrs.trap c.prim.pc cw tv }
    shad := { c.shad with
      pc := c.shad.csrs.mtvec
      csrs := (c.shad.csrs.inv.trap (~~~c.shad.pc) cw tv).inv } }) s
  raise (report s 0x0605 (0x0700 + k) (0x0708 + c.part) (cause + 2 ^ 32 * c.prim.pc.toNat)) s

/-! ### The memory map (Table PL-1) -/

/-- What an address names. -/
inductive Target where
  | itcm (off : Nat)
  | dtcm (off : Nat)
  | image (off : Nat)
  | region (off : Nat)
  | chal
  | resp
  | cycleEnd
  | cycleNo
  | partNo
  | none
deriving DecidableEq, Repr, Inhabited

/-- The target of an address for partition `p`. -/
def target (p a : Nat) : Target :=
  if a < 0x20000 then .itcm a
  else if 0x10000000 ≤ a ∧ a < 0x10010000 then .dtcm (a - 0x10000000)
  else if 0x20000000 ≤ a ∧ a < 0x20010000 then .image (a - 0x20000000)
  else if regionBase p ≤ a ∧ a < regionBase p + 0x20000 then .region (a - regionBase p)
  else if 0x30000000 ≤ a ∧ a < 0x30000004 then .chal
  else if 0x30000004 ≤ a ∧ a < 0x30000008 then .resp
  else if 0x30000008 ≤ a ∧ a < 0x3000000C then .cycleEnd
  else if 0x3000000C ≤ a ∧ a < 0x30000010 then .cycleNo
  else if 0x30000010 ≤ a ∧ a < 0x30000014 then .partNo
  else .none

/-- Whether a target may be loaded from. -/
def Target.loads : Target → Bool
  | .itcm _ | .dtcm _ | .image _ | .region _ | .chal | .cycleNo | .partNo => true
  | .resp | .cycleEnd | .none => false

/-- Whether a target may be stored to. -/
def Target.stores : Target → Bool
  | .dtcm _ | .region _ | .resp | .cycleEnd => true
  | .itcm _ | .image _ | .chal | .cycleNo | .partNo | .none => false

/-- The `n` bytes that core `k` reads at address `a`, as a number. -/
def loadVal (s : State) (k a n : Nat) : Nat :=
  let c := core s k
  match target c.part a with
  | .itcm o => unle (rdBytes (tcm s c.set).imem o n)
  | .dtcm o => unle (rdBytes (tcm s c.set).dmem o n)
  | .image o => unle (rdBytes s.proc.image o n)
  | .region o => unle (rdBytes (part s c.part).region o n)
  | .chal => field (part s c.part).challenge.toNat (8 * (a % 4)) (8 * n)
  | .cycleNo => field (s.proc.cycle % 2 ^ 32) (8 * (a % 4)) (8 * n)
  | .partNo => field c.part (8 * (a % 4)) (8 * n)
  | .resp | .cycleEnd | .none => 0

/-- The memory (Table FC-2) that holds a target: the set with its journal, or the shared SRAM. -/
def targetMem (s : State) (k a : Nat) : Nat :=
  match target (core s k).part a with
  | .itcm _ | .dtcm _ => 0x0730 + (core s k).set
  | _ => 0x0734

/-- The word with check bits that holds an address. -/
def placeOf (s : State) (k a : Nat) : Option Place :=
  match target (core s k).part a with
  | .itcm _ | .dtcm _ => some (.tcm (core s k).set (a - a % 4))
  | .image _ | .region _ => some (.shared (a - a % 4))
  | .chal | .resp | .cycleEnd | .cycleNo | .partNo | .none => none

/-- Whether the word with check bits that holds an address cannot be corrected. -/
def lostWord (s : State) (k a : Nat) : Bool := (placeOf s k a).any (fun pl => decide (shows s pl = .uncorrectable))

/-- A read of the word that holds an address corrects it (R290). -/
def mendAt (k a : Nat) (s : State) : State :=
  match placeOf s k a with
  | some pl => mendFor k pl s
  | none => s

/-- The places that a store writes: its own word and the journal's new entry. -/
def storePlaces (s : State) (k a : Nat) (pl : Place) : Bool :=
  decide (some pl = placeOf s k a) || decide (pl = .journal (core s k).set (tcm s (core s k).set).journal.length)

/-- Journal the old word and let the store land (R299). The read of the old word corrects it (R290). -/
def storeMem (k a n : Nat) (v : Word) (s : State) : State :=
  let s := mendAt k a s
  let s := clearUpsets (storePlaces s k a) s
  let c := core s k
  let base := a - a % 4
  let s := match target c.part a with
    | .dtcm o => modTcm c.set (fun t => { t with
        journal := (base, rdWord t.dmem (o - o % 4)) :: t.journal
        dmem := wrBytes t.dmem o (le n v.toNat) }) s
    | .region o =>
      let old := rdWord (part s c.part).region (o - o % 4)
      modPart c.part (fun p => { p with region := wrBytes p.region o (le n v.toNat) })
        (modTcm c.set (fun t => { t with journal := (base, old) :: t.journal }) s)
    | _ => s
  modPerf k (eventAdd 0x0C 1) s

/-! ### Advancing an instruction -/

/-- The size of an instruction. -/
def isize (compressed : Bool) : Word := if compressed then 2 else 4

/-- Whether the fetch of an instruction is permitted: the whole of it in the instruction TCM. -/
def fetchOk (s : State) (k : Nat) (compressed : Bool) : Bool :=
  decide ((core s k).prim.pc.toNat + (isize compressed).toNat ≤ 0x20000)

/-! ### The comparator (R295) and the skew registers (R297) -/

/-- Bits 1 and 0 of the target that an access strobes (Table PL-3). -/
def Target.code : Target → BitVec 2
  | .itcm _ => 0
  | .dtcm _ => 1
  | .image _ | .region _ => 2
  | .chal | .resp | .cycleEnd | .cycleNo | .partNo | .none => 3

/-- The word that a store of `n` bytes puts on the write-data lanes. -/
def laneWord (a v : Word) (n : Nat) : Word := BitVec.ofNat 32 (v.toNat % 2 ^ (8 * n) * 2 ^ (8 * (a.toNat % 4)))

/-- The byte enables of an access to `n` bytes. -/
def byteEnables (a : Word) (n : Nat) : BitVec 4 := BitVec.ofNat 4 ((2 ^ n - 1) * 2 ^ (a.toNat % 4))

/-- The 104 lanes (Table PL-3) as a fetch drives them in the primary pass: unused lanes are 0. -/
def fetchLanes (pc : Word) : BitVec 104 := pc.extractLsb' 1 31 ++ (0 : BitVec 68) ++ (0b10000 : BitVec 5)

/-- The 104 lanes as a load or store of partition `p` drives them in the primary pass. -/
def dataLanes (p : Nat) (store : Bool) (a v : Word) (n : Nat) : BitVec 104 :=
  (0 : BitVec 31) ++ a ++ (if store then laneWord a v n else 0) ++ byteEnables a n
    ++ ((if store then 0b001 else 0b010 : BitVec 3) ++ (target p a.toNat).code)

/-- The comparator: every lane of the shadow pass differs from the primary pass's. -/
def lanesDiffer (p q : BitVec 104) : Bool := q == ~~~p

/-- The comparator agrees on the fetch of core `k`. -/
def fetchAgrees (s : State) (k : Nat) : Bool :=
  lanesDiffer (fetchLanes (core s k).prim.pc) (~~~(fetchLanes (~~~(core s k).shad.pc)))

/-- The comparator agrees on an access of core `k`: address and data of the primary pass, and of the shadow pass as it
holds them. -/
def accessAgrees (s : State) (k : Nat) (store : Bool) (a v : Word × Word) (n : Nat) : Bool :=
  lanesDiffer (dataLanes (core s k).part store a.1 v.1 n) (~~~(dataLanes (core s k).part store (~~~a.2) (~~~v.2) n))

/-- The registers that an instruction selects: rd, rs1 and rs2, 0 where it has none. -/
def operandSelects : Instr → BitVec 5 × BitVec 5 × BitVec 5
  | .add _ _ rd (.src a (.reg b)) => (rd, a, b)
  | .add _ _ rd (.src a (.imm _)) => (rd, a, 0)
  | .add _ _ rd (.auipc _) | .lui _ _ rd _ | .jump _ _ rd (.jal _) => (rd, 0, 0)
  | .sub _ _ rd a b | .multiply _ _ rd a b | .divide _ _ rd a b | .remainder _ _ rd a b => (rd, a, b)
  | .and _ _ rd a (.reg b) | .or _ _ rd a (.reg b) | .xor _ _ rd a (.reg b) | .sll _ _ rd a (.reg b)
  | .srl _ _ rd a (.reg b) | .sra _ _ rd a (.reg b) | .slt _ _ _ rd a (.reg b) => (rd, a, b)
  | .and _ _ rd a _ | .or _ _ rd a _ | .xor _ _ rd a _ | .sll _ _ rd a _ | .srl _ _ rd a _ | .sra _ _ rd a _
  | .slt _ _ _ rd a _ | .load _ _ _ rd a _ _ | .jump _ _ rd (.jalr a _) | .csrAccess _ _ _ rd (.reg a) => (rd, a, 0)
  | .csrAccess _ _ _ rd (.uimm _) => (rd, 0, 0)
  | .branch _ _ _ a b _ | .store _ _ _ a b _ => (0, a, b)
  | _ => (0, 0, 0)

/-- Even parity of a 16-bit field: the bit that makes the number of ones even. -/
def evenParity (v : BitVec 16) : Bool := (upto 16).foldl (fun a i => a != v.getLsbD i) false

/-- The entry of the skew registers for an issue (R297). -/
def SkewEntry.of (i : Instr) (pc : Word) : SkewEntry :=
  let r := operandSelects i
  let sel := r.1.toNat + 2 ^ 5 * r.2.1.toNat + 2 ^ 10 * r.2.2.toNat
  { instr := i, pc := pc, selects := sel
    parity := (Config.decodedFields i ++ [pc.extractLsb' 0 16, pc.extractLsb' 16 16, BitVec.ofNat 16 sel]).map evenParity }

/-- A primary issue enters the delay line of two entries. -/
def skewIn (k : Nat) (i : Instr) (s : State) : State :=
  modCore k (fun c => { c with skew := (SkewEntry.of i c.prim.pc :: c.skew).take 2 }) s

/-- The words that the fetch of an instruction reads. -/
def fetchPlaces (s : State) (k : Nat) (compressed : Bool) : List Place :=
  let c := core s k
  let pc := c.prim.pc.toNat
  .tcm c.set (pc - pc % 4) :: (if 4 < pc % 4 + (isize compressed).toNat then [.tcm c.set (pc - pc % 4 + 4)] else [])

/-- Run `f` as the instruction `i` of core `k`, which counts as issued (R477): nothing where the core does not issue, a rollback where the comparator
disagrees on its fetch (R295), an access fault where its fetch is not permitted (R288, R291), and 0x0802 where a word
of it cannot be corrected (R290). -/
def issue (i : Instr) (k : Nat) (compressed : Bool) (f : State → State) (s : State) : State :=
  if !issues s k then s
  else if !fetchAgrees s k then mismatch k 0x0601 s
  else if !fetchOk s k compressed then trap k 1 s
  else match badPlace s (fetchPlaces s k compressed) with
    | some pl => raise (report s 0x0802 (placeMem pl) 0xFFFF (placeAddr pl)) s
    | none => f (skewIn k i (modPerf k (eventAdd 2 1)
        ((fetchPlaces s k compressed).foldl (fun a pl => mendFor k pl a) s)))

/-- Both passes move past the instruction; the shadow PC is held inverted (R293). -/
def stepPc (k : Nat) (compressed : Bool) (s : State) : State :=
  modCore k (fun c => { c with
    prim := { c.prim with pc := c.prim.pc + isize compressed }
    shad := { c.shad with pc := c.shad.pc + ~~~(isize compressed) + 1 } }) s

/-- Write the results of the two passes to a register. -/
def setReg (k : Nat) (rd : BitVec 5) (v w : Word) (s : State) : State :=
  modCore k (fun c => { c with prim := c.prim.set rd v, shad := c.shad.setInv rd w }) s

/-- Operand `rs` of the primary and of the shadow pass. -/
def opA (s : State) (k : Nat) (r : BitVec 5) : Word × Word :=
  ((core s k).prim.get r, (core s k).shad.getInv r)

/-- The second operand; an immediate is inverted at decode for the shadow pass (R293). -/
def opB (s : State) (k : Nat) : Src2 → Word × Word
  | .reg r => opA s k r
  | .imm v => (v.signExtend 32, ~~~(v.signExtend 32))

/-- An instruction that writes `f a b` in the primary pass and `g A B` in the shadow pass (Table PL-2). -/
def alu (i : Instr) (k : Nat) (compressed md : Bool) (rd : BitVec 5) (f g : Word → Word → Word)
    (a b : Word × Word) (s : State) : State :=
  issue i k compressed (fun s =>
    stepPc k compressed (setReg k rd (f a.1 b.1) (g a.2 b.2) (retire k { md := md } s))) s

/-! ### The shadow computations of Table PL-2 -/

/-- ADD. -/
def shAdd (a b : Word) : Word := a + b + 1
/-- SUB. -/
def shSub (a b : Word) : Word := a - b - 1
/-- AND. -/
def shAnd (a b : Word) : Word := a ||| b
/-- OR. -/
def shOr (a b : Word) : Word := a &&& b
/-- XOR. -/
def shXor (a b : Word) : Word := ~~~(a ^^^ b)
/-- The shift amount of the primary pass. -/
def shamt (b : Word) : Nat := b.toNat % 32
/-- The shift amount of the shadow pass: ¬B, bits 4 to 0. -/
def shShamt (b : Word) : Nat := (~~~b).toNat % 32
/-- SLL: ones shifted in. -/
def shSll (a b : Word) : Word := (a <<< shShamt b) ||| ~~~((0xFFFFFFFF : Word) <<< shShamt b)
/-- SRL: ones shifted in. -/
def shSrl (a b : Word) : Word := (a >>> shShamt b) ||| ~~~((0xFFFFFFFF : Word) >>> shShamt b)
/-- SRA. -/
def shSra (a b : Word) : Word := a.sshiftRight (shShamt b)
/-- SLT and SLTU of the primary pass. -/
def slt (unsigned : Bool) (a b : Word) : Word := if (if unsigned then a.ult b else a.slt b) then 1 else 0
/-- SLT and SLTU of the shadow pass: 0xFFFFFFFE when A > B. -/
def shSlt (unsigned : Bool) (a b : Word) : Word :=
  if (if unsigned then b.ult a else b.slt a) then 0xFFFFFFFE else 0xFFFFFFFF

/-- The condition of a branch. -/
def taken (c : Cond) (a b : Word) : Bool :=
  match c with
  | .eq => a == b
  | .ne => a != b
  | .lt => a.slt b
  | .ge => !a.slt b
  | .ltu => a.ult b
  | .geu => !a.ult b

/-- The condition in the shadow pass (Table PL-2). -/
def shTaken (c : Cond) (a b : Word) : Bool :=
  match c with
  | .eq => a == b
  | .ne => a != b
  | .lt => b.slt a
  | .ge => !b.slt a
  | .ltu => b.ult a
  | .geu => !b.ult a

/-! ### Multiplication and division (R294) -/

/-- A word as a signed or an unsigned number. -/
def wnum (unsigned : Bool) (a : Word) : Int := if unsigned then a.toNat else a.toInt

/-- −a on the 33-bit signed datapath, from A = ¬a: A + 1 (R294). -/
def neg33 (unsigned : Bool) (a : Word) : Int := if unsigned then (a.toNat : Int) + 1 - 2 ^ 32 else a.toInt + 1

/-- Whether an operand of a multiplication is unsigned. -/
def mulUns (k : MulKind) : Bool × Bool :=
  match k with
  | .mul => (false, false)
  | .mulh => (false, false)
  | .mulhsu => (false, true)
  | .mulhu => (true, true)

/-- The half of a product that a form returns. -/
def mulPick (k : MulKind) (p : Int) : Word :=
  match k with
  | .mul => BitVec.ofInt 32 p
  | .mulh | .mulhsu | .mulhu => BitVec.ofInt 32 (p.fdiv (2 ^ 32))

/-- A product in the primary pass. -/
def mulOp (k : MulKind) (a b : Word) : Word := mulPick k (wnum (mulUns k).1 a * wnum (mulUns k).2 b)

/-- A product in the shadow pass: the operands negated, the output inverted. -/
def shMul (k : MulKind) (a b : Word) : Word := ~~~(mulPick k (neg33 (mulUns k).1 a * neg33 (mulUns k).2 b))

/-- A quotient: −1 for a divisor of 0, truncated otherwise. -/
def quot (a b : Int) : Int := if b = 0 then -1 else a.tdiv b

/-- A remainder: the dividend for a divisor of 0, with the sign of the dividend otherwise. -/
def remn (a b : Int) : Int := if b = 0 then a else a.tmod b

/-- DIV and DIVU. -/
def divOp (u : Bool) (a b : Word) : Word := BitVec.ofInt 32 (quot (wnum u a) (wnum u b))
/-- DIV and DIVU of the shadow pass: the output inverted. -/
def shDiv (u : Bool) (a b : Word) : Word := ~~~(BitVec.ofInt 32 (quot (neg33 u a) (neg33 u b)))
/-- REM and REMU. -/
def remOp (u : Bool) (a b : Word) : Word := BitVec.ofInt 32 (remn (wnum u a) (wnum u b))
/-- REM and REMU of the shadow pass: the output reduced by 1. -/
def shRem (u : Bool) (a b : Word) : Word := BitVec.ofInt 32 (remn (neg33 u a) (neg33 u b) - 1)

/-! ### Checkpoints (R298, R312, R480) -/

/-- The length of a safety cycle in ns. -/
def cycleNs (s : State) : Nat := safetyCycle (confOf s) * 1000

/-- The guard g of R312 in ns: 64.3 µs plus 6 % of the safety cycle. -/
def escGuard (s : State) : Nat := 64300 + safetyCycle (confOf s) * 60

/-- The escapement stops the Curfew pattern directly and records 0x0A07 (R35, R312). -/
def escapementFail (p : Nat) (s : State) : State :=
  let s := { s with
    proc := { s.proc with escapement := false }
    col := { s.col with curfew := s.col.curfew ||| popMask s } }
  fault 0x0A07 (0x0708 + p) s

/-- The response to a challenge of partition `p`: rotated left by 7 bits, XOR S_p (R312). -/
def respTo (s : State) (p : Nat) (challenge : Word) : Word :=
  challenge.rotateLeft 7 ^^^ BitVec.ofNat 32 (partOf (confOf s) p).sig

/-- The response that partition `p` owes in this cycle. -/
def escExpected (s : State) (p : Nat) : Word := respTo s p (part s p).challenge

/-- A released ESC_RESP store (R312). Up to g after a boundary it serves the cycle before, where that has not been
served: it is not accepted then, but a right value does not stop the Curfew pattern. -/
def releaseResp (p : Nat) (v : Word) (s : State) : State :=
  match (part s p).owed with
  | some ch =>
    let s' := modPart p (fun q => { q with owed := none }) s
    if (v ≠ respTo s p ch ∨ s.proc.boundary + escGuard s < s.time.now) ∧ s.proc.escapement then escapementFail p s'
    else s'
  | none =>
    let t0 := s.proc.boundary + (partOf (confOf s) p).tmin * 1000
    let bad := decide (v ≠ escExpected s p) || decide (s.time.now + escGuard s < t0)
      || decide ((part s p).responses ≠ 0)
    let s := modPart p (fun q => { q with
      responses := q.responses + 1
      wrong := q.wrong || bad || decide (s.time.now < t0) }) s
    if bad ∧ s.proc.escapement then escapementFail p s else s

/-- The execution time of a cycle enters the statistics (R480). -/
def statsCycle (s : State) (p t : Nat) (q : PartSt) : PartSt :=
  if q.rolled then
    { q with measured := inc32 q.measured, withRb := inc32 q.withRb, longestRb := max q.longestRb t }
  else
    { q with
      measured := inc32 q.measured
      shortest := if q.recent = [] then t else min q.shortest t
      longest := max q.longest t
      longestCycle := if q.longest < t then s.proc.cycle else q.longestCycle
      recent := (t :: q.recent).take 1024
      wcetBad := q.wcetBad || decide ((partOf (confOf s) p).wcet < t) }

/-- The demand words of a region, by site. -/
def regionDemands (m : Mem) : Table Nat :=
  (upto 7).foldl (fun t f => tset 0 t f (rdWord m (4 * f)).toNat) []

/-- Release the posted stores, oldest first (R299). -/
def releasePosted (k p : Nat) (l : List (Nat × Word)) (s : State) : State :=
  l.foldl (fun a e =>
    let a := modPerf k (eventAdd 0x0E 1) a
    if e.1 = 0x30000004 then releaseResp p e.2 a else a) s

/-- A confirmed checkpoint of core `k` (R298). -/
def confirmCheckpoint (k : Nat) (s : State) : State :=
  let c := core s k
  let s := modCore k (fun c => { c with
    saved := c.prim, posted := [], retried := false, chime := (c.chime + 1) % 104
    perf := eventAdd 0x0A 1 (confirmInterval c.perf) }) s
  let s := startInterval k (ship c.part c.prim s)
  let s := releasePosted k c.part c.posted s
  let s := clearUpsets (inJournal c.set) (modTcm c.set (fun m => { m with journal := [] }) s)
  if c.ended then
    let t := (core s k).perf.cycles - (part s c.part).startCycles
    let s := modPart c.part (statsCycle s c.part t) s
    modPart c.part (fun p => { p with
      cycleDone := true
      demands := regionDemands p.region
      confirmedRegion := p.region }) s
  else s

end Sys2Proof.Machine
end

