-- ==== Sys2Proof/Machine/Fuses.lean ====
section
/-! DEFINITION. What the fuse array says: dual-rail flags, production state, security floor, key slots,
regions, secrets and the serial number (R90 to R102). -/

namespace Sys2Proof.Machine

/-! ### The SEC-DED code and the sensing of a word (R90, R94, R95) -/

/-- The columns of weight 3 of a check word. -/
def weight3 : List (BitVec 7) :=
  ((upto 128).map (BitVec.ofNat 7)).filter (fun v => decide (((upto 7).filter (fun i => v.getLsbD i)).length = 3))

/-- Columns taken out of a list, one after another. -/
def pickColumns (f : Nat → Nat) : Nat → List (BitVec 7) → List (BitVec 7)
  | 0, _ => []
  | n + 1, l => l.getD (f n % l.length) 0 :: pickColumns f n (l.eraseIdx (f n % l.length))

/-- The 32 columns of the code: distinct, of weight 3 (log entry 66). -/
def hsiaoColumns : List (BitVec 7) := pickColumns Config.hsiaoPick 32 weight3

/-- The check bits of a data word: 0 for 0 (R90). -/
def hsiaoCheck (v : Word) : BitVec 7 :=
  (upto 32).foldl (fun c i => if v.getLsbD i then c ^^^ hsiaoColumns.getD i 0 else c) 0

/-- The check fuses of a word as they read against the nominal reference. -/
def FuseCells.checkBits (x : FuseCells) : BitVec 7 := x.check ^^^ hsiaoCheck x.value

/-- The 39 fuses against the nominal reference. -/
def FuseCells.nominal (x : FuseCells) : BitVec 39 := x.checkBits ++ x.value
/-- Against the low margin: a fuse in doubt reads unblown. -/
def FuseCells.low (x : FuseCells) : BitVec 39 := x.nominal &&& ~~~x.weak
/-- Against the high margin: a fuse in doubt reads blown. -/
def FuseCells.high (x : FuseCells) : BitVec 39 := x.nominal ||| x.weak

/-- The dual-rail flag words (R92). -/
def flagWords : List Nat := (upto 9).map (· + 80) ++ [240, 241, 242]

/-- Sensing one word (R94, R95): where its three reads agree, the SEC-DED code is decoded; a syndrome of one bit is
an error in a check fuse, one that is a column an error in a data fuse, and any other is not correctable. The
mirrored flags of a dual-rail word, which is blown bit after bit over the life of the part, are its only redundancy
(DEDUCED from R92, log entry 66). `flags` says that it is one. -/
def FuseCells.sensed (flags : Bool) (x : FuseCells) : FuseWord :=
  if x.weak ≠ 0 then { value := x.value, sense := .marginal }
  else if flags ∨ x.check = 0 then { value := x.value }
  else if (upto 7).any (fun i => decide (x.check = BitVec.ofNat 7 (2 ^ i))) then { value := x.value, sense := .corrected }
  else match (upto 32).find? (fun i => decide (x.check = hsiaoColumns.getD i 0)) with
    | some i => { value := x.value ^^^ BitVec.ofNat 32 (2 ^ i), sense := .corrected }
    | none => { value := x.value, sense := .uncorrectable }

/-- The fuses of a word as a sensing finds them. -/
def FuseCells.drifted (d : FuseDrift) (x : FuseCells) : FuseCells :=
  let v := d.flips.setWidth 32
  { value := x.value ^^^ v, check := x.check ^^^ (d.flips >>> (32 : Nat)).setWidth 7 ^^^ hsiaoCheck v
    weak := x.weak ||| d.weak }

/-- The fuses of word `i` with what a sensing finds in them. -/
def foundAt (found : List FuseDrift) (i : Nat) (x : FuseCells) : FuseCells :=
  match found.find? (fun d => decide (d.word = i)) with
  | some d => x.drifted d
  | none => x

/-- Whether the outcome of sensing a word lets it be used. -/
def FuseWord.ok (x : FuseWord) : Bool := decide (x.sense = .accepted) || decide (x.sense = .corrected)

/-- Blowing bits of a word (R90, R105): its data fuses, then the check fuses that the new data ask for, which a dual-rail
word does without; nothing that is blown is unblown. -/
def FuseCells.blow (flags : Bool) (v : Word) (x : FuseCells) : FuseCells :=
  let w := x.value ||| v
  let c := if flags then x.checkBits else x.checkBits ||| hsiaoCheck w
  { x with value := w, check := c ^^^ hsiaoCheck w }

/-! ### Flags, states and regions -/

/-- Whether flag `k` of a dual-rail word counts as set: either of its two bits is blown (R92). -/
def flagSet (w k : Nat) : Bool := bit w k || bit w (k + 16)

/-- Whether flag `k` of a dual-rail word has only one of its two bits blown (R92). -/
def flagSplit (w k : Nat) : Bool := decide (bit w k ≠ bit w (k + 16))

/-- Whether some dual-rail pair of a shadow disagrees (R92). -/
def anySplit (s : State) : Bool :=
  flagWords.any (fun w => (upto 16).any (fun k => flagSplit (shadowWord s w) k))

/-- The production state: the highest flag set in word 242, 0 BLANK to 5 RETIRED (R93). -/
def prodState (s : State) : Nat :=
  (upto 5).foldl (fun m k => if flagSet (shadowWord s 242) k then k + 1 else m) 0

/-- Whether the part is RETIRED: the crypto engine refuses every use of a secret (R99). -/
def retired (s : State) : Bool := decide (prodState s = 5)

/-- The security floor: the number of set flags in words 81 to 88 (R93). -/
def securityFloor (s : State) : Nat :=
  ((upto 8).map (fun i => ((upto 16).filter (flagSet (shadowWord s (81 + i)))).length)).foldl (· + ·) 0

/-- Whether the debug port is open: no debug-disable flag of word 240 is set (R93, R102). -/
def debugOpen (s : State) : Bool := !((upto 3).any (flagSet (shadowWord s 240)))

/-- The lock flags of word 241: 0 identity, 1 trim, 2 keys, 3 secrets, 4 customer, 5 options. -/
def regionLocked (s : State) (k : Nat) : Bool := flagSet (shadowWord s 241) k

/-- A region of Table SU-3: its words, its CRC word and the words the CRC covers. -/
structure Region where
  first : Nat
  last  : Nat
  crcAt : Nat
  from_ : Nat
  upTo  : Nat
deriving DecidableEq, Repr, Inhabited

/-- The regions, in the order of the lock flags. -/
def regions : List Region :=
  [⟨0, 15, 15, 0, 14⟩, ⟨16, 47, 47, 16, 46⟩, ⟨48, 111, 111, 48, 79⟩, ⟨112, 175, 175, 112, 174⟩,
   ⟨176, 239, 239, 176, 238⟩, ⟨240, 255, 255, 248, 254⟩]

/-- The words of a shadow from one to another, each most significant byte first (R91). -/
def shadowBytes (s : State) (a b : Nat) : List Byte :=
  (upto (b + 1 - a)).flatMap (fun i => be 4 (shadowWord s (a + i)))

/-- Whether a region's CRC word is present (R91). -/
def crcPresent (s : State) (r : Region) : Bool :=
  let w := shadowWord s r.crcAt
  decide (field w 0 16 = 0xFFFF - field w 16 16)

/-- Whether a region's CRC matches its shadow contents (R91). -/
def crcMatches (s : State) (r : Region) : Bool :=
  decide (field (shadowWord s r.crcAt) 16 16 = fuseCrc (shadowBytes s r.from_ r.upTo))

/-- Whether a sensed word was accepted. -/
def wordAccepted (s : State) (i : Nat) : Bool := (tget {} s.fuses.shadow i).ok

/-- Whether a region passes R96: CRC word present, every covered word accepted, CRC matching. -/
def regionPasses (s : State) (r : Region) : Bool :=
  crcPresent s r && crcMatches s r
    && (upto (r.upTo + 1 - r.from_)).all (fun i => wordAccepted s (r.from_ + i)) && wordAccepted s r.crcAt

/-- Word `i` of the array, sensed at this moment. -/
def resense (s : State) (i : Nat) : FuseWord := (tget {} s.fuses.array i).sensed (flagWords.contains i)

/-- The check before a region's lock flag is blown (R98): its CRC word is present and matches the shadow, and every
word of both, sensed again at all three references, is accepted with its shadow value. -/
def lockSound (s : State) (r : Region) : Bool :=
  crcPresent s r && crcMatches s r
    && ((upto (r.upTo + 1 - r.from_)).map (r.from_ + ·) ++ [r.crcAt]).all (fun i =>
      (resense s i).ok && decide ((resense s i).value.toNat = shadowWord s i))

/-- The digest a key slot holds: the first byte of the digest is the most significant byte of the slot's first word
(DESIGN CHOICE, log entry 67). -/
def slotDigest (s : State) (k : Nat) : List Byte := shadowBytes s (48 + 8 * k) (55 + 8 * k)

/-- Whether a key slot is programmed (R100). -/
def slotProgrammed (s : State) (k : Nat) : Bool :=
  (upto 8).any (fun i => decide (shadowWord s (48 + 8 * k + i) ≠ 0))

/-- Whether a key slot is usable: programmed, accepted and not revoked (R100). -/
def slotUsable (s : State) (k : Nat) : Bool :=
  slotProgrammed s k && (upto 8).all (fun i => wordAccepted s (48 + 8 * k + i))
    && !flagSet (shadowWord s 80) k

/-- The 64-bit serial number: fuse word 4 first, most significant byte first (R141). -/
def serialBytes (s : State) : List Byte := shadowBytes s 4 5

/-- The unscrambled value of a secret word (R99): the mask is applied to words 112 to 119 as written,
and rotated left by 32 bits for each further group of eight words. The most significant 32 bits of the mask belong to
the first word of a group (DESIGN CHOICE, log entry 26). -/
def secretWord (s : State) (w : Nat) : Nat :=
  let m := (Config.dieMask.rotateLeft (32 * ((w - 112) / 8 % 8))).toNat
  Nat.xor (shadowWord s w) (field m (32 * (7 - (w - 112) % 8)) 32)

/-- The bytes of secret words from one to another, each word most significant byte first (DESIGN CHOICE, log entry
26). -/
def secretBytes (s : State) (a b : Nat) : List Byte :=
  (upto (b + 1 - a)).flatMap (fun i => be 4 (secretWord s (a + i)))

/-- The session key (R141). -/
def sessionKey (s : State) : List Byte := secretBytes s 112 119

/-- The Ledger seal key (R442). -/
def sealKey (s : State) : List Byte := secretBytes s 120 127

/-- A word of an F die's fuse block as the die senses it, built like the C-die array (R103). -/
def dieSensed (s : State) (found : List FuseDrift) (f w : Nat) : FuseWord :=
  (foundAt found w (tget {} s.fuses.dies (f * 32 + w))).sensed false

/-- The value of a word of an F die's fuse block. -/
def dieWord (s : State) (f w : Nat) : Nat := (dieSensed s [] f w).value.toNat

/-- Whether an F die's fuse block is accepted: every word, and CRC word 31 over words 0 to 30 (R103). -/
def dieBlockOk (s : State) (found : List FuseDrift) (f : Nat) : Bool :=
  let v := fun (i : Nat) => (dieSensed s found f i).value.toNat
  (upto 32).all (fun i => (dieSensed s found f i).ok)
    && decide (field (v 31) 0 16 = 0xFFFF - field (v 31) 16 16)
    && decide (field (v 31) 16 16 = fuseCrc ((upto 31).flatMap (fun i => be 4 (v i))))

end Sys2Proof.Machine
end

