-- ==== Sys2Proof/Machine/Nand.lean ====
section
/-! DEFINITION. The Ledger's operations on its buffer and on the NAND part: record and page bytes, anchors
and their seals, programming a page into the ring, the flush and the parameter backup (R436 to R447,
R451). -/

namespace Sys2Proof.Machine

/-! ### The commands of the NAND part (R432) -/

/-- The command bytes that R432 names. -/
def NandCmd.bytes : NandCmd → List Nat
  | .pageRead => [0x00, 0x30]
  | .pageProgram => [0x80, 0x10]
  | .cacheProgram => [0x80, 0x15]
  | .blockErase => [0x60, 0xD0]
  | .reset | .readId | .readParameterPage | .setFeatures | .readStatus => []

/-- Whether a command programs or erases. -/
def NandCmd.writes : NandCmd → Bool
  | .pageProgram | .cacheProgram | .blockErase => true
  | .reset | .readId | .readParameterPage | .setFeatures | .readStatus | .pageRead => false

/-- Change the Ledger. -/
def modLed (g : Ledger → Ledger) (s : State) : State := { s with led := g s.led }

/-- The commands that an operation gives the NAND part; with its end no chip enable repeats an operation (R433). -/
def nandDo (l : List NandCmd) (s : State) : State := modLed (fun x => { x with cmds := l, retried := none }) s

/-- The program with which the next queued page goes out: with the cache where two are queued (R443). -/
def nextProgram (s : State) : NandCmd := if 2 ≤ s.led.queued.length then .cacheProgram else .pageProgram

/-- Whether the block of the ring that is being written is full. -/
def blockFull (s : State) : Bool := decide (s.led.part.pagesPerBlk ≤ s.led.blockPages)

/-- Whether a pin is being copied (R455). -/
def pinCopies (s : State) : Bool := s.led.pins.any (fun p => decide (p.2.state = 2))

/-- The operation of the NAND part that is under way, of the users in the order of R445: a format erases; queued pages are
programmed, after an erase where the block is full, and a flush without pages programs its delta page; a commit erases and
writes its slot, or programs its validity page; a parameter commit programs its overlay; pin copies are programmed. -/
def nandOp (s : State) : Option NandCmd :=
  if s.led.state = 4 then some .blockErase
  else if (s.led.state = 1 ∨ s.led.state = 2) ∧ s.led.queued ≠ [] then
    some (if blockFull s then .blockErase else nextProgram s)
  else if s.led.state = 2 then some .pageProgram
  else if s.led.state ≠ 1 then none
  else if 1 ≤ s.dict.staging.running ∧ s.dict.staging.running ≤ 3 then some .pageProgram
  else if pinCopies s then some .pageProgram
  else none

/-- The NAND_WP_N pin: high only while a program or erase is under way (R432). -/
def nandWpN (s : State) : Bool := (nandOp s).any NandCmd.writes

/-- Whether an image slot write may be served: no page waits to be programmed (R445). -/
def slotMay (s : State) : Bool := decide (s.led.queued = [])

/-- Whether a parameter backup write may be served: no page waits, and no slot is being written (R445). -/
def paramMay (s : State) : Bool :=
  slotMay s && !(decide (s.dict.staging.running = 1) || decide (s.dict.staging.running = 2))

/-- Whether a pin copy may be served: nor does the overlay of a parameter commit wait (R445). -/
def pinMay (s : State) : Bool := paramMay s && decide (s.dict.staging.running ≠ 3)

/-- Whether a scrub or wear move may be served: nor is a pin being copied (R445). -/
def moveMay (s : State) : Bool := pinMay s && !pinCopies s

/-- Bytes 0 to 17 of a record (Table LG-5). -/
def recHead (r : LedgerRec) (seq : Nat) : List Byte :=
  le 8 r.time ++ le 4 seq ++ le 1 r.type ++ le 1 r.rank ++ le 2 r.source ++ le 2 r.code

/-- The 64 bytes of a record (Table LG-5). -/
def recBytes (r : LedgerRec) (seq : Nat) : List Byte :=
  let b := recHead r seq ++ padTo 42 r.data
  b ++ le 4 (crc32 b)

/-- The bytes of the records of a page, numbered from `n`. -/
def recsBytes : List LedgerRec → Nat → List Byte
  | [], _ => []
  | r :: rs, n => recBytes r (mod32 n) ++ recsBytes rs (n + 1)

/-- Bytes 0 to 47 of a page header (Table LG-7). -/
def pageHead (p : Page) : List Byte :=
  le 2 0x4C47 ++ [1] ++ le 1 p.recs.length ++ le 8 p.seq ++ le 4 p.segment ++ padTo 32 p.prev

/-- The data area of a page as it is stored (R440). -/
def pageBytes (size : Nat) (p : Page) : List Byte :=
  let h := pageHead p ++ zeros 12
  let body := padTo (size - 64) (recsBytes p.recs p.firstRec)
  h ++ le 4 (crc32 (h ++ body)) ++ body

/-- An anchor record, its seal still open (Table LG-6). -/
def anchorRec (kind : Nat) (t : Nat) : LedgerRec := { time := t, type := 8, rank := 3, code := kind }

/-- Number and seal the anchors of a page, in order (R441, R442). `n` is the number of the next record,
`pre` the records before it. A retired part makes no seal (R99). -/
def sealAnchors (s : State) (head : List Byte) : Nat → Nat → List Byte → List LedgerRec → Nat × List LedgerRec
  | a, _, _, [] => (a, [])
  | a, n, pre, r :: rs =>
    if r.type = 8 then
      let msg := head ++ pre ++ recHead r (mod32 n) ++ le 8 a ++ serialBytes s
      let r' := { r with data := le 8 a ++ (if retired s then zeros 32 else hmac (sealKey s) msg) }
      let q := sealAnchors s head (a + 1) (n + 1) (pre ++ recBytes r' (mod32 n)) rs
      (q.1, r' :: q.2)
    else
      let q := sealAnchors s head a (n + 1) (pre ++ recBytes r (mod32 n)) rs
      (q.1, r :: q.2)

/-- Whether a page holds a record with a timestamp in a window (R455). -/
def pageInWindow (a b : Nat) (p : Page) : Bool :=
  p.recs.any (fun r => decide (a ≤ r.time) && decide (r.time ≤ b))

/-! ### ECC and the spare area (R434) -/

/-- One step of the encoder: the register is divided by the generator, most significant bit first (log entry 107). -/
def bchStep (r : BitVec 104) (b : Bool) : BitVec 104 :=
  let out := r <<< (1 : Nat)
  if r.getMsbD 0 != b then out ^^^ Config.bchGenerator else out

/-- The 13 parity bytes of a sector. -/
def bchParity (sector : List Byte) : List Byte :=
  be 13 (sector.foldl (fun r b => (upto 8).foldl (fun q i => bchStep q (b.getMsbD i)) r) 0).toNat

/-- The 512-byte sectors of a page data area. -/
def sectorsOf (data : List Byte) : List (List Byte) :=
  (upto (data.length / 512)).map (fun k => (data.drop (512 * k)).take 512)

/-- The spare area of a page as it is written (Table LG-2): a good mark, reserved bytes 0xFF, and the parity of each sector. -/
def spareBytes (data : List Byte) : List Byte :=
  List.replicate (if data.length = 4096 then 24 else 12) 0xFF ++ (sectorsOf data).flatMap bchParity

/-- A record page as it is programmed: its data area and its spare area. -/
def pageStored (size : Nat) (p : Page) : List Byte := pageBytes size p ++ spareBytes (pageBytes size p)

/-- The zero bits of some bytes. -/
def zeroBits (l : List Byte) : Nat := (l.map (fun b => 8 - ((upto 8).filter (b.getLsbD ·)).length)).foldl (· + ·) 0

/-- Whether a sector reads as erased: its data and parity together hold 8 zero bits at most. -/
def sectorErased (data parity : List Byte) : Bool := decide (zeroBits data ≤ 8) && decide (zeroBits (data ++ parity) ≤ 8)

/-- What a sector shows: the bits that its decoder corrects, none where it reads as erased, or that it is uncorrectable, with
more than 8 errors. -/
def sectorBits (data : List Byte) (errors : Nat) : Option Nat :=
  if sectorErased data (bchParity data) then some 0 else if errors ≤ 8 then some errors else none

/-- The most bits that a sector of a page shows corrected, where each has some errors at most; none where one is
uncorrectable. -/
def pageBits (size errors : Nat) (p : Page) : Option Nat :=
  if errors = 0 then some 0
  else (sectorsOf (pageBytes size p)).foldl (fun m d => m.bind (fun a => (sectorBits d errors).map (max a))) (some 0)

/-! ### The control partition (R435 to R437) -/

/-- The tables change, and are written to the older of their two copies with the next generation (R437). -/
def modTables (g : Control → Control) (s : State) : State :=
  modLed (fun l =>
    let c := { g l.tables with generation := l.tables.generation + 1 }
    { l with tables := c, control := c :: l.control.take 1 }) s

/-- The good blocks of both chip enables as formatted (R437). -/
def goodBlocks (s : State) : Nat := s.led.part.blocks0 + s.led.part.blocks1 - s.led.tables.factory.length

/-- The `l`-th good block, those of CE0 first (R437). -/
def nthGood (factory : List Nat) (l : Nat) : Nat := factory.foldl (fun a b => if b ≤ a then a + 1 else a) l

/-- The blocks of one image slot (Table LG-3). -/
def slotBlocks (r : NandPart) : Nat :=
  (1048576 + r.pageSize * r.pagesPerBlk - 1) / (max 1 (r.pageSize * r.pagesPerBlk)) + 2

/-- The first logical block of an image slot: 1 A, 2 B. Logical blocks are numbered from 0 in the order of Table LG-3. -/
def slotBase (s : State) (n : Nat) : Nat := 8 + (n - 1) * slotBlocks s.led.part

/-- The first logical block of the parameter backup. -/
def paramBase (s : State) : Nat := 8 + 2 * slotBlocks s.led.part

/-- The first logical block of the spare pool. -/
def spareBase (s : State) : Nat := paramBase s + 8

/-- The first logical block of the pinned region. -/
def pinBase (s : State) : Nat := spareBase s + max 16 (goodBlocks s / 64)

/-- The first logical block of the ring. -/
def ringBase (s : State) : Nat := pinBase s + goodBlocks s / 4

/-- The blocks that the ring has. -/
def ringBlocks (s : State) : Nat := s.led.tables.ringFormatted - s.led.tables.given.length

/-- The place of a ring block in the ring, by its running number. -/
def ringPlace (s : State) (k : Nat) : Nat := k % max 1 s.led.tables.ringFormatted

/-- The logical block of a ring block, by its running number. -/
def ringBlock (s : State) (k : Nat) : Nat := ringBase s + ringPlace s k

/-- The physical block of a logical block: as formatted the next good one in order (R437), else the one of the map. -/
def physOf (s : State) (l : Nat) : Nat :=
  match tget 0 s.led.tables.map l with
  | 0 => nthGood s.led.tables.factory l
  | n + 1 => n

/-- The running number of the ring block after `k`: places that the ring has given up are passed over; `n` bounds the
steps. -/
def ringNext (s : State) : Nat → Nat → Nat
  | 0, k => k + 1
  | n + 1, k => if s.led.tables.given.contains (ringPlace s (k + 1)) then ringNext s n (k + 1) else k + 1

/-- Logical blocks are erased: each counts (R436). -/
def eraseBlocks (l : List Nat) (s : State) : State :=
  modTables (fun c => { c with erases := l.foldl (fun t b => tmod 0 t b (· + 1)) c.erases }) s

/-- The chip enable of the operation that is under way, by the physical block of the page that goes out next: of the ring,
of the parameter backup, of the slot being written or of the pinned region (R430, R433; log entry 107). -/
def nandChip (s : State) : Nat :=
  let l := if s.led.queued ≠ [] then ringBlock s s.led.block
    else if s.led.state = 2 then paramBase s
    else if s.dict.staging.running = 1 ∨ s.dict.staging.running = 2 then slotBase s s.dict.staging.slot
    else if s.dict.staging.running = 3 then paramBase s
    else if s.led.pinBlock ≠ 0 then pinBase s + (s.led.pinBlock - 1)
    else 0
  if physOf s l < s.led.part.blocks0 then 0 else 1

/-! ### The image slots (R445, R452, R453) -/

/-- An image slot: 1 A, 2 B. -/
def nandSlot (s : State) (n : Nat) : ImageSlot := if n = 1 then s.led.slotA else s.led.slotB

/-- Change an image slot. -/
def setSlot (n : Nat) (x : ImageSlot) (s : State) : State :=
  modLed (fun l => if n = 1 then { l with slotA := x } else { l with slotB := x }) s

/-- The fields of a page with their CRC-32 behind them (log entry 107). -/
def crcPage (b : List Byte) : List Byte := b ++ le 4 (crc32 b)

/-- The slot header: magic, commit sequence and image length (R452). -/
def slotHeader (seq len : Nat) : List Byte := crcPage (le 2 0x4953 ++ le 4 seq ++ le 4 len)

/-- The validity page: magic, commit sequence and image digest (R452). -/
def validityPage (seq : Nat) (digest : List Byte) : List Byte := crcPage (le 2 0x4956 ++ le 4 seq ++ padTo 32 digest)

/-- Whether a page of `n` bytes carries its magic and a correct CRC. -/
def crcPageOk (magic n : Nat) (b : List Byte) : Bool :=
  decide (b.length = n) && decide (b.take 2 = le 2 magic) && decide (b.drop (n - 4) = le 4 (crc32 (b.take (n - 4))))

/-- The commit sequence of a slot's header: none where it is missing or fails its CRC. -/
def ImageSlot.seq (x : ImageSlot) : Option Nat :=
  if crcPageOk 0x4953 14 x.header then some (unle ((x.header.drop 2).take 4)) else none

/-- The commit sequence and the digest of a slot's validity page: none where it is missing or fails its CRC. -/
def ImageSlot.valid (x : ImageSlot) : Option (Nat × List Byte) :=
  if crcPageOk 0x4956 42 x.validity then some (unle ((x.validity.drop 2).take 4), (x.validity.drop 6).take 32) else none

/-- Step 2 of an image commit begins once no page waits: the slot is erased and its header written (R445, R452). -/
def slotBegin (s : State) : State :=
  let y := s.dict.staging
  if y.running = 1 ∧ s.led.state = 1 ∧ slotMay s ∧ (nandSlot s y.slot).seq ≠ some y.sequence then
    setSlot y.slot { header := slotHeader y.sequence ((y.image.map Image.length).getD 0) }
      (nandDo [.blockErase, .pageProgram, .readStatus]
        (eraseBlocks ((upto (slotBlocks s.led.part)).map (slotBase s y.slot + ·)) s))
  else s

/-! ### The pinned region (R437, R445, R455, R456) -/

/-- The places of the pinned region's blocks that hold a page of a pin. -/
def pinnedBlocks (s : State) : List Nat :=
  (s.led.pins.flatMap (fun p => p.2.pages.map Page.blk)).foldl (fun l b => if l.contains b then l else b :: l) []

/-- The blocks of the pinned region that are free: they hold no page of a pin, and none is being written (R456). -/
def freePinBlocks (s : State) : Nat :=
  let used := pinnedBlocks s
  s.led.tables.pinBlocks - used.length
    - b2n (decide (s.led.pinBlock ≠ 0) && !used.contains (s.led.pinBlock - 1))

/-- The pages that the pinned region still takes (0x2A0C:08): those left in the block that is being written, and those of
the free blocks. -/
def pinRoom (s : State) : Nat :=
  freePinBlocks s * s.led.part.pagesPerBlk
    + (if s.led.pinBlock = 0 then 0 else s.led.part.pagesPerBlk - s.led.pinPages)

/-- Where the block of the pinned region that is being written is full, or none is, a free one is erased and opened. -/
def pinAdvance (s : State) : State :=
  if s.led.pinBlock ≠ 0 ∧ s.led.pinPages < s.led.part.pagesPerBlk then s
  else
    let used := pinnedBlocks s
    match (upto s.led.tables.pinBlocks).find? (fun b => !used.contains b && decide (b + 1 ≠ s.led.pinBlock)) with
    | some b => eraseBlocks [pinBase s + b] (modLed (fun l => { l with pinBlock := b + 1, pinPages := 0 }) s)
    | none => s

/-- A page is copied into a pin; a full region truncates it. -/
def pinPut (n : Nat) (q : Page) (s : State) : State :=
  if pinRoom s = 0 then modLed (fun l => { l with pins := tmod {} l.pins n (fun p => { p with cut := true }) }) s
  else
    let s := pinAdvance s
    modLed (fun l => { l with
      pinPages := l.pinPages + 1
      pins := tmod {} l.pins n (fun p => { p with
        first := if p.pages = [] then q.seq else p.first
        pages := p.pages ++ [{ q with blk := l.pinBlock - 1 }] }) }) s

/-- Whether a pin still needs a page: it lies in its window, and the pin does not hold it (R455). -/
def Pin.needs (p : Pin) (q : Page) : Bool :=
  pageInWindow p.start p.stop q && !p.pages.any (fun o => decide (o.seq = q.seq))

/-- Copy pages that are about to leave the ring into the pins that still need them (R445). -/
def savePinned (pages : List Page) (s : State) : State :=
  (upto 16).foldl (fun a n =>
    let p := tget {} a.led.pins n
    if p.state = 1 ∨ p.state = 2 then (pages.filter p.needs).foldl (fun b q => pinPut n q b) a else a) s

/-- Give up pages of the ring, which go to the pins that still need them first (R445). -/
def ringDrop (old : Page → Bool) (s : State) : State :=
  let s := savePinned (s.led.ring.filter old) s
  modLed (fun l => { l with ring := l.ring.filter (fun p => !old p) }) s

/-- The next ring block is erased, whatever it holds, and writing begins there (R437, R448). -/
def ringOpen (s : State) : State :=
  let k := ringNext s s.led.tables.given.length s.led.block
  let s := ringDrop (fun p => decide (p.blk + s.led.tables.ringFormatted ≤ k)) s
  eraseBlocks [ringBlock s k] (modLed (fun l => { l with block := k, blockPages := 0 }) s)

/-- Before a page is programmed: where the block that is being written is full, the next one is opened. -/
def ringAdvance (s : State) : State :=
  if blockFull s ∧ s.led.part.pagesPerBlk ≠ 0 then ringOpen s else s

/-- A page passes its program status: it leaves the buffer and stands in the ring, numbered, chained to
the page before and with its anchors sealed (R440 to R443). -/
def ringAppend (p : Page) (s : State) : State :=
  let erase := if blockFull s ∧ s.led.part.pagesPerBlk ≠ 0 then [NandCmd.blockErase, .readStatus] else []
  let s := ringAdvance (nandDo (erase ++ [nextProgram s, .readStatus]) s)
  let recs := if p.seq % 1024 = 0 then anchorRec 0 s.time.dev :: p.recs else p.recs
  let p := { p with segment := s.led.segment, prev := s.led.hash, firstRec := s.led.nextRec, recs := recs, blk := s.led.block }
  let q := sealAnchors s (pageHead p) s.led.anchor p.firstRec [] recs
  let p := { p with recs := q.2 }
  modLed (fun l => { l with
    ring := l.ring ++ [p]
    blockPages := l.blockPages + 1
    anchor := q.1
    nextRec := mod32 (l.nextRec + recs.length)
    stored := l.stored + recs.length
    written := pageStored l.part.pageSize p
    hash := sha256 (pageBytes l.part.pageSize p) }) s

/-- What is learned of the outputs, with the present time on of those that are on (R271, R285). -/
def learnNow (s : State) : Table Learn :=
  s.outs.elems.foldl (fun t e => if e.2.on ∧ 0x40 ≤ e.1 % 256 ∧ e.1 % 256 < 0x50 then
    tmod {} t e.1 (fun y => { y with onTime := y.onTime + (s.time.opNs - e.2.since) }) else t) s.outs.learn

/-- What the parameter backup holds of the present state (R271, R353, R366, R451, R463). The wrong-answer
and staging state are not kept. -/
def backupOf (s : State) : Backup :=
  { generation := s.led.backup.generation + 1
    overlay := s.cfg.overlay
    learn := learnNow s
    brakeLearn := s.outs.brakeLearn
    doors := (s.pairs.filter (fun p => decide (p.2.cycles ≠ 0) || decide (p.2.egress ≠ 0))).map
      (fun p => (p.1, (p.2.cycles, p.2.egress)))
    classes := s.col.classes
    seeds := (s.test.items.filter (fun p => decide (p.2.seed ≠ 0))).map (fun p => (p.1, p.2.seed))
    opNs := s.time.opNs
    timeout := s.dict.session.timeout }

/-- The generation that the next set or delta page takes. -/
def nextGeneration (s : State) : Nat :=
  1 + max s.led.backup.generation (max s.led.older.generation ((s.led.delta.map Delta.generation).getD 0))

/-- A page of the parameter partition is programmed; a block that it begins is erased first. -/
def paramPage (s : State) : State :=
  let n := s.led.paramPages
  let ppb := max 1 s.led.part.pagesPerBlk
  let s := nandDo (if n % ppb = 0 then [.blockErase, .pageProgram, .readStatus] else [.pageProgram, .readStatus]) s
  let s := if n % ppb = 0 then eraseBlocks [paramBase s + n / ppb % 8] s else s
  modLed (fun l => { l with paramPages := n + 1 }) s

/-- A complete parameter set is written: the set before it stays, and its delta page is obsolete (R451). -/
def writeSet (b : Backup) (s : State) : State :=
  let g := nextGeneration s
  modLed (fun l => { l with
    backup := { b with generation := g }, older := l.backup, delta := none, dirty := false, deferred := false })
    (paramPage s)

/-- The delta page is written: what has changed since the last complete set (R447, R451). -/
def writeDelta (s : State) : State :=
  let g := nextGeneration s
  modLed (fun l => { l with
    delta := some { generation := g, base := l.backup, now := backupOf s }, dirty := false, deferred := false }) (paramPage s)

/-- A write of the parameter backup that is deferred beyond 60 s is a rank 5 breach, once (R328). -/
def countDeferred (s : State) : State :=
  if s.led.dirty ∧ !s.led.deferred ∧ s.led.dirtySince + 60 * second < s.time.now then
    breach 5 0 (modLed (fun l => { l with deferred := true }) s)
  else s

/-- Write the parameter backup, where the Ledger can write (R451). -/
def persist (s : State) : State :=
  let s := countDeferred s
  if s.led.state = 1 then writeSet (backupOf s) s else if s.led.state = 2 then writeDelta s else s

/-- The entries that differ between two tables. -/
def tdiff {α : Type} [DecidableEq α] (d : α) (a b : Table α) : List Nat :=
  ((a.map (·.1)) ++ (b.map (·.1))).foldl (fun l k =>
    if tget d a k = tget d b k ∨ l.contains k then l else k :: l) []

/-- The numbers of what is learned of an output. -/
def Learn.values (x : Learn) : List Nat := [x.ons, x.onTime, x.count, x.total, x.n, x.learned, x.drift] ++ x.last16

/-- The numbers of what is learned of a brake. -/
def BrakeLearn.values (x : BrakeLearn) : List Nat :=
  [x.pullIns, x.base, x.initial, x.n, x.sigFails, x.passed, x.failed, x.lastPass] ++ x.dips

/-- The values of one list that differ from those of another. -/
def changedIn (a b : List Nat) : Nat :=
  ((upto (max a.length b.length)).filter (fun i => decide (a[i]? ≠ b[i]?))).length

/-- The values of a table that differ. -/
def changedBy {α : Type} [DecidableEq α] (d : α) (f : α → List Nat) (a b : Table α) : Nat :=
  ((tdiff d a b).map (fun k => changedIn (f (tget d a k)) (f (tget d b k)))).foldl (· + ·) 0

/-- The values that have changed from one set to another: each is an 8-byte entry of a delta page (R451; log entry 107). -/
def Backup.changes (a b : Backup) : Nat :=
  changedBy {} Learn.values a.learn b.learn + changedBy {} BrakeLearn.values a.brakeLearn b.brakeLearn
    + changedBy (0, 0) (fun x => [x.1, x.2]) a.doors b.doors
    + changedBy {} (fun x => [x.counter, x.last] ++ x.times) a.classes b.classes
    + changedBy 0 (fun x => [x]) a.seeds b.seeds
    + changedIn [a.opNs, a.timeout] [b.opNs, b.timeout]

/-- Whether the delta that is pending would exceed one page; a changed overlay takes a complete set (R451). -/
def deltaFull (s : State) : Bool :=
  let b := backupOf s
  decide (s.led.part.pageSize < 14 + 8 * Backup.changes s.led.backup b) || decide (s.led.backup.overlay ≠ b.overlay)

/-- A change waits to be written to the parameter backup: as a complete set within 60 s, and at once where the delta would
exceed one page and nothing that is served first waits (R271, R445, R451). -/
def markDirty (s : State) : State :=
  let s := modLed (fun l => { l with
    dirty := true, dirtySince := if l.dirty then l.dirtySince else s.time.now }) s
  if s.led.state = 1 ∧ paramMay s ∧ deltaFull s then persist s else s

/-- Start a flush (R447): the open page takes a closing anchor and is sealed; the queued pages are then
programmed one by one. `code` is the fault that started it, 0 for RESET_N (R87). A format that it meets is
interrupted (R438). -/
def flushStart (code : Nat) (s : State) : State :=
  if s.led.state = 1 then
    let s := sealOpen (openPut (anchorRec 1 s.time.dev) (sealFull s))
    modLed (fun l => { l with state := 2, flushed := true, flushCode := code }) s
  else if s.led.state = 4 then modLed (fun l => { l with state := 3 }) s
  else s

/-- A flush has programmed its last record page: the delta page is written and the Ledger stops (R447). -/
def flushEnd (s : State) : State :=
  modLed (fun l => { l with state := 3, flushed := false }) (persist s)

/-- A record of type `ty` for the Ledger. -/
def ledgerNote (ty rank code : Nat) (data : List Byte) (s : State) : State :=
  ledgerPut { type := ty, rank := rank, code := code, data := data } s

/-- Record the step of a pin (Table LG-6). -/
def pinNote (code n a b : Nat) (s : State) : State :=
  ledgerNote 0x0A 3 code (le 1 n ++ le 8 a ++ le 8 b) s

/-- The oldest time that the ring still holds. -/
def ringOldest (s : State) : Option Nat :=
  match s.led.ring with
  | [] => none
  | p :: _ => p.recs.foldl (fun m r => match m with
    | none => some r.time
    | some t => some (min t r.time)) none

/-- A pin is requested (R455, R456), with its times in ns. The result is that of 0x2A0C:05. A window that starts before the
oldest ring page makes it a truncated one. -/
def pinOpen (t before after : Nat) (auto : Bool) (s : State) : State :=
  let a := t - before
  let b := t + after
  let old := match ringOldest s with
    | some o => decide (b < o)
    | none => false
  let late := match ringOldest s with
    | some o => decide (a < o)
    | none => false
  let done := fun (res n : Nat) (s : State) => modLed (fun l => { l with pinResult := res, lastPin := n }) s
  match (upto 16).find? (fun n => decide ((tget {} s.led.pins n).state = 0)) with
  | none => done 3 0xFF (pinNote 4 0xFF a b s)
  | some n =>
    if pinRoom s = 0 then done 2 0xFF (pinNote 4 0xFF a b s)
    else if old then done 4 0xFF (pinNote 4 0xFF a b s)
    else
      let s := modLed (fun l => { l with pins := tset {} l.pins n {
        state := 1, start := a, stop := b, time := s.time.dev, auto := auto, cut := late } }) s
      done 1 n (pinNote 1 n a b s)

/-- A session record (Table LG-6, R142). -/
def sessionNote (code kind who : Nat) (s : State) : State :=
  ledgerNote 5 5 code (le 1 kind ++ le 1 who) s

end Sys2Proof.Machine
end

