-- ==== Sys2Proof/Machine/Transit.lean ====
section
/-! DEFINITION. The change of the device state, the entry into HALT, and the access rules of a requester
(R42 to R50, R64, R140, R356). -/

namespace Sys2Proof.Machine

/-- The word of 0x2101:02 (R49, R50). -/
def transitionWord (a b : DevState) (cause who : Nat) : Nat :=
  a.code * 2 ^ 24 + b.code * 2 ^ 16 + cause * 2 ^ 8 + who

/-- A transition of Table AR-7: it is counted unless it leads into RESET, recorded in 0x2101 and in the
Ledger, and it ends the pending request (R49, R50). -/
def moveTo (b : DevState) (cause who : Nat) (s : State) : State :=
  let w := transitionWord s.ctl.st b cause who
  let s := ledgerNote 2 3 0 (le 4 w) s
  { s with ctl := { s.ctl with
    st := b, request := none, lastWord := w, lastTime := s.time.dev
    transitions := if b = .reset then s.ctl.transitions else inc32 s.ctl.transitions } }

/-- Every item under test is abandoned (R378). -/
def abandonAll (s : State) : State := (upto 12).foldl (fun a n => abandonItem n a) s

/-- A manual fault injection ends as the device leaves MAINTENANCE (R358). -/
def endInjection (s : State) : State :=
  if s.col.result = 1 then { s with col := { s.col with result := 4 } } else s

/-- The entry into HALT (R42, R45, R48): the pending request is discarded, the cores are halted, the Curfew
pattern stops, the flush starts and BOOT_ST shows 0xE. CN0 stays in NMT pre-operational (R392). `code` is the fault that brought it. -/
def enterHalt (code : Nat) (s : State) : State :=
  match s.ctl.st with
  | .reset | .fuseSense | .halt => s
  | .startupTest | .configLoad | .safe | .run | .configure | .maintenance =>
    let s := moveTo .halt 0x08 0x00 (endInjection (abandonAll s))
    let s := reactAtOnce 4 0x07FF s
    let s := { s with
      ctl := { s.ctl with boot := 0xE, step := .none, hold := false }
      proc := { s.proc with running := false }
      net := { s.net with cans := tmod {} s.net.cans 0 (fun x => if x.nmt = 0 then x else { x with nmt := 0x7F }) }
      dict := { s.dict with staging := { s.dict.staging with running := 0 } } }
    flushStart code s

/-! ### Requesters (R44, R140, R356) -/

/-- Whether a requester is the one that a session or challenge is bound to: the port for HSPI, CN0 and
CN1, the client's address and port for UDP (R140). -/
def sameRequester (a b : Requester) : Bool :=
  decide (a.code = b.code) && (decide (a.code ≠ 4) || (decide (a.ip = b.ip) && decide (a.port = b.port)))

/-- Whether a requester holds an authenticated session of either kind. -/
def holdsSession (s : State) (r : Requester) : Bool :=
  (decide (s.dict.session.state = 2) || decide (s.dict.session.state = 3))
    && (match s.dict.session.holder with
      | some h => sameRequester h r
      | none => false)

/-- Whether a requester holds a session of a kind: 1 CONFIGURE, 2 MAINTENANCE. -/
def holdsKind (s : State) (r : Requester) (k : Nat) : Bool :=
  holdsSession s r && decide (s.dict.session.state = k + 1)

/-- Change the session registers. -/
def modSession (g : Session → Session) (s : State) : State :=
  { s with dict := { s.dict with session := g s.dict.session } }

/-- A request of the holder has arrived: the inactivity limit starts anew (R144). -/
def touch (r : Requester) (s : State) : State :=
  if holdsSession s r then modSession (fun x => { x with lastRequest := s.time.opNs }) s else s

/-- The flags of the image header: bit 0 autostart, bit 1 network state requests (0x3F01:05). -/
def imageFlags (s : State) : Nat :=
  match s.cfg.image with
  | some i => i.flags
  | none => 0

/-- Whether a request of R44 is accepted from a requester: over HSPI always, over the others by the image
header's permission or by a session. -/
def transportOk (s : State) (r : Requester) : Bool :=
  decide (r.code = 1) || bit (imageFlags s) 1 || holdsSession s r

/-- The answer to a transport: the abort code and the data of the last response (R131). -/
def reply (r : Requester) (abort : Nat) (data : List Byte) (s : State) : State :=
  { s with dict := { s.dict with replies := tset {} s.dict.replies r.code { abort := abort, data := data } } }

end Sys2Proof.Machine
end

