-- ==== Sys2Proof/Machine/Faults.lean ====
section
/-! DEFINITION. The fault collector's commands: reports, commits, recovery, acknowledgement, the history, the
chime and fault injection (R339 to R363). -/

namespace Sys2Proof.Machine

/-! ### The commit (R341 to R343, R349 to R351) -/

/-- Whether two faults share a source: any of their source or second source numbers coincide, 0xFFFF
standing for none (R342). -/
def shareSource (a b c d : Nat) : Bool :=
  decide (a = c) || decide (a = d ∧ a ≠ 0xFFFF) || decide (b = c ∧ b ≠ 0xFFFF) || decide (b = d ∧ b ≠ 0xFFFF)

/-- Whether a fault is one of an input of Table IN-3 (R171); 0x0106 is one of its die. -/
def inputFaultCode (code : Nat) : Bool := decide (0x0101 ≤ code) && decide (code ≤ 0x0107) && decide (code ≠ 0x0106)

/-- Whether an earlier record escalates a new one (R342, R343). Two input faults do not (R171). -/
def Record.escalates (q : Record) (a : Report) : Bool :=
  q.uncleared && decide (codeClass q.code = codeClass a.code)
    && !shareSource q.source q.second a.source a.second && !(inputFaultCode q.code && inputFaultCode a.code)

/-- The level and escalated flag of a new record (R334, R343): one level higher where an earlier record
escalates it, and L4 where R46 says so. An escalation to L3 that no standby core can serve is one. -/
def commitLevel (s : State) (p : Pending) : Nat × Bool :=
  let d := p.rep.lvl
  if p.force4 then (4, true)
  else if s.col.records.any (Record.escalates · p.rep) then
    (if d = 2 ∧ needsL4 s p.rep.source then (4, true) else (min (d + 1) 4, true))
  else (d, false)

/-- The sequence number after another (R341). -/
def nextSeq (n : Nat) : Nat := if n = 0xFFFFFFFE then 1 else n + 1

/-- The record of a sequence number. -/
def recOf (l : List Record) (n : Nat) : Option Record := l.find? (fun r => decide (r.seq = n))

/-- The history after the drop of R349: with 33 records, the oldest cleared one, else the oldest L0 or L1
one, else the oldest leaves. The list is newest first. -/
def historyDrop (recs : List Record) (h : List Nat) : List Nat :=
  if h.length ≤ 32 then h
  else
    let old := h.reverse
    let cleared := fun n => match recOf recs n with
      | some r => !r.uncleared
      | none => true
    let low := fun n => match recOf recs n with
      | some r => decide (r.level ≤ 1)
      | none => true
    match old.find? cleared with
    | some n => h.erase n
    | none => match old.find? low with
      | some n => h.erase n
      | none => h.dropLast

/-- The record that a waiting report becomes (Table FC-6). -/
def recordOf (p : Pending) (s : State) : Record :=
  let a := p.rep
  let lv := commitLevel s p
  { time := p.stamp, code := a.code, level := lv.1, defined := a.lvl, source := a.source, second := a.second,
    status := if p.superseded then 3 else if !p.present && decide (lv.1 ≤ 1) then 1 else 0
    present := p.present, escalated := lv.2
    sameTick := decide (s.col.lastTime = some a.time) || s.col.pending.any (fun q => decide (q.rep.time = a.time))
    injected := a.injected, seq := s.col.next, detail := a.detail, count := 1, goneAt := p.goneAt }

/-- A new record of time tick `t` joins the records and the history, is first fault where none is kept, and is counted
(R341, R349, R350). -/
def holdRecord (t : Nat) (r : Record) (s : State) : State :=
  let recs := s.col.records ++ [r]
  { s with col := { s.col with
    records := recs
    history := historyDrop recs (r.seq :: s.col.history)
    first := if 2 ≤ r.level then s.col.first.or (some r.seq) else s.col.first
    since := if decide (2 ≤ r.level) && s.col.first.isSome then inc32 s.col.since else s.col.since
    next := nextSeq s.col.next
    lastTime := some t
    total := inc32 s.col.total
    highest := max s.col.highest (recs.filter Record.uncleared).length } }

/-- The reaction of a record that was escalated to L3 or L4 (R338, R343). -/
def reactEscalated (r : Record) (s : State) : State :=
  if r.escalated ∧ 3 ≤ r.level then
    abandonArrays r.level r.source (if r.level = 3 then removeNamed r.source (reactAtOnce r.level r.source s)
      else reactAtOnce r.level r.source s)
  else s

/-- A record of L4 pins its time in the Ledger and halts the device (R45, R456). -/
def stopAtL4 (r : Record) (s : State) : State :=
  if r.level = 4 then
    enterHalt r.code (if s.led.state = 1 then pinOpen r.time (600 * second) 0 true s else s)
  else s

/-- The reports that joined a waiting one count on its record once it is committed (R339): at its commit the record
shows 1 occurrence (Table FC-6). -/
def countJoined (n seq : Nat) (s : State) : State :=
  { s with col := { s.col with records := s.col.records.map (fun r =>
    if r.seq = seq then { r with count := min (r.count + n) 65535 } else r) } }

/-- The collector commits one waiting report as a record (R341), copies it to the Ledger (R351), lets an
escalation react (R338), pins the window of an L4 record (R455) and enters HALT for it (R42). A record of
L0 or L1 whose condition has gone is cleared with its commit (R346), and one superseded before it is cleared so. -/
def commitNew (p : Pending) (s : State) : State :=
  let r := recordOf p s
  prune (stopAtL4 r (reactEscalated r (rankOne r.code
    (countJoined (p.count - 1) r.seq (ledgerPut r.copy (holdRecord p.rep.time r s))))))

/-- A waiting report is committed: as a further report on the record of its code and source where one is not cleared
(R339), else as a record of its own. -/
def commitOne (p : Pending) (s : State) : State :=
  if s.col.records.any (Record.sameAs · p.rep) ∧ p.superseded = false then
    updRecords (Record.sameAs · p.rep) (Record.again p.count p.present p.goneAt) s
  else commitNew p s

/-- Whether a waiting report is due: 20 µs have passed since its timestamp (R341). -/
def Pending.due (s : State) (p : Pending) : Bool := decide (p.rep.time + 20000 ≤ s.time.now)

/-- Commit the front one of the waiting reports. -/
def commitFront (s : State) : State :=
  match s.col.pending with
  | [] => s
  | p :: ps => commitOne p { s with col := { s.col with pending := ps } }

/-- Commit as many waiting reports as a number allows. -/
def commitMany : Nat → State → State
  | 0, s => s
  | n + 1, s => if s.col.pending = [] then s else commitMany n (commitFront s)

/-- Commit the waiting reports that are due, `n` at the most. -/
def commitDue : Nat → State → State
  | 0, s => s
  | n + 1, s => if s.col.pending.head?.any (Pending.due s) then commitDue n (commitFront s) else s

/-- Commit every waiting report that is due (R341). -/
def commitAll (s : State) : State := commitDue s.col.pending.length s

/-- Commit the waiting reports up to the last one that meets a test. -/
def commitThrough (q : Pending → Bool) (s : State) : State :=
  commitMany ((s.col.pending.reverse.dropWhile (fun p => !q p)).length) s

/-- Whether a checker can make a report: its code has a defining table (R332, R334) and its sources are in Table FC-2
(R333). -/
def reportable (a : Report) : Bool :=
  codeDefined a.code && sourceDefined a.source && (decide (a.second = 0xFFFF) || sourceDefined a.second)

/-- FAULT_REPORT (R339): a checker's report reaches the collector, not before its timestamp. One that arrives more than
20 µs after it is committed on arrival, behind the earlier ones (R341). -/
def execFaultReport (a : Report) (s : State) : Host.Outcome State Fault Refusal :=
  let a := { a with time := tick10 a.time, injected := false }
  .next (if reportable a then
    let s := advance a.time s
    let late := decide (a.time + 20000 < s.time.now)
    let s := raise a s
    if late then commitThrough (fun p => decide (p.rep = a)) s else s
  else s)

/-- FAULT_RECORD_COMMIT (R341): the report whose 20 µs have passed at `t` is committed. -/
def execFaultRecordCommit (t : Nat) (s : State) : Host.Outcome State Fault Refusal :=
  let s := advance t s
  .next (match s.col.pending with
    | [] => s
    | p :: _ => if p.due s then commitFront s else s)

/-! ### Recovery (R352, R353) -/

/-- The recoveries of a class in the last 86,400 s of operating time (R353). -/
def windowOf (s : State) (cls : Nat) : List Nat :=
  (tget {} s.col.classes cls).times.filter (fun t => decide (s.time.opNs < t + 86400 * second))

/-- A recovery of a class is counted, in its window too (R353). -/
def countRecovery (cls : Nat) (s : State) : State :=
  { s with col := { s.col with classes := (tmod {} s.col.classes cls (fun k => { k with
    counter := inc16 k.counter, times := s.time.opNs :: windowOf s cls, last := s.time.dev })) } }

/-- QUIET_PERIOD_END (R352, R353): the record's condition has stayed gone for the quiet period of its
class. It recovers, or becomes permanent where the window already holds the limit. -/
def execQuietPeriodEnd (seq : Nat) (s : State) : Host.Outcome State Fault Refusal :=
  .next (match s.ctl.st with
    | .reset | .fuseSense | .halt => s
    | _ => match recOf s.col.records seq with
      | none => s
      | some r =>
        let c := confOf s
        let cls := codeClass r.code
        let q := quietOf c cls
        if r.uncleared ∧ r.present = false ∧ (r.level = 2 ∨ r.level = 3) ∧ r.permanent = false ∧ q ≠ 0
            ∧ r.goneAt + q * second ≤ s.time.opNs then
          if limitOf c cls ≤ (windowOf s cls).length then
            updRecords (fun x => decide (x.seq = seq)) (fun x => { x with permanent := true }) s
          else
            prune (clearRecords (fun x => decide (x.seq = seq)) (fun x => { x with
              recovered := true, recAt := tick10 s.time.now + 1, recLast := (tget {} s.col.classes cls).last })
              (markDirty (countRecovery cls s)))
        else s)

/-! ### Acknowledgement (R355, R356) -/

/-- A record after an acknowledgement that reaches it: cleared and read where its condition is gone. -/
def Record.ack (r : Record) : Record :=
  if r.uncleared then { r with status := 2, read := true, acked := true }
  else { r with status := if r.status = 1 then 2 else r.status, read := true, acked := true }

/-- The records that recovered in the present time tick count as acknowledged, and neither the counters nor the windows
count their recovery (R354). -/
def ackRecovered (pick : Record → Bool) (s : State) : State :=
  let l := s.col.records.filter (fun x => pick x && recoveredNow s x)
  if l = [] then s
  else markDirty (updRecords (fun x => l.contains x)
    (fun x => { x with recovered := false, acked := true, read := true }) (uncount pick s))

/-- A write of 0x2502:01 (R355): the abort code, 0 where it is accepted, and the state after. -/
def ackWrite (r : Requester) (v : Nat) (s : State) : Nat × State :=
  if !transportOk s r then (0x08000022, s)
  else if v = 0xFFFFFFFF then
    let pick := fun (x : Record) => x.uncleared && !x.present && decide (x.level < 4)
      && (!x.permanent || holdsSession s r)
    let n := (s.col.records.filter (fun x => pick x || recoveredNow s x)).length
    let s := coreBack (updRecords (fun x => pick x || !x.uncleared) Record.ack (ackRecovered (fun _ => true) s))
    (0, prune { s with col := { s.col with lastAck := n } })
  else
    match recOf s.col.records v with
    | none => (0x06090030, s)
    | some x =>
      if x.uncleared then
        if x.level = 4 ∨ x.present then (0x08000022, s)
        else if x.permanent ∧ !holdsSession s r then (0x08000021, s)
        else
          let s := coreBack (updRecords (fun y => decide (y.seq = v)) Record.ack s)
          (0, prune { s with col := { s.col with lastAck := 1 } })
      else
        let n := b2n (recoveredNow s x)
        let s := updRecords (fun y => decide (y.seq = v)) Record.ack (ackRecovered (fun y => decide (y.seq = v)) s)
        (0, { s with col := { s.col with lastAck := n } })

/-! ### History and first fault (R349, R350, R361) -/

/-- A write of 0x01 to 0x2502:02: the cleared and superseded records leave the history. -/
def clearHistoryWrite (r : Requester) (s : State) : Nat × State :=
  if !transportOk s r then (0x08000022, s)
  else
    let stays := fun n => match recOf s.col.records n with
      | some x => x.uncleared
      | none => false
    (0, prune { s with col := { s.col with history := s.col.history.filter stays } })

/-- A write of 0x01 to 0x2502:03: the session holder releases a cleared first-fault record. -/
def releaseFirstWrite (r : Requester) (s : State) : Nat × State :=
  if !transportOk s r then (0x08000022, s)
  else if !holdsSession s r then (0x08000021, s)
  else match s.col.first with
    | none => (0, s)
    | some n => match recOf s.col.records n with
      | some x =>
        if x.uncleared then (0x08000022, s)
        else (0, prune { s with col := { s.col with first := none, since := 0 } })
      | none => (0, prune { s with col := { s.col with first := none, since := 0 } })

/-- The record that 0x2500:01 or a history entry shows. -/
def shownRec (s : State) (index sub : Nat) : Option Record :=
  if index = 0x2500 ∧ sub = 1 then s.col.first.bind (recOf s.col.records)
  else if index = 0x2501 ∧ 1 ≤ sub ∧ sub ≤ 0x20 then
    (s.col.history[sub - 1]?).bind (recOf s.col.records)
  else none

/-- The 32 bytes of a record are delivered in a response (R346, R347). A read while the condition is present
sets no flag. -/
def markSeq (seq : Nat) (s : State) : State :=
  updRecords (fun x => decide (x.seq = seq) && !x.present)
    (fun x => { x with read := true, status := if x.status = 1 then 2 else x.status }) s

/-- The same for the record that an object shows. -/
def markRead (index sub : Nat) (s : State) : State :=
  match shownRec s index sub with
  | none => s
  | some r => markSeq r.seq s

/-! ### The chime (R357) -/

/-- The source and code of a missed injection of a checker (Table FC-7). -/
def chimeFault (n : Nat) : Nat × Nat :=
  if n < 0x0700 then (0x050A, elemAt (n / 256) 0xFF)
  else if n < 0x0704 then (0x0701, n)
  else if n < 0x0708 then (0x0704, n - 4)
  else if 0x0710 ≤ n ∧ n < 0x0714 then (0x0805, 0x0730 + (n - 0x0710))
  else if n = 0x0714 then (0x0805, 0x0734)
  else if n = 0x0715 then (0x0805, 0x0735)
  else if n = 0x0716 then (0x090A, 0x0740)
  else if n = 0x0738 then (0x0D41, 0x0770)
  else if n = 0x077E then (0x0E01, 0x077E)
  else (0x0C40, 0x07FF)

/-- The checkers of Table FC-7 on this device. -/
def checkers (s : State) : List Nat :=
  (popSites s).flatMap (fun f => (upto 7).map (fun i => 256 * f + i))
    ++ (upto 8).map (0x0700 + ·) ++ (upto 7).map (0x0710 + ·) ++ [0x0730]
    ++ (if hasCap s 0x0A then [0x0731] else []) ++ [0x0738, 0x077E]

/-- The checkers that a chime round injects: all but those of R302. -/
def roundCheckers (s : State) : List Nat :=
  (checkers s).filter (fun n => decide (n < 0x0700) || decide (0x0708 ≤ n))

/-- Whether the chime runs (R357). -/
def chimeRuns (s : State) : Bool :=
  match s.ctl.st with
  | .configLoad | .safe | .run | .configure | .maintenance => true
  | .reset | .fuseSense | .startupTest | .halt => false

/-- A checker has missed its injection: its row of good rounds begins anew, and the code of Table FC-7 is raised. -/
def chimeMiss (n : Nat) (s : State) : State :=
  let cf := chimeFault n
  let s := { s with col := { s.col with misses := inc32 s.col.misses, good := tset 3 s.col.good n 0 } }
  raise (report s cf.1 cf.2 0xFFFF n) s

/-- What one checker's injection in a round shows. -/
def chimeOne (missed : List Nat) (n : Nat) (s : State) : State :=
  let cf := chimeFault n
  if missed.contains n then chimeMiss n s
  else
    let k := min 3 (tget 3 s.col.good n + 1)
    let s := { s with col := { s.col with good := tset 3 s.col.good n k } }
    -- the codes of several checkers can share a source: the condition goes when all of them have passed
    if k = 3 ∧ (roundCheckers s).all (fun m => decide (chimeFault m ≠ cf) || decide (tget 3 s.col.good m = 3))
      then gone cf.1 cf.2 s else s

/-- CHIME_ROUND (R357): at a device time that is a multiple of 10 ms. -/
def execChimeRound (missed : List Nat) (s : State) : Host.Outcome State Fault Refusal :=
  .next (if chimeRuns s then
    let s := runToDev (dueMultiple 10000000 s.col.chimeAt s.time.dev) s
    let s := { s with col := { s.col with chimeAt := s.time.dev + 1 } }
    let s := (roundCheckers s).foldl (fun a n => chimeOne missed n a) s
    { s with col := { s.col with rounds := inc32 s.col.rounds } }
  else s)

/-! ### Fault injection (R358, R363) -/

/-- A write of 0x01 to 0x2700:04: the injections start, unless some already run. -/
def injectStart (s : State) : Nat × State :=
  if s.col.result = 1 then (0x08000022, s)
  else (0, { s with col := { s.col with result := 1, made := 0, seen := 0, injectAt := 0 } })

/-- The report of a failed status link: L3 on the die (Table AR-2), with a code that the manual does not
give (log entry 18). -/
def linkReport (s : State) (f : Nat) : Report := report s Config.statusLinkCode (elemAt f 0xFF)

/-- A write of 0x01 to 0x2600 + c:09: the recovery counter of the class goes to 0 (R362). -/
def resetCounter (cls : Nat) (s : State) : State :=
  { s with col := { s.col with classes := tmod {} s.col.classes cls (fun k => { k with counter := 0 }) } }

/-! ### Breach windows (R330) -/

/-- SUMMARY_RECORD_WINDOW (R330): the 1,000 ms window of a rank ends, and its summary goes to the Ledger. -/
def execSummaryRecordWindow (rank : Nat) (s : State) : Host.Outcome State Fault Refusal :=
  let n := tget 0 s.breach.window rank
  .next (if n = 0 then s
  else
    let cls := fun c => if rank = 3 ∨ rank = 5 then tget 0 s.breach.byClass (rank * 32 + c) else 0
    let data := le 1 rank ++ zeros 3 ++ le 4 n
      ++ ((upto 16).map (fun c => le 2 (min 65535 (cls (c + 1))))).flatten
    let s := advance (tget 0 s.breach.windowFrom rank + second) s
    let s := { s with breach := { s.breach with
      window := tset 0 s.breach.window rank 0
      byClass := (upto 32).foldl (fun t c => tset 0 t (rank * 32 + c) 0) s.breach.byClass } }
    ledgerNote 7 3 0 data s)

end Sys2Proof.Machine
end

