-- ==== Sys2Proof/Machine/Links.lean ====
section
/-! DEFINITION. The connections inside the package and the agreement of the lanes as the C die sees it: the
enable links, the Curfew monitors, the status links, the shared-signal ring and the F-die escapements
(R16, R23, R26, R29 to R36, R39, R232, R235). -/

namespace Sys2Proof.Machine

/-- The island of a site. -/
def island (s : State) (f : Nat) : Island := tget {} s.array.island f
/-- The array of a site. -/
def fba (s : State) (f : Nat) : Fba := tget {} s.array.fba f
/-- Change an island. -/
def modIsland (f : Nat) (g : Island → Island) (s : State) : State :=
  { s with array := { s.array with island := tmod {} s.array.island f g } }
/-- Change an array. -/
def modFba (f : Nat) (g : Fba → Fba) (s : State) : State :=
  { s with array := { s.array with fba := tmod {} s.array.fba f g } }

/-- Change the status snapshot of a site (R138, R368). -/
def modSnap (f : Nat) (g : LiveSnap → LiveSnap) (s : State) : State :=
  { s with test := { s.test with snaps := s.test.snaps.map (fun e => if e.1 = f then (f, g e.2) else e) } }

/-- The source number of F die `f`. -/
def dieSrc (f : Nat) : Nat := elemAt f 0xFF

/-- The aligned count of a die in µs at an instant: the device time then, with the die's offset (R468). -/
def alignedUs (s : State) (f t : Nat) : Nat := ((devAt s t : Int) + (tget {} s.power.align f).rest).toNat / 1000

/-- The test frame of a die at an instant (R254). -/
def testFrame (s : State) (f t : Nat) : Nat := alignedUs s f t / 32000

/-- The announcements a side holds once it has received some: they are for the next test frame, and replace what it has
received for that frame before; those for the present frame stay (R255). -/
def announceNext (s : State) (f : Nat) (new : List (Nat × Nat)) (old : List Announce) : List Announce :=
  let k := testFrame s f s.time.now
  old.filter (fun a => decide (a.frame = k)) ++ new.map (fun p => { frame := k + 1, element := p.1, switch := p.2 })

/-- ENABLE_FRAME (R23, Table AR-2): a frame is valid when its CRC passes and its polarity alternates; the
first one after a timeout may have either. A valid frame sets the series gates, the lane A switches of the
returns and the low sides of the brakes, and carries the test announcements of R255. -/
def execEnableFrame (f word : Nat) (pol crcOk statusOk : Bool) (ann : List (Nat × Nat)) (s : State) :
    Host.Outcome State Fault Refusal :=
  .next (if populated s f ∧ crcOk ∧ ((island s f).timedOut ∨ (island s f).polarity ≠ pol) then
    modIsland f (fun i => { i with
      word := word % 2 ^ 26, polarity := pol, timedOut := false, statusOk := statusOk
      announced := announceNext s f ann i.announced }) s
  else s)

/-- ENABLE_FRAME_TIMEOUT (R23): no valid frame for 30 µs; the island drops all its enables. -/
def execEnableFrameTimeout (f : Nat) (s : State) : Host.Outcome State Fault Refusal :=
  .next (if populated s f then modIsland f (fun i => { i with word := 0, timedOut := true }) s else s)

/-- CURFEW_STOP_DETECTED (R33, R34): a monitor opens the switches that its side commands and keeps them
open until reset. A test of the die's array is abandoned (R378). -/
def execCurfewStopDetected (f : Nat) (isl : Bool) (s : State) : Host.Outcome State Fault Refusal :=
  .next (if populated s f then
    abandonItem (4 + f) (modIsland f (fun i =>
      if isl then { i with islandStopped := true } else { i with dieStopped := true }) s)
  else s)

/-- STATUS_LINK_FRAME (R16): each direction numbers its frames; a failed CRC or sequence check is an L3
fault on that die, whose condition is gone at the next frame that passes (log entry 18). The sequence number is a count
without end, as no width and no wrap are given (DESIGN CHOICE, log entry 99). Frames towards the die carry the test
announcements of R255. -/
def execStatusLinkFrame (f seq : Nat) (crcOk toDie : Bool) (w : StatusWord) (s : State) :
    Host.Outcome State Fault Refusal :=
  .next (if !populated s f then s
  else
    let last := if toDie then (island s f).seqDown else (island s f).seqUp
    if crcOk ∧ seq = last + 1 then
      let s := modIsland f (fun i =>
        if toDie then { i with seqDown := seq, linkOk := true, announcedB := announceNext s f w.announce i.announcedB }
        else { i with seqUp := seq, linkOk := true, reported := w.demands % 2 ^ 26 }) s
      if faultActive s Config.statusLinkCode (dieSrc f) then gone Config.statusLinkCode (dieSrc f) s else s
    else
      let s := modIsland f (fun i =>
        if !crcOk then { i with linkOk := false }
        else if toDie then { i with seqDown := seq, linkOk := false }
        else { i with seqUp := seq, linkOk := false }) s
      raise (linkReport s f) s)

/-! ### The ring (R29 to R32, R231, R232) -/

/-- Whether a tick number fits the one a die expects: its last window's, or one beside it. -/
def tickNear (n tick : Nat) : Bool :=
  decide (tick % 256 = n % 256) || decide (tick % 256 = (n + 1) % 256) || decide ((tick + 1) % 256 = n % 256)

/-- What a segment that passes its CRC carries: the word that its source die published in the tick it names (R231). While
the die's array is held or stopped it goes on publishing the word of its last commit in every later tick (R236). Of a
tick older than the last two, the bits of the segment itself. -/
def segmentWord (s : State) (src tick bits : Nat) : Nat :=
  let a := fba s src
  if tick % 256 = a.lastTick % 256 ∨ (a.state ≠ 1 ∧ 10000 * (a.lastTick + 2) ≤ s.time.now) then a.published
  else if (tick + 1) % 256 = a.lastTick % 256 then a.publishedBefore
  else bits % 2 ^ 64

/-- SHARED_SIGNAL_SEGMENT (R30, R232): a die keeps the segments of the last two source ticks. -/
def execSharedSignalSegment (die src tick bits : Nat) (crcOk : Bool) (s : State) :
    Host.Outcome State Fault Refusal :=
  .next (if populated s die ∧ populated s src ∧ die ≠ src ∧ evaluating s then
    if crcOk then
      let near := tickNear (fba s die).lastTick tick
      let bits := segmentWord s src tick bits
      let s := modFba die (fun a => { a with
        segments := tset {} a.segments (src * 2 + tick % 2) ⟨bits, tick % 256, true⟩
        good := tset 0 a.good src bits
        fails := if near then tset 0 a.fails src 0 else a.fails }) s
      if near ∧ s.col.records.any (fun r => r.uncleared && decide (r.code = 0x0505)
          && decide (r.source = dieSrc die) && decide (r.second = dieSrc src)) then
        gone 0x0505 (dieSrc die) s else s
    else
      let s := modFba die (fun a => { a with
        segments := tset {} a.segments (src * 2 + tick % 2) ⟨0, tick % 256, false⟩
        fails := tmod 0 a.fails src (· + 1) }) s
      raise (momentary (report s 0x0504 (dieSrc die) (dieSrc src))) s
  else s)

/-- SEGMENT_THIRD_FAILURE (R30): the third consecutive frame of a segment fails; the evaluator counts its cross-die
channels as faulty. -/
def execSegmentThirdFailure (die src : Nat) (s : State) : Host.Outcome State Fault Refusal :=
  .next (if populated s die ∧ populated s src ∧ die ≠ src ∧ evaluating s ∧ 2 ≤ tget 0 (fba s die).fails src then
    let s := modFba die (fun a => { a with fails := tmod 0 a.fails src (max 3) }) s
    raise (report s 0x0505 (dieSrc die) (dieSrc src)) s
  else s)

/-- The distance from one site to another along the ring. -/
def ringDist (l : List Nat) (a b : Nat) : Nat := (l.idxOf b + l.length - l.idxOf a) % l.length

/-- RING_BROKEN (R31): the dies downstream of the break read 0 for the segments that cannot reach them, and count the
cross-die channels of those segments as faulty (R30, R226). -/
def execRingBroken (a b : Nat) (s : State) : Host.Outcome State Fault Refusal :=
  let l := popSites s
  .next (if l.contains a ∧ l.contains b ∧ a ≠ b then
    let cut := fun (d m : Nat) => decide (ringDist l m a < ringDist l m d)
    let s := l.foldl (fun x d => modFba d (fun q => { q with
      segments := q.segments.filter (fun e => !cut d (e.1 / 2))
      good := q.good.filter (fun e => !cut d e.1)
      fails := (l.filter (fun m => cut d m && decide (m ≠ d))).foldl (fun t m => tmod 0 t m (max 3)) q.fails }) x) s
    raise (report s 0x0506 (dieSrc a) (dieSrc b)) s
  else s)

/-! ### The F-die escapement (R36) -/

/-- One step of the LFSR with polynomial x¹⁶ + x¹⁴ + x¹³ + x¹¹ + 1. -/
def lfsrStep (v : Nat) : Nat :=
  v / 2 + 2 ^ 15 * b2n (bit v 0 ^^ bit v 2 ^^ bit v 3 ^^ bit v 5)

/-- A number of steps of the LFSR. -/
def lfsrRun : Nat → Nat → Nat
  | 0, v => v
  | n + 1, v => lfsrRun n (lfsrStep v)

/-- The first challenge after a reset: the XOR of the halves of the die's serial, or 1 (R36). -/
def firstChallenge (s : State) (f : Nat) : Nat :=
  let w := (Config.dieSerial ((upto 8).map (fun i => BitVec.ofNat 32 (dieWord s f i)))).toNat
  let v := Nat.xor (field w 16 16) (field w 0 16)
  if v = 0 then 1 else v

/-- The die fold: the XOR of the halves of the eight identity words (R36). -/
def dieFold (s : State) (f : Nat) : Nat :=
  (upto 8).foldl (fun v i => Nat.xor v (Nat.xor (field (dieWord s f i) 16 16) (field (dieWord s f i) 0 16))) 0

/-- A 16-bit number rotated left by 5 bits. -/
def rotl5 (v : Nat) : Nat := (v * 32) % 2 ^ 16 + v / 2 ^ 11

/-- The response that the escapement of a site expects, with its own count of committed windows (R36). -/
def fExpected (s : State) (f : Nat) : Nat :=
  Nat.xor (Nat.xor (rotl5 (fba s f).challenge) (dieFold s f)) ((fba s f).independent % 2 ^ 16)

/-- F_ESCAPEMENT_RESPONSE (R36): `elapsed` µs after the previous accepted response. A wrong value or one
outside the window is 0x0507 at L3, whose condition is gone in its own tick (DESIGN CHOICE, log entry 79). -/
def execFEscapementResponse (f value elapsed : Nat) (s : State) : Host.Outcome State Fault Refusal :=
  .next (if !populated s f then s
  else if 900 ≤ elapsed ∧ elapsed ≤ 1100 ∧ value = fExpected s f then
    let (n, s) := draw s
    modFba f (fun a => { a with
      challenge := lfsrRun (Config.freeSteps n).toNat a.challenge, windows := 0, independent := 0 }) s
  else faultOnce 0x0507 (dieSrc f) (modFba f (fun a => { a with windows := 0, independent := 0 }) s))

/-- F_ESCAPEMENT_MISSED (R36). -/
def execFEscapementMissed (f : Nat) (s : State) : Host.Outcome State Fault Refusal :=
  .next (if populated s f then faultOnce 0x0507 (dieSrc f) s else s)

/-! ### Lock and lanes (R26, R39, R235) -/

/-- LOCKED_MEMORY_WRITE (R39, R360): refused, and recorded. -/
def execLockedMemoryWrite (index sub : Nat) (s : State) : Host.Outcome State Fault Refusal :=
  .next (if s.ctl.locked then
    raise (momentary (report s 0x0F10 0x0778 0xFFFF (index % 65536 + 65536 * (sub % 256)))) s else s)

/-- The code of a lane disagreement of an element (Table FB-6). -/
def laneCode (el : Nat) : Nat := if isOutput el then 0x1001 else if isReturn el then 0x1002 else 0x1003

/-- Whether the C die sees an element's two demands apart: lane A's as published, lane B's as the status link last
reported it (R26). -/
def demandsApart (s : State) (el : Nat) : Bool :=
  let f := siteOf el
  bit (tget 0 s.outs.publishedA f) (elBit el) != bit (island s f).reported (elBit el)

/-- The C die's comparisons of one evaluation tick of a site (R26): how long the demands of each element differ. They run
with the die's commits, so that they stand still while its array is under test (R28). -/
def compareC (f : Nat) (s : State) : State :=
  let l := (siteElems f).filter (fun el => inRun s && demandsApart s el && !connHeld s el)
  modIsland f (fun i => { i with differC := l.map (fun el => (el, tget 0 i.differC el + 1)) }) s

/-- LANE_AGREEMENT_TIMEOUT (R26, R28): the C die finds an element's demands apart for longer than its lane-agreement
time. What the F die has found already is not raised again. -/
def execLaneAgreementTimeout (el : Nat) (s : State) : Host.Outcome State Fault Refusal :=
  .next (if inRun s ∧ populated s (siteOf el) ∧ (isOutput el ∨ isReturn el ∨ isBrake el) ∧ demandsApart s el
      ∧ (fba s (siteOf el)).state ≠ 2 ∧ elAgree (confOf s) el < 10 * tget 0 (island s (siteOf el)).differC el
      ∧ !condPresent s (laneCode el) el then fault (laneCode el) el s else s)

/-- PAIR_LANE_DISAGREEMENT (R235): the lanes have differed for more than 100 µs, which is 10 ticks. -/
def execPairLaneDisagreement (e : Nat) (s : State) : Host.Outcome State Fault Refusal :=
  .next (if evaluating s ∧ pairKind (confOf s) e ≠ 0 ∧ 10 < (tget {} s.pairs e).apart
      ∧ !condPresent s 0x1004 (0x0800 + e) then fault 0x1004 (0x0800 + e) s else s)

end Sys2Proof.Machine
end

