-- ==== Sys2Proof/Machine/Inputs.lean ====
section
/-! DEFINITION. Field inputs and test-pulse sources: the two lanes' filters, the edge queue, the pulses with
their line checks and the readback (R153 to R183). A filtered change reaches the pair table in Pairs. -/

namespace Sys2Proof.Machine

/-- An input. -/
def input (s : State) (i : Nat) : InputSt := tget {} s.field.inputs i
/-- A source. -/
def source (s : State) (j : Nat) : SourceSt := tget {} s.field.sources j
/-- The edge queue and readback state of a site. -/
def siteIn (s : State) (f : Nat) : SiteIn := tget {} s.field.sites f
/-- Change an input. -/
def modInput (i : Nat) (g : InputSt → InputSt) (s : State) : State :=
  { s with field := { s.field with inputs := tmod {} s.field.inputs i g } }
/-- Change a source. -/
def modSource (j : Nat) (g : SourceSt → SourceSt) (s : State) : State :=
  { s with field := { s.field with sources := tmod {} s.field.sources j g } }
/-- Change the edge queue and readback state of a site. -/
def modSiteIn (f : Nat) (g : SiteIn → SiteIn) (s : State) : State :=
  { s with field := { s.field with sites := tmod {} s.field.sites f g } }

/-- One lane's view of an input. -/
def laneIn (s : State) (l : Lane) (i : Nat) : LaneIn :=
  match l with
  | .a => (input s i).a
  | .b => (input s i).b

/-- Change one lane's view of an input. -/
def InputSt.setLane (l : Lane) (x : LaneIn) (i : InputSt) : InputSt :=
  match l with
  | .a => { i with a := x }
  | .b => { i with b := x }

/-- Whether an input is in use and evaluated (R153, R159). -/
def inputRuns (s : State) (i : Nat) : Bool :=
  isSiteSrc i && decide (offOf i < 0x20) && populated s (siteOf i) && evaluating s
    && decide (inType (confOf s) i ≠ 0)

/-! ### The own mask (R155) -/

/-- The end of the own mask of an input in a lane that contains a time, if any. Lane B takes the width of
the pulse from its source; lane A takes the window around the scheduled start, the next one included. -/
def ownMask (s : State) (l : Lane) (i t : Nat) : Option Nat :=
  let c := confOf s
  match inSource c i with
  | none => none
  | some j =>
    let x := source s j
    if !srcPulses c j ∨ x.pulses = 0 then none
    else match l with
      | .b => let m := x.start + (x.cur + 50) * 1000
        if x.start ≤ t ∧ t < m then some m else none
      | .a =>
        let w := (srcWmax c j + 52) * 1000
        let nxt := x.start + srcPeriod c j * 1000
        if x.start ≤ t + 2000 ∧ t < x.start + w then some (x.start + w)
        else if nxt ≤ t + 2000 ∧ t < nxt + w then some (nxt + w)
        else none

/-- The raw level of a lane at a recent sample tick: each later change has turned it (R169). -/
def LaneIn.levelAt (t : Nat) (x : LaneIn) : Bool := x.raw != decide ((x.past.filter (t < ·)).length % 2 = 1)

/-- A run starts at a time: none of its samples has been frozen yet. -/
def LaneIn.begin_ (t : Nat) (inMask : Bool) (x : LaneIn) : LaneIn := { x with first := some t, frozen := 0, masked := inMask }

/-- A new raw sample in one lane (R155, R156): counting towards OFF ignores the mask, counting towards ON
is frozen inside it. `mask` is the end of the own mask that contains `t`. -/
def LaneIn.sample (level : Bool) (t : Nat) (mask : Option Nat) (x : LaneIn) : LaneIn :=
  let was := x.raw
  let x := if level = was then x else { x with raw := level, past := (t :: x.past).take 4 }
  if x.on then
    (if level then { x with first := none } else if x.first.isSome then x else x.begin_ t mask.isSome)
  else match mask with
    | some m => if level ∧ x.first.isNone then x.begin_ m false else x
    | none =>
      if !level then { x with first := none } else if was ∧ x.first.isSome then x else x.begin_ t false

/-- A pulse of the own source starts at `t` in a lane whose own mask for it runs from `m0` to `m1`; `mp` is the end of the
mask before it (R155, R157). A run towards OFF that began in the mask is marked; one towards ON stands still in it,
and one that no HIGH sample carries into it starts again. -/
def LaneIn.enterMask (m0 m1 mp : Nat) (x : LaneIn) : LaneIn :=
  match x.first with
  | none => x
  | some n =>
    if x.on then { x with masked := x.masked || decide (m0 ≤ n) }
    else if !x.levelAt (m0 - 1000) then { x with first := none }
    else if m0 ≤ n then x.begin_ m1 false
    else { x with frozen := x.frozen + (m1 - max m0 mp) / 1000 }

/-- RAW_STATE_CHANGE (R155): the raw levels that the two lanes sample from `t` on. -/
def execRawStateChange (_f i : Nat) (levelA levelB : Bool) (t : Nat) (s : State) :
    Host.Outcome State Fault Refusal :=
  let s := advance t s
  .next (if inputRuns s i then
    modInput i (fun x => { x with
      a := x.a.sample levelA t (ownMask s .a i t)
      b := x.b.sample levelB t (ownMask s .b i t) }) s
  else s)

/-! ### Filtered changes and the edge queue (R155, R157, R178, R179) -/

/-- The word of an edge event (Table IN-6). -/
def edgeWord (i : Nat) (x : LaneIn) (lost : Bool) (seq : Nat) : Nat :=
  (x.edge / 1000 % 2 ^ 48) * 65536 + (offOf i) * 2048 + b2n x.on * 1024 + b2n x.inside * 512 + b2n lost * 256 + seq

/-- Queue an edge event of lane B (R178). A full queue loses its oldest event, and the event that is then
the oldest says so. -/
def queueEdge (i : Nat) (s : State) : State :=
  let f := siteOf i
  let q := siteIn s f
  let seq := if q.seq = 255 then 1 else q.seq + 1
  let w := edgeWord i (input s i).b q.lostMark seq
  if q.events.length < 256 then
    modSiteIn f (fun q => { q with events := q.events ++ [w], seq := seq, lostMark := false }) s
  else
    let now := s.time.opNs / second + 1
    let rest := match (q.events ++ [w]).drop 1 with
      | [] => []
      | h :: t => setBit h 8 true :: t
    let s := modSiteIn f (fun q => { q with
      events := rest, seq := seq, lostMark := false, lost := inc32 q.lost, lostSecond := now }) s
    if q.lostSecond = now then s else faultOnce 0x0108 (dieSrc f) s

/-- The records that a lane B change leaves: the queue, the count, and the Ledger where the input asks for
it (R178, R179, Table LG-6). The byte of the new state carries the edge flags of Table IN-6 (DEDUCED, log entry 100). -/
def noteChange (i : Nat) (s : State) : State :=
  let s := modInput i (fun x => { x with changes := inc32 x.changes }) s
  let s := queueEdge i s
  let x := (input s i).b
  if bit (inFlags (confOf s) i) 0 then
    ledgerPut { type := 4, rank := 5, source := i, code := 1,
                data := le 2 i ++ le 1 (b2n x.on + 2 * b2n x.inside) ++ le 8 x.edge } s
  else s

/-- A filtered change of an input in one lane, with its edge time, change time and flag; both times are sample ticks
(R155, R157, R159). -/
def filterFlip (l : Lane) (i edge t : Nat) (inside : Bool) (s : State) : State :=
  let x := laneIn s l i
  let e := devAt s edge
  let c := devAt s t
  let y : LaneIn := { x with
    on := !x.on, first := none, edge := e - e % 1000, change := c - c % 1000, flip := t, inside := inside }
  let s := modInput i (InputSt.setLane l y) s
  match l with
  | .b => noteChange i s
  | .a => s

/-- Whether the run of an input in one lane has reached N counted samples at `t`: towards ON, outside the own mask
(R155). -/
def runDone (s : State) (l : Lane) (i t n : Nat) : Bool :=
  let x := laneIn s l i
  decide (x.raw ≠ x.on) && (x.on || decide (ownMask s l i t = none)) && (match x.first with
    | some f => decide (f + (n + x.frozen - 1) * 1000 ≤ t)
    | none => false)

/-- The filtered change of a run that has reached its count; one towards OFF keeps whether its first sample lay in the
own mask (R157). -/
def filterChange (l : Lane) (i t : Nat) (s : State) : State :=
  let x := laneIn s l i
  let f := x.first.getD t
  filterFlip l i f t (x.on && x.masked) s

/-! ### Forcing (R159, R168) -/

/-- The lanes in which a forcing turns an input OFF: those in which it is ON. -/
def forceOne (i t : Nat) (s : State) : State :=
  let s := if (input s i).b.on then filterFlip .b i t t false s else s
  let s := if (input s i).a.on then filterFlip .a i t t false s else s
  modInput i (fun x => { x with a := { x.a with first := none }, b := { x.b with first := none } }) s

/-- A forcing ends: each lane's filter starts from OFF with its count at 0 (R159), outside its own mask (R155). -/
def unforceOne (i t : Nat) (s : State) : State :=
  let g := fun (l : Lane) (x : LaneIn) =>
    if x.raw then { x with on := false }.begin_ ((ownMask s l i t).getD t) false else { x with on := false, first := none }
  modInput i (fun x => { x with a := g .a x.a, b := g .b x.b }) s

/-- The inputs of a site that VFLD_TP forces: those in use and fed by a source (R168). -/
def fedInputs (c : Conf) (f : Nat) : List Nat :=
  (siteInputs f).filter (fun i => decide (inType c i ≠ 0) && (inSource c i).isSome)

/-! ### Faults of an input -/

/-- Whether an input carries an active fault of Table IN-3 (R171). -/
def inputFaulted (s : State) (i : Nat) : Bool :=
  (actives s).any (fun a => decide (a.source = i) && decide (0x0101 ≤ a.code) && decide (a.code ≤ 0x0107))

/-- Whether the checks of an input are suspended: its source is off with VFLD_TP (R168) or has an active class 0x02
fault (R171). A forcing by VFLD_L suspends none (R159; log entry 63). -/
def inputSuspended (s : State) (i : Nat) : Bool :=
  match inSource (confOf s) i with
  | some j => tpTripped s (siteOf i) || sourceFaulty s j
  | none => false

/-- Whether an input carries an active fault of Table IN-3 of another code (R171). -/
def otherFault (s : State) (code i : Nat) : Bool :=
  (actives s).any (fun a => decide (a.source = i) && decide (0x0101 ≤ a.code) && decide (a.code ≤ 0x0107)
    && decide (a.code ≠ code))

/-- Whether a checker may report a fault of Table IN-3 on an input: it runs, its checks are not suspended, it carries no
other fault of the table (R171), and the condition is not present already. One whose condition has gone is reported
again (R339). -/
def mayFault (s : State) (code i : Nat) : Bool :=
  inputRuns s i && !inputSuspended s i && !otherFault s code i && !condPresent s code i

/-- Raise a fault of Table IN-3 on an input. -/
def inputFault (code i : Nat) (second detail : Nat) (s : State) : State :=
  if mayFault s code i then raise (report s code i second detail) s else s

/-- INPUT_OVERVOLTAGE (R154). -/
def execInputOvervoltage (_f i : Nat) (s : State) : Host.Outcome State Fault Refusal :=
  .next (inputFault 0x0107 i 0xFFFF 0 s)

/-- The agreement limit of an input in ns (R158). -/
def agreementLimit (c : Conf) (i : Nat) : Nat :=
  match inSource c i with
  | some j => if srcPulses c j then (1000 + srcWmax c j) * 1000 else 1000000
  | none => 1000000

/-- LANE_INPUT_DISAGREEMENT (R158): the lanes differ since the later of their last changes, and the limit has been
exceeded: the first 10 ns after it has come at the latest (log entry 23). -/
def execLaneInputDisagreement (_f i : Nat) (s : State) : Host.Outcome State Fault Refusal :=
  let x := input s i
  .next (if x.a.on ≠ x.b.on ∧ mayFault s 0x0103 i then
    inputFault 0x0103 i 0xFFFF 0 (advance (max x.a.flip x.b.flip + agreementLimit (confOf s) i + 10) s)
  else s)

/-- Whether a reading contradicts a filtered state: a plain ON (13 V, or 17 V for Type 1) against OFF, or
a plain OFF (4 V) against ON. -/
def contradicts (ty mv : Nat) (on : Bool) : Bool :=
  if on then decide (mv ≤ 4000) else decide ((if ty = 1 then 17000 else 13000) ≤ mv)

/-- The field-side voltage of an input in mV: the land voltage plus the sink current through 4.7 kΩ. -/
def fieldSide (x : InputSt) : Nat := x.land + x.sink * 47 / 10

/-- The readings against the filtered state of a lane. -/
def InputSt.plain (l : Lane) (x : InputSt) : Span :=
  match l with
  | .a => x.plainA
  | .b => x.plainB

/-- PLAUSIBILITY_FAULT (R177), suspended while the readback is invalid; the lane is the detail (R333). The lane's state
has contradicted the plain reading, and still does, for longer than N + 1,000 µs (log entry 23). -/
def execPlausibilityFault (f i : Nat) (l : Lane) (s : State) : Host.Outcome State Fault Refusal :=
  let isA := match l with
    | .a => true
    | .b => false
  let c := confOf s
  let x := input s i
  .next (match (x.plain l).since with
    | some t =>
      if (siteIn s f).invalid ∨ siteOf i ≠ f ∨ !contradicts (inType c i) (fieldSide x) (laneIn s l i).on
          ∨ !mayFault s 0x0104 i then s
      else
        inputFault 0x0104 i 0xFFFF (b2n isA)
          (modInput i (fun x => { x with namesA := isA }) (advance (t + inFilter c i * 1000 + 1000010) s))
    | none => s)

/-- TRANSITION_REGION_FAULT (R177): the readings have stayed in the region for longer than max(N, 10 ms) (log entry
23). -/
def execTransitionRegionFault (_f i : Nat) (s : State) : Host.Outcome State Fault Refusal :=
  let c := confOf s
  .next (match (input s i).trans.since with
    | some t =>
      if bit (inFlags c i) 1 ∧ mayFault s 0x0105 i then
        inputFault 0x0105 i 0xFFFF 0 (advance (t + max (inFilter c i * 1000) 10000000 + 10) s)
      else s
    | none => s)

/-! ### Readback (R154, R175 to R177) -/

/-- Whether a reading lies in the transition region. -/
def inTransition (ty mv : Nat) : Bool := decide (5000 ≤ mv) && decide (mv ≤ if ty = 1 then 15000 else 11000)

/-- A reading at `t` shows a finding, or does not. -/
def Span.see (v : Bool) (t : Nat) (x : Span) : Span :=
  if v then { since := x.since.or (some t), last := t } else { x with since := none }

/-- One reading of an input, in the converter's steps of 40 mV and 4 µA (R175), and the conditions that it ends. A
reading inside the own mask says nothing of the transition region (R177). -/
def readInput (r : InputReading) (s : State) : State :=
  let c := confOf s
  let i := r.input
  let ty := inType c i
  let now := s.time.now
  let n := inFilter c i * 1000
  let old := input s i
  let masked := (ownMask s .b i now).isSome
  let s := modInput i (fun x => { x with
    land := min r.land 40920 / 40 * 40, sink := min r.sink 4092 / 4 * 4 }) s
  let mv := fieldSide (input s i)
  let s := modInput i (fun x => { x with
    plainB := x.plainB.see (contradicts ty mv x.b.on) now
    plainA := x.plainA.see (contradicts ty mv x.a.on) now
    trans := if masked then x.trans else x.trans.see (inTransition ty mv) now }) s
  let x := input s i
  let s := if condPresent s 0x0107 i ∧ fieldSide old ≤ 32000 ∧ mv ≤ 32000 then gone 0x0107 i s else s
  let plain := if x.namesA then x.plainA else x.plainB
  let s := if condPresent s 0x0104 i ∧ plain.since = none ∧ plain.last + n + 1000000 ≤ now then gone 0x0104 i s else s
  if condPresent s 0x0105 i ∧ x.trans.since = none ∧ x.trans.last + max n 10000000 ≤ now then gone 0x0105 i s else s

/-- READBACK_UPDATE (R175). -/
def execReadbackUpdate (f : Nat) (ins : List InputReading) (srcs : List SourceReading) (s : State) :
    Host.Outcome State Fault Refusal :=
  .next (if populated s f ∧ evaluating s then
    let s := (ins.filter (fun r => inputRuns s r.input && decide (siteOf r.input = f))).foldl
      (fun a r => readInput r a) s
    (srcs.filter (fun r => decide (siteOf r.source = f) && decide (0x20 ≤ offOf r.source)
        && decide (offOf r.source < 0x28))).foldl
      (fun a r => modSource r.source (fun x => { x with ma := min r.ma 600, mv := min r.mv 45000 }) a) s
  else s)

/-- READBACK_CALIBRATION (R176). -/
def execReadbackCalibration (f : Nat) (ok : Bool) (s : State) : Host.Outcome State Fault Refusal :=
  .next (if populated s f ∧ evaluating s then
    let s := modSiteIn f (fun q => { q with invalid := !ok }) s
    if ok then gone 0x0106 (dieSrc f) s else fault 0x0106 (dieSrc f) s
  else s)

/-! ### Pulses (R160 to R172) -/

/-- Whether a source is in use, on a site that the image names (R5), and its lines are evaluated. -/
def sourceRuns (s : State) (j : Nat) : Bool :=
  isSiteSrc j && decide (0x20 ≤ offOf j) && decide (offOf j < 0x28) && populated s (siteOf j)
    && siteNamed s (siteOf j) && evaluating s && decide (srcMode (confOf s) j ≠ 0)

/-- The status of a source that is on: steady or pulsing (Table IN-6). -/
def srcOn (c : Conf) (j : Nat) : Nat := if srcPulses c j then 2 else if srcMode c j = 1 then 1 else 0

/-- The width of the next pulse (R165): the minimum in fixed mode, five times the largest of the last τ
within the bounds in adaptive mode, and W_max before the first measurement. -/
def nextWidth (c : Conf) (j : Nat) (taus : List Nat) : Nat :=
  if srcMode c j = 2 then srcWmin c j
  else if taus = [] then srcWmax c j
  else min (srcWmax c j) (max (srcWmin c j) (5 * taus.foldl max 0))

/-- Whether a source of the die has its window under way at `t` (R162, R164). -/
def windowOpen (s : State) (f t : Nat) : Bool :=
  (siteSources f).any (fun k => decide ((source s k).pulses ≠ 0) && srcPulses (confOf s) k
    && decide (t < (source s k).start + (srcWmax (confOf s) k + 70) * 1000))

/-- What the checks of Table IN-2 need of an input before a pulse of source `j` that starts at `t`. -/
def beforePulse (j t i : Nat) (s : State) : State :=
  let own := inSource (confOf s) i
  let on := match own with
    | some k => (decide ((source s k).status = 1) || decide ((source s k).status = 2)) && !(source s k).pulse
    | none => false
  let clear := on && decide (own ≠ some j) && decide (ownMask s .b i t = none)
  modInput i (fun x => { x with highB := x.b.levelAt (t - 1000), highA := x.a.levelAt (t - 3000), clear := clear }) s

/-- TEST_PULSE_START (R162): the source switches off for its width when the aligned count meets its phase. A pulse whose
window would overlap one under way is skipped (R164). -/
def execTestPulseStart (_f j t : Nat) (s : State) : Host.Outcome State Fault Refusal :=
  let s := advance t s
  let c := confOf s
  let f := siteOf j
  .next (if sourceRuns s j ∧ (source s j).status = 2 ∧ !(source s j).pulse
      ∧ alignedUs s f t % srcPeriod c j = srcPhase c j ∧ !windowOpen s f t then
    let x := source s j
    let mp := fun (w : Nat) => if x.pulses = 0 then 0 else x.start + w * 1000
    let wm := srcWmax c j + 52
    let s := (siteInputs f).foldl (fun a i => beforePulse j t i a) s
    let s := (fedBy c j).foldl (fun a i => modInput i (fun y => { y with
      a := y.a.enterMask (t - 2000) (t + wm * 1000) (mp wm)
      b := y.b.enterMask t (t + (x.width + 50) * 1000) (mp (x.cur + 50)) }) a) s
    modSource j (fun x => { x with
      pulse := true, start := t, startAt := devAt s t, cur := x.width, pulses := inc32 x.pulses }) s
  else s)

/-- One lane's result of an own-pulse check: the count of consecutive failures. -/
def countFail (r : Option Bool) (n : Nat) : Nat :=
  match r with
  | none => n
  | some true => 0
  | some false => n + 1

/-- What the samples after the width show of an input; where a command says nothing of it, nothing failed. -/
def laterOf (r : PulseReading) (i : Nat) : PulseCheck := (r.checks.find? (fun p => decide (p.input = i))).getD { input := i }

/-- The own-pulse check of lane B (Table IN-2) at the last sample tick of the width: none where the input was not HIGH
before. -/
def ownB (x : InputSt) : Option Bool := if x.highB then some (!x.b.raw) else none

/-- The own-pulse check of lane A of a pulse that started at `t0` (Table IN-2), seen at `t`: three LOW samples have come
by then, or come later in the window. -/
def ownA (t0 t : Nat) (p : PulseCheck) (x : InputSt) : Option Bool :=
  let low := !x.a.raw && decide (max t0 (x.a.past.headD 0) + 2000 ≤ t)
  if x.highA then some (low || p.lowA) else none

/-- The foreign-pulse check (Table IN-2). -/
def foreignB (p : PulseCheck) (x : InputSt) : Option Bool :=
  if x.clear ∧ x.highB then some (x.b.raw || !p.backB) else none

/-- The checks of one input at a pulse of its own source (R169 to R172): lane B's result and lane A's. -/
def ownCheck (i : Nat) (rB rA : Option Bool) (s : State) : State :=
  let failed := decide (rB = some false) || decide (rA = some false)
  let evald := rB.isSome || rA.isSome
  let first := decide ((input s i).failB = 0) && decide ((input s i).failA = 0)
  let s := modInput i (fun x => { x with
    failB := countFail rB x.failB
    failA := countFail rA x.failA
    foreign := if failed && first then 0 else x.foreign
    foreignFails := if failed then 0 else x.foreignFails
    passes := if failed then 0 else if evald && !x.byForeign then x.passes + 1 else x.passes }) s
  let x := input s i
  if failed ∧ (2 ≤ x.failB ∨ 2 ≤ x.failA) then
    let s := if inputFaulted s i then s else modInput i (fun x => { x with byForeign := false }) s
    if x.foreign ≠ 0 then inputFault 0x0102 i (x.foreign - 1) 0 s else inputFault 0x0101 i 0xFFFF 0 s
  else if !failed ∧ evald ∧ !x.byForeign ∧ 4 ≤ x.passes then gone 0x0102 i (gone 0x0101 i s)
  else s

/-- The check of one input at a pulse of another source `t` of its die (R169, R170). -/
def foreignCheck (t i : Nat) (r : Option Bool) (s : State) : State :=
  match r with
  | none => s
  | some true =>
    let s := modInput i (fun x => { x with
      foreignFails := if x.foreign = t + 1 then 0 else x.foreignFails
      passes := if x.byForeign && decide (x.named = t + 1) then x.passes + 1 else x.passes }) s
    if (input s i).byForeign ∧ 4 ≤ (input s i).passes then
      gone 0x0102 i (modInput i (fun x => { x with byForeign := false }) s) else s
  | some false =>
    let s := modInput i (fun x => { x with
      foreignFails := if x.foreign = t + 1 then x.foreignFails + 1 else 1
      foreign := t + 1
      passes := 0 }) s
    let x := input s i
    if 2 ≤ x.foreignFails ∧ x.failA = 0 ∧ x.failB = 0 ∧ mayFault s 0x0102 i then
      inputFault 0x0102 i t 0 (modInput i (fun x => { x with byForeign := true, named := t + 1 }) s)
    else s

/-- The checks of one input at a pulse of source `j`: none while they are suspended (R168, R171). -/
def lineCheck (j : Nat) (r : PulseReading) (i : Nat) (s : State) : State :=
  match inSource (confOf s) i with
  | none => s
  | some own =>
    let x := input s i
    let p := laterOf r i
    if !inputRuns s i ∨ inputSuspended s i then s
    else if own = j then ownCheck i (ownB x) (ownA (source s j).start s.time.now p x) s
    else foreignCheck j i (foreignB p x) s

/-- A failure of a check on source `p` starts the count of passes again, for `p` and for a source of its die whose
0x0204 names it (R172). -/
def restartPasses (p : Nat) (s : State) : State :=
  (siteSources (siteOf p)).foldl (fun a j =>
    modSource j (fun x => if j = p ∨ x.mate = p + 1 then { x with passes := 0 } else x) a) s

/-- The terminal check of source `t`, with the sources whose partner check failed at the same pulse
(R170, R172). -/
def terminalCheck (t : Nat) (ok : Bool) (partners : List Nat) (s : State) : State :=
  if ok then
    let s := partners.foldl (fun a p => restartPasses p a) (modSource t (fun x => { x with
      terminalFails := 0, partners := [], passes := x.passes + 1 }) s)
    let x := source s t
    if 4 ≤ x.passes then
      let s := if x.mate = 0 then s
        else gone 0x0204 (min t (x.mate - 1)) (modSource t (fun x => { x with mate := 0 }) s)
      gone 0x0202 t s
    else s
  else
    let n := (source s t).terminalFails + 1
    let both := ((source s t).partners.filter (fun p => partners.contains p)).filter (· ≠ t)
    let s := modSource t (fun x => { x with terminalFails := n, partners := partners }) s
    let s := (t :: partners).foldl (fun a p => restartPasses p a) s
    if n < 2 then s
    else match both with
      | p :: _ =>
        if condPresent s 0x0204 (min t p) then s
        else raise (report s 0x0204 (min t p) (max t p)) (modSource t (fun x => { x with mate := p + 1 }) s)
      | [] => if condPresent s 0x0202 t then s else fault 0x0202 t s

/-- Whether the partner check of source `p` is evaluated at a pulse of source `t`: another source of its die that is on
(Table IN-2). -/
def partnerOn (s : State) (t p : Nat) : Bool :=
  decide (p ≠ t) && decide (siteOf p = siteOf t) && sourceRuns s p && !(source s p).pulse
    && (decide ((source s p).status = 1) || decide ((source s p).status = 2))

/-- The line-too-slow test of R166. -/
def slowCheck (j : Nat) (s : State) : State :=
  let c := confOf s
  let bound := if srcMode c j = 2 then srcWmin c j else srcWmax c j
  let slow := decide (bound < 5 * (source s j).taus.foldl max 0)
  let s := modSource j (fun x => { x with
    slow := if slow then x.slow + 1 else 0, fastRun := if slow then 0 else x.fastRun + 1 }) s
  if 2 ≤ (source s j).slow ∧ !condPresent s 0x0203 j then fault 0x0203 j s
  else if 4 ≤ (source s j).fastRun then gone 0x0203 j s else s

/-- TEST_PULSE_EVALUATION (R165, R166, R169 to R172): the last sample tick of a pulse. The check of
the terminal comes before those of the inputs, which a fault of the source suspends (R171), and the test of the time
constant comes last. -/
def execTestPulseEvaluation (_f j : Nat) (r : PulseReading) (s : State) : Host.Outcome State Fault Refusal :=
  .next (if sourceRuns s j ∧ (source s j).pulse then
    let c := confOf s
    let x := source s j
    let s := advance (x.start + (x.cur - 1) * 1000) s
    let s := modSource j (fun x =>
      let taus := (min 1000 (r.tau.getD 1000) :: x.taus).take 8
      { x with
        pulse := false, taus := taus, width := nextWidth c j taus
        tau := match r.tau with
          | some v => min v 1000
          | none => 0xFFFF }) s
    let s := terminalCheck j r.terminalOk (r.partners.filter (partnerOn s j)) s
    slowCheck j ((siteInputs (siteOf j)).foldl (fun a i => lineCheck j r i a) s)
  else s)

/-- SOURCE_CURRENT_LIMIT (R160): the source is switched off; a further report revives the record. -/
def execSourceCurrentLimit (_f j : Nat) (s : State) : Host.Outcome State Fault Refusal :=
  .next (if sourceRuns s j ∧ ((source s j).status = 1 ∨ (source s j).status = 2) then
    fault 0x0201 j (modSource j (fun x => { x with status := 3, pulse := false, retry := false }) s)
  else s)

/-- SOURCE_RETRY (R160): one second after the shutdown the source is switched on once more, unless its supply has
tripped (R168). -/
def execSourceRetry (_f j : Nat) (s : State) : Host.Outcome State Fault Refusal :=
  .next (if sourceRuns s j ∧ (source s j).status = 3 ∧ !tpTripped s (siteOf j) then
    modSource j (fun x => { x with status := srcOn (confOf s) j, retry := true }) s
  else s)

/-- SOURCE_RETRY_CONDITION_GONE (R160): the source has run 10 ms without reaching its limit. -/
def execSourceRetryConditionGone (_f j : Nat) (s : State) : Host.Outcome State Fault Refusal :=
  .next (if sourceRuns s j ∧ (source s j).retry then
    gone 0x0201 j (modSource j (fun x => { x with retry := false }) s)
  else s)

end Sys2Proof.Machine
end

