-- ==== Sys2Proof/Machine/Pairs.lean ====
section
/-! DEFINITION. The pair table: discrepancy, holds, releases, reset presses and door units, in both lanes
(R184 to R215), and the filtered changes that drive them (R155, R195). -/

namespace Sys2Proof

/-- The other lane. -/
def Lane.other : Lane → Lane
  | .a => .b
  | .b => .a

/-- Whether a lane is lane B. -/
def Lane.isB : Lane → Bool
  | .a => false
  | .b => true

end Sys2Proof

namespace Sys2Proof.Machine

/-- A pair-table entry. -/
def pair (s : State) (e : Nat) : PairSt := tget {} s.pairs e
/-- Change an entry. -/
def modPair (e : Nat) (g : PairSt → PairSt) (s : State) : State := { s with pairs := tmod {} s.pairs e g }
/-- One lane's evaluation of an entry. -/
def pairLane (s : State) (l : Lane) (e : Nat) : PairLane :=
  match l with
  | .a => (pair s e).a
  | .b => (pair s e).b
/-- Change one lane's evaluation of an entry. -/
def modLane (l : Lane) (e : Nat) (g : PairLane → PairLane) (s : State) : State :=
  modPair e (fun p => match l with
    | .a => { p with a := g p.a }
    | .b => { p with b := g p.b }) s
/-- The evaluation tick that contains an instant (R218; log entry 91). -/
def tickOf (t : Nat) : Nat := t / 10000
/-- The end of the evaluation tick that contains a sample tick: the logical time of its results (R188, R218). -/
def tickEnd (t : Nat) : Nat := 10000 * tickOf t + 10000

/-! ### Channels (R185, R191, R226) -/

/-- Whether an entry has two channels. -/
def twoChan (c : Conf) (e : Nat) : Bool := (pairChan c e 2).isSome
/-- Whether the channels of an entry lie on different sites (R191). -/
def crossDie (c : Conf) (e : Nat) : Bool :=
  match pairChan c e 1, pairChan c e 2 with
  | some i, some j => decide (siteOf i ≠ siteOf j)
  | _, _ => false
/-- The site and signal that carry channel 2 of a cross-die entry to the die of channel 1 (R226). -/
def crossSignal (s : State) (e : Nat) : Option (Nat × Nat) :=
  match pairChan (confOf s) e 1 with
  | none => none
  | some i => ((fba s (siteOf i)).slots.find? (fun x =>
      (decide (x.ty = 0x10) || decide (x.ty = 0x11)) && decide (x.p0 = e) && decide (x.p1 ≠ 0xFF))).map
      (fun x => (x.p1, x.p2))
/-- The shared signal of channel 2 of a cross-die entry as the die of channel 1 holds it. -/
def crossOn (s : State) (e : Nat) : Bool :=
  match crossSignal s e, pairChan (confOf s) e 1 with
  | some (f, j), some i1 => bit (tget 0 (fba s (siteOf i1)).good f) j
  | _, _ => false
/-- Whether a channel is active in a lane (Table DC-1, R185). Lane B sees channel 2 of a cross-die entry as it took it
from its shared signal at the end of an evaluation tick (R191). -/
def chanOn (s : State) (l : Lane) (e ch : Nat) : Bool :=
  let c := confOf s
  match pairChan c e ch with
  | none => false
  | some i =>
    let own := if pairKind c e = 2 ∧ ch = 2 then !(laneIn s l i).on else (laneIn s l i).on
    match l with
    | .a => own
    | .b => if crossDie c e ∧ ch = 2 then (pair s e).signal2 else own
/-- Whether lane B counts the cross-die channel of an entry as faulty (R30, R226). -/
def crossBad (s : State) (e : Nat) : Bool :=
  match crossSignal s e, pairChan (confOf s) e 1 with
  | some (f, j), some i =>
    bit (tget 0 (fba s (siteOf i)).good f) (j + 1) || decide (3 ≤ tget 0 (fba s (siteOf i)).fails f)
  | _, _ => false
/-- The hold conditions of R193 but the sampling start, and the hold of an L2 record of the entry. -/
def heldOut (s : State) (l : Lane) (e : Nat) : Bool :=
  entryHeldByFault s e || (pairChans (confOf s) e).any (fun i => inputHolds s e i || inputForced s i)
    || (match l with
      | .a => false
      | .b => crossDie (confOf s) e && crossBad s e)
/-- T_disc of an entry in a lane in ns: 40 µs longer in lane B across dies (R191). -/
def discNs (c : Conf) (l : Lane) (e : Nat) : Nat :=
  let x := match l with
    | .a => 0
    | .b => if crossDie c e then 40 else 0
  (pairDisc c e + x) * 1000

/-! ### The state machine (R192, R193) -/

/-- One run of the machine of R192 at `t`. `held` is `heldOut`, `clr` that no 0x0109 stands. -/
def PairLane.next (two held clr a1 a2 : Bool) (t td : Nat) (x : PairLane) : PairLane :=
  let lead := fun (n : Nat) => if n = 1 then a1 else a2
  let lag := fun (n : Nat) => if n = 1 then a2 else a1
  if x.code = 0xF then x
  else if held ∨ x.starting then { x with code := 6, soft := x.soft && !held }
  else if !two then
    (if x.code = 6 ∧ a1 then x else { x with code := if a1 then 2 else 0 })
  else if x.code = 6 ∨ x.code = 4 ∨ x.code = 5 then
    (if !a1 ∧ !a2 ∧ (x.code ≠ 5 ∨ clr) then { x with code := 0 } else x)
  else if x.code = 0 then
    (if a1 ∧ a2 then { x with code := 2 }
    else if a1 ∨ a2 then { x with code := 1, lead := if a1 then 1 else 2, t0 := t }
    else x)
  else if x.code = 1 then
    (if t < x.t0 + td + 1000 then
      (if !lead x.lead then
        (if lag x.lead then { x with lead := 3 - x.lead, t0 := t } else { x with code := 0 })
      else if lag x.lead then { x with code := 2 } else x)
    else if lead x.lead then { x with code := 4 }
    else if lag x.lead then { x with lead := 3 - x.lead, t0 := t } else { x with code := 0 })
  else if x.code = 2 then
    (if !a1 ∧ !a2 then { x with code := 0 }
    else if !a1 ∨ !a2 then { x with code := 3, lead := if a1 then 2 else 1, t0 := t, tr := none }
    else x)
  else
    if x.t0 + td + 1000 ≤ t then { x with code := 5 }
    else if !lag x.lead then
      (if lead x.lead then { x with code := 1, t0 := x.tr.getD t } else { x with code := 0 })
    else { x with tr := if lead x.lead then x.tr.or (some t) else none }

/-- The state that the channels give at the end of a sampling-start hold (R193). -/
def PairLane.startEnd (two held a1 a2 : Bool) (t : Nat) (x : PairLane) : PairLane :=
  let y := { x with starting := false }
  if held ∨ x.soft = false then y
  else if !two then { y with code := if a1 then 2 else 0 }
  else if a1 ∧ a2 then { y with code := 2 }
  else if a1 ∨ a2 then { y with code := 1, lead := if a1 then 1 else 2, t0 := t }
  else { y with code := 0 }

/-! ### The end of the evaluation tick (R188, R189) -/

/-- What one lane of an entry shows when every change has taken effect. -/
def laneNow (s : State) (l : Lane) (e : Nat) : PairShow :=
  let x := pairLane s l e
  { code := x.code, release := x.release, latch := x.latch, closed := x.closed, pressed := chanOn s l e 1 }

/-- What one lane of an entry shows: a change shows from the end of its evaluation tick on. Lane A follows the same rule
at a fall (DEDUCED, log entry 101). -/
def laneShown (s : State) (l : Lane) (e : Nat) : PairShow :=
  if s.time.now < (pairLane s l e).mark then (pairLane s l e).was else laneNow s l e

/-- A change of the evaluation tick that ends at `te` begins: what the entry has shown so far is kept. -/
def stamp (l : Lane) (te e : Nat) (s : State) : State :=
  let w := laneNow s l e
  modLane l e (fun x => if te ≤ x.mark then x else { x with mark := te, was := w }) s

/-- The time of an entry's last change of state (Table DC-7 :0D), which shows from the end `te` of its evaluation tick. -/
def setLast (te e : Nat) (s : State) : State :=
  modPair e (fun p => { p with
    last := devAt s te, lastWas := if te ≤ p.lastMark then p.lastWas else p.last, lastMark := max te p.lastMark }) s

/-! ### Doors (R207 to R209) -/

/-- A door event of a lane for the Ledger, of logical time `te` (R209, Table LG-6). -/
def doorNote (l : Lane) (te code e v : Nat) (s : State) : State :=
  ledgerAt (devAt s te) { type := 3, rank := 3, code := code, data := [BitVec.ofNat 8 e, BitVec.ofNat 8 v, if l.isB then 0 else 1] } s

/-- Set or clear the egress latch of a door entry in a lane (R208). -/
def setLatch (l : Lane) (te e : Nat) (v : Bool) (s : State) : State :=
  if (pairLane s l e).latch = v then s
  else
    let s := modLane l e (fun x => { x with latch := v }) (stamp l te e s)
    doorNote l te (if v then 2 else 3) e (b2n v) (if v && l.isB then
      markDirty (modPair e (fun p => { p with egress := inc32 p.egress }) s) else s)

/-- The closed-and-locked status of a door entry follows its three conditions (R207). -/
def doorSettle (l : Lane) (te e : Nat) (s : State) : State :=
  let x := pairLane s l e
  let v := (pairLane s l (pairLinked (confOf s) e)).release && decide (x.code = 2) && !x.latch
  if x.closed = v then s
  else doorNote l te 1 e (b2n v) (modLane l e (fun x => { x with closed := v }) (stamp l te e s))

/-- The door entries that a linked entry serves. -/
def doorsOf (c : Conf) (e : Nat) : List Nat :=
  (usedEntries c).filter (fun d => decide (pairKind c d = 4) && decide (pairLinked c d = e))

/-! ### Presses (R199 to R206) -/

/-- The entries that a reset entry serves: interlocked pairs, and doors whose latch a press clears. -/
def servedEntries (c : Conf) (r : Nat) : List Nat :=
  (usedEntries c).filter (fun e => decide (pairReset c e = r)
    && (((decide (pairKind c e = 1) || decide (pairKind c e = 2)) && decide (pairMode c e ≠ 0))
      || (decide (pairKind c e = 4) && decide (pairMode c e = 1))))

/-- Whether a fault of Table IN-3 or DC-5 is active on an entry's channels (R199). -/
def chanFault (s : State) (e : Nat) : Bool :=
  (pairChans (confOf s) e).any (fun i => (actives s).any (fun a =>
    decide (codeClass a.code = 1) && (decide (a.source = i) || decide (a.second = i))))

/-- Whether a valid press of reset entry `r` that began at `b` releases entry `e` in a lane (R199). -/
def mayRelease (s : State) (l : Lane) (r e b : Nat) : Bool :=
  inRun s && decide (s.ctl.runSince ≤ b) && decide ((pairLane s l e).code = 2)
    && decide ((pairLane s l e).rise < b) && !chanFault s e && !(pair s r).stuck

/-- A press of release instant `t` releases an entry, or clears a door's latch, in a lane at the end of its evaluation tick
(R199, R208). -/
def giveRelease (l : Lane) (t e : Nat) (s : State) : State :=
  let c := confOf s
  let te := tickEnd t
  let s := modLane l e (fun x => { x with due := none }) s
  if pairKind c e = 4 then doorSettle l te e (setLatch l te e false s)
  else
    let s := modLane l e (fun x => { x with release := true, need := false }) (stamp l te e s)
    (doorsOf c e).foldl (fun a d => doorSettle l te d a) s

/-- A press that acts on an entry in the evaluation tick that ends at `te`, or before, takes effect in a lane (R199). -/
def takeDue (l : Lane) (te e : Nat) (s : State) : State :=
  match (pairLane s l e).due with
  | some t => if tickEnd t ≤ te then giveRelease l t e s else s
  | none => s

/-- A release given by a press is withdrawn in a lane (R206). -/
def withdraw (l : Lane) (e : Nat) (s : State) : State :=
  let c := confOf s
  let te := tickEnd s.time.now
  if pairKind c e = 4 then doorSettle l te e (setLatch l te e true s)
  else
    let s := modLane l e (fun x => { x with release := false, need := true, due := none }) (stamp l te e s)
    (doorsOf c e).foldl (fun a d => doorSettle l te d a) s

/-- One more press discarded, or discrepancy, in both lanes' counter (Table DC-7 :0E). -/
def countPress (e : Nat) (s : State) : State :=
  modPair e (fun p => { p with
    a := { p.a with count := inc32 p.a.count }, b := { p.b with count := inc32 p.b.count } }) s

/-- A press of reset entry `r` is discarded: it counts once (R202). -/
def losePress (r : Nat) (s : State) : State :=
  if (pairLane s .b r).counted then s else countPress r (modLane .b r (fun x => { x with counted := true }) s)

/-- Whether an entry was released at or after a time in a lane. -/
def releasedSince (s : State) (l : Lane) (e b : Nat) : Bool :=
  match (pairLane s l e).valid with
  | some t => decide (b ≤ t)
  | none => false

/-- The C die compares the two lanes' decisions on a press (R206). `b` is the beginning of the press in lane `l`, `ok`
whether lane `l` found it valid. -/
def comparePress (l : Lane) (r b : Nat) (ok : Bool) (s : State) : State :=
  let c := confOf s
  let okO := releasedSince s l.other r b
  let bad := (servedEntries c r).filter (fun e => releasedSince s .a e b ≠ releasedSince s .b e b)
  if ok = okO ∧ bad = [] then s
  else
    let s := bad.foldl (fun a e => withdraw .a e (withdraw .b e a)) s
    let s := modPair r (fun p => { p with a := { p.a with valid := none }, b := { p.b with valid := none } }) s
    faultOnce 0x010D ((pairChan c r 1).getD 0xFFFF) (losePress r s)

/-- The comparison of a press that has ended in lane `l`, at the end of an evaluation tick: once the other lane has ended
it too (R206). -/
def judgePress (l : Lane) (r : Nat) (s : State) : State :=
  match (pairLane s l r).judged with
  | none => s
  | some (b, ok) =>
    let o := pairLane s l.other r
    if o.press.isSome ∨ max o.c1 o.c2 ≤ b then s
    else comparePress l r b ok (modPair r (fun p => { p with
      a := { p.a with judged := none }, b := { p.b with judged := none } }) s)

/-- What the end `te` of an evaluation tick brings to the entries of a site: presses act, and the lanes are compared (R199,
R206). -/
def pressesEnd (te : Nat) (es : List Nat) (s : State) : State :=
  let s := es.foldl (fun a e => takeDue .a te e (takeDue .b te e a)) s
  es.foldl (fun a r => judgePress .a r (judgePress .b r a)) s

/-- The end of a press of reset entry `r` in a lane at `t` (R201, R202, R199): a valid one acts at the end of the evaluation
tick. A press counts as discarded when it is short, begins or ends outside RUN, or releases nothing. Where the lanes judge
it separately, lane B counts it (DESIGN CHOICE, log entry 99). -/
def endPress (l : Lane) (r t : Nat) (s : State) : State :=
  let c := confOf s
  let x := pairLane s l r
  match x.press with
  | none => s
  | some b =>
    let d := (t - b) / 1000
    let ok := !x.discard && decide (50000 ≤ d) && decide (d ≤ pairTmax c r * 1000)
    let s := modLane l r (fun x => { x with
      press := none, discard := false, counted := false, valid := if ok then some t else x.valid
      judged := some (b, ok) }) s
    let may := (servedEntries c r).filter (fun e => mayRelease s l r e b)
    let s := if ok then may.foldl (fun a e => modLane l e (fun x => { x with due := some t, valid := some t }) a) s else s
    let lost := !x.discard && (!ok || !inRun s || decide (b < s.ctl.runSince)
      || (decide (servedEntries c r ≠ []) && decide (may = [])))
    if l.isB && lost then losePress r s else s

/-! ### What follows from a change of state -/

/-- The codes of 0x010A and 0x0109 for an entry: source and second (R194). -/
def discSource (c : Conf) (e : Nat) (x : PairLane) : Nat × Nat :=
  if x.code = 4 then ((pairChan c e 1).getD 0xFFFF, (pairChan c e 2).getD 0xFFFF)
  else ((pairChan c e (3 - x.lead)).getD 0xFFFF, (pairChan c e x.lead).getD 0xFFFF)

/-- A signal that falls in the evaluation tick of a release instant discards the press (R199). -/
def fallPress (l : Lane) (e t : Nat) (s : State) : State :=
  if (pairLane s l e).due.map tickOf = some (tickOf t) then
    let s := modLane l e (fun x => { x with due := none, valid := none }) s
    if l.isB then losePress (pairReset (confOf s) e) s else s
  else s

/-- The signal of an entry rises or falls in a lane at sample tick `t`, of an evaluation tick that ends at `te` (R198 to
R201, R207, R208). -/
def signalMoved (l : Lane) (e t te : Nat) (up : Bool) (s : State) : State :=
  let c := confOf s
  let k := pairKind c e
  if k = 1 ∨ k = 2 then
    let m := pairMode c e
    if up then modLane l e (fun x => { x with rise := te, release := m == 0 || (m == 1 && !x.need) }) s
    else fallPress l e t (modLane l e (fun x => { x with release := false, need := x.need || m == 2 }) s)
  else if k = 3 then
    (if up then modLane l e (fun x => { x with rise := t, press := some t, discard := false }) s
    else
      let i := (pairChan c e 1).getD 0xFFFF
      if (pairLane s l.other e).code ≠ 2 ∧ condPresent s 0x010C i then gone 0x010C i s else s)
  else
    if up then
      let s := modLane l e (fun x => { x with rise := te }) s
      if pairMode c e = 0 then setLatch l te e false s else s
    else fallPress l e t (setLatch l te e true s)

/-- The difference of the last completed transition in µs, channel 2 less channel 1 (Table DC-7 :0C): the later change came
at `t`, and the leading channel's at t0 of the machine. -/
def transDiff (two : Bool) (t : Nat) (old x : PairLane) : Option Int :=
  if !two then none
  else if (old.code = 0 ∧ x.code = 2) ∨ (old.code = 2 ∧ x.code = 0) then some 0
  else if (old.code = 1 ∧ x.code = 2) ∨ (old.code = 3 ∧ (x.code = 0 ∨ x.code = 1)) then
    some (if old.lead = 1 then (((t - old.t0) / 1000 : Nat) : Int) else -(((t - old.t0) / 1000 : Nat) : Int))
  else none

/-- Whether an entry is a one-channel reset, whose shown state is that of its channel (Table DC-7 :0A). -/
def oneReset (s : State) (e : Nat) : Bool := decide (pairKind (confOf s) e = 3) && !twoChan (confOf s) e

/-- The time of an entry's last change of state, and the difference of a completed transition, which lane A measures
(Table DC-7 :0C and :0D). What a one-channel reset shows changes with its channel. -/
def noteMove (l : Lane) (e t te : Nat) (old x : PairLane) (s : State) : State :=
  let s := if oneReset s e ∧ old.code ≠ 0xF ∧ x.code ≠ 0xF then s else setLast te e s
  modPair e (fun p => { p with diff := (transDiff (twoChan (confOf s) e && !l.isB) t old x).getD p.diff }) s

/-- A discrepancy and a hold leave a need for a valid press (R194, R199). -/
def noteNeed (l : Lane) (e code : Nat) (s : State) : State :=
  if code = 4 ∨ code = 5 ∨ code = 6 then modLane l e (fun y => { y with need := true }) s else s

/-- The pair signal follows a change of state; lane B's changes are Ledger records where the entry asks for them (R198,
R210). -/
def signalChange (l : Lane) (e t te : Nat) (old x : PairLane) (s : State) : State :=
  if (x.code = 2) = (old.code = 2) then s
  else
    let s := signalMoved l e t te (x.code == 2) s
    if l.isB ∧ pairKind (confOf s) e ≤ 3 ∧ bit (pairCfg (confOf s) e 9 0) 0 then
      ledgerAt (devAt s te) { type := 4, rank := 5, code := 2, data := le 2 e ++ le 1 (b2n (x.code == 2)) } s
    else s

/-- A press of a reset entry ends at a consistent inactive transition (R201). A hold discards it, of a one-channel reset
too, whose next press starts with a new closing (DESIGN CHOICE, log entry 99). -/
def pressAfter (l : Lane) (e t : Nat) (old x : PairLane) (s : State) : State :=
  if pairKind (confOf s) e ≠ 3 then s
  else if x.code = 6 then modLane l e (fun y => { y with press := none }) s
  else if (old.code = 2 ∨ old.code = 3) ∧ (x.code = 0 ∨ x.code = 1) then endPress l e t s
  else s

/-- DISC_ON is left to IDLE, at once or through a hold (R194; log entry 48). -/
def discLeft (l : Lane) (e : Nat) (old x : PairLane) (s : State) : State :=
  let i := (pairChan (confOf s) e 1).getD 0xFFFF
  if (old.code = 4 ∨ old.code = 6) ∧ x.code = 0 ∧ (pairLane s l.other e).code ≠ 4 ∧ condPresent s 0x010A i then
    gone 0x010A i s
  else s

/-- One more closing of a door counts in lane B (R209). -/
def countDoor (l : Lane) (d code : Nat) (s : State) : State :=
  if l.isB ∧ code = 2 then markDirty (modPair d (fun p => { p with cycles := inc32 p.cycles }) s) else s

/-- The door units after a change: the entry itself, and the doors it is linked to (R207 to R209). -/
def doorsAfter (l : Lane) (e te code : Nat) (s : State) : State :=
  let s := if pairKind (confOf s) e = 4 then doorSettle l te e s else s
  (doorsOf (confOf s) e).foldl (fun a d => doorSettle l te d (countDoor l d code (doorNote l te 4 d code a))) s

/-- What a change of state of an entry in a lane changes: the signal, presses and doors. The change came at sample tick
`t` and its results have the logical time `te`. -/
def afterMove (l : Lane) (e t te : Nat) (old : PairLane) (s : State) : State :=
  let x := pairLane s l e
  if x.code = old.code then s
  else
    let s := noteNeed l e x.code (noteMove l e t te old x s)
    let s := pressAfter l e t old x (signalChange l e t te old x s)
    doorsAfter l e te x.code (discLeft l e old x s)

/-- A discrepancy found in a lane at sample tick `t` decides for both (R186, R190, R194). It discards a press under way
of a two-channel reset, which does not count (DESIGN CHOICE, log entry 73). -/
def discFound (l : Lane) (e t te : Nat) (s : State) : State :=
  let c := confOf s
  let x := pairLane s l e
  let o := pairLane s l.other e
  let src := discSource c e x
  let d : Int := (pairDisc c e + 1 : Nat)
  let s := if o.code = 6 ∨ o.code = 0xF ∨ o.code = x.code then s
    else afterMove l.other e t te o (modLane l.other e (fun y => { y with
      code := x.code, lead := x.lead, press := none }) (stamp l.other te e s))
  let s := modPair e (fun p => { p with diff := if x.lead = 1 then d else -d }) (setLast te e s)
  let s := modLane l e (fun y => { y with press := none }) s
  let code := if x.code = 4 then 0x010A else 0x0109
  if condPresent s code src.1 then s
  else raise (reportAt s t code src.1 src.2) (if pairKind c e = 3 then s else countPress e s)

/-- The consequences of a run at `t` that took a lane of an entry from `old` to its present state. A discrepancy has the
time of its deadline (R187, R340). -/
def afterRun (l : Lane) (e t te : Nat) (old : PairLane) (s : State) : State :=
  let x := pairLane s l e
  let s := afterMove l e t te old s
  if x.code ≠ old.code ∧ (x.code = 4 ∨ x.code = 5) then discFound l e (min t (old.t0 + discNs (confOf s) l e + 1000)) te s
  else s

/-- The condition of a 0x0109 of an entry: gone when both channels are inactive together, and present again when one
becomes active before the record is cleared (R194), but not while VFLD_TP forces a channel (R168). -/
def discCondition (e : Nat) (s : State) : State :=
  match pairChan (confOf s) e 1, pairChan (confOf s) e 2 with
  | some i, some j =>
    let on := [Lane.a, Lane.b].any (fun m => chanOn s m e 1 || chanOn s m e 2)
    [(i, j), (j, i)].foldl (fun a p =>
      if (actives a).any (fun x => decide (x.code = 0x0109) && decide (x.source = p.1) && decide (x.second = p.2)) then
        if on then (if condPresent a 0x0109 p.1 || tpForced a i || tpForced a j then a else raise (report a 0x0109 p.1 p.2) a)
        else if condPresent a 0x0109 p.1 then gone 0x0109 p.1 a else a
      else a) s
  | _, _ => s

/-- The signal of a reset entry in a lane: its channel's active state, or the pair signal of two channels (R201). -/
def resetOn (s : State) (l : Lane) (e : Nat) : Bool :=
  if twoChan (confOf s) e then decide ((pairLane s l e).code = 2) else chanOn s l e 1

/-- Since when a reset entry's signal has been 0 (R204). -/
def noteZero (l : Lane) (e t : Nat) (s : State) : State :=
  if pairKind (confOf s) e = 3 then
    let on := resetOn s l e
    modLane l e (fun x => { x with zero := if on then none else x.zero.or (some t) }) s
  else s

/-- The sample ticks of an entry up to `t` in one lane (R192); `te` is the logical time of the results. -/
def pairRunAt (l : Lane) (t te e : Nat) (s : State) : State :=
  let c := confOf s
  let old := pairLane s l e
  let clr := (pairChans c e).all (fun i => !faultActive s 0x0109 i)
  let go := PairLane.next (twoChan c e) (heldOut s l e) clr (chanOn s l e 1) (chanOn s l e 2) t (discNs c l e)
  let s := if (go old).code = old.code then s else stamp l te e s
  let s := modLane l e go s
  discCondition e (noteZero l e t (afterRun l e t te old s))

/-- The same with the end of the evaluation tick that contains `t` (R188, R189). -/
def pairRun (l : Lane) (t e : Nat) (s : State) : State := pairRunAt l t (tickEnd t) e s

/-- The entries that have an input as a channel. -/
def entriesOf (c : Conf) (i : Nat) : List Nat :=
  (usedEntries c).filter (fun e => (pairChans c e).contains i)

/-- The entries that lane B of a site evaluates: those with channel 1 on it (R215). -/
def siteEntries (c : Conf) (f : Nat) : List Nat :=
  (usedEntries c).filter (fun e => match pairChan c e 1 with
    | some i => decide (siteOf i = f)
    | none => false)

/-- The entries with a channel on a site. -/
def touching (c : Conf) (f : Nat) : List Nat :=
  (usedEntries c).filter (fun e => (pairChans c e).any (fun i => decide (siteOf i = f)))

/-- Run a list of entries in both lanes. -/
def pairsRun (l : List Nat) (t : Nat) (s : State) : State :=
  l.foldl (fun a e => pairRun .a t e (pairRun .b t e a)) s

/-- The channel times that a change of an input at `t` sets in its entries (R185), and the time of the change that a
one-channel reset shows. -/
def stampChans (l : Lane) (i t : Nat) (s : State) : State :=
  let c := confOf s
  (entriesOf c i).foldl (fun a e =>
    let a := if oneReset a e ∧ (pairLane a l e).code ≠ 0xF then setLast (tickEnd t) e a else a
    modLane l e (fun x => if pairChan c e 1 = some i then { x with c1 := t } else { x with c2 := t }) a) s

/-- A change of an input in a lane at `t` begins: its entries keep what they have shown so far. -/
def stampEntries (l : Lane) (i t : Nat) (s : State) : State :=
  (entriesOf (confOf s) i).foldl (fun a e => stamp l (tickEnd t) e a) s

/-- The samples a run of an input needs for its change: the filter time, or towards OFF the tolerance of an OSSD input and
one more (R155, R195). -/
def needed (s : State) (l : Lane) (i : Nat) : Nat :=
  let c := confOf s
  if bit (inFlags c i) 2 ∧ (laneIn s l i).on then inTol c i + 1 else inFilter c i

/-- Whether a run of an input in a lane reaches its count in the very sample tick `t`. -/
def dueAt (s : State) (l : Lane) (t i : Nat) : Bool :=
  inputRuns s i && !inputForced s i && runDone s l i t (needed s l i) && !runDone s l i (t - 1000) (needed s l i)

/-- The changes of the other channels of some entries that fall in the sample tick `t`: the machine sees all the changes
of a tick together (R192). -/
def dueChans (l : Lane) (t : Nat) (es : List Nat) (s : State) : State :=
  (es.flatMap (pairChans (confOf s))).foldl (fun a i =>
    if dueAt a l t i then stampChans l i t (filterChange l i t (stampEntries l i t a)) else a) s

/-- A change of the filtered state of an input in a lane, with the entries at the sample tick before and at its own. Lane B
of a cross-die entry sees channel 2 by its shared signal only (R191). -/
def changeInput (l : Lane) (i t : Nat) (g : State → State) (s : State) : State :=
  let es := entriesOf (confOf s) i
  let s := es.foldl (fun a e => pairRun l (t - 1000) e a) s
  let s := dueChans l t es (stampChans l i t (g (stampEntries l i t s)))
  es.foldl (fun a e => pairRun l t e a) s

/-- FILTERED_CHANGE (R155, R157, R179, R185, R192): the run of an input reaches N samples in one lane. -/
def execFilteredChange (_f i : Nat) (l : Lane) (t : Nat) (s : State) : Host.Outcome State Fault Refusal :=
  let s := advance t s
  let c := confOf s
  .next (if inputRuns s i ∧ !inputForced s i ∧ runDone s l i t (inFilter c i)
      ∧ !(bit (inFlags c i) 2 ∧ (laneIn s l i).on) then
    changeInput l i t (filterChange l i t) s
  else s)

/-- OSSD_OFF (R195, R196): the (tol + 1)th consecutive LOW sample turns an OSSD input OFF. -/
def execOssdOff (_f i : Nat) (l : Lane) (t : Nat) (s : State) : Host.Outcome State Fault Refusal :=
  let s := advance t s
  let c := confOf s
  .next (if inputRuns s i ∧ !inputForced s i ∧ bit (inFlags c i) 2 ∧ (laneIn s l i).on
      ∧ runDone s l i t (inTol c i + 1) then
    changeInput l i t (filterChange l i t) s
  else s)

/-- DISCREPANCY_DEADLINE (R187, R192, R194): the sample tick t0 + T_disc + 1 µs. -/
def execDiscrepancyDeadline (e : Nat) (l : Lane) (s : State) : Host.Outcome State Fault Refusal :=
  let x := pairLane s l e
  .next (if evaluating s ∧ pairKind (confOf s) e ≠ 0 ∧ (x.code = 1 ∨ x.code = 3) then
    let t := x.t0 + discNs (confOf s) l e + 1000
    pairRun l t e (dueChans l t [e] (advance t s))
  else s)

/-- SAMPLING_START_HOLD_END (R193, R205): N sample ticks after the start the entry takes the state that its
channels give. A reset button found closed is stuck. -/
def execSamplingStartHoldEnd (e : Nat) (l : Lane) (t : Nat) (s : State) : Host.Outcome State Fault Refusal :=
  let s := advance t s
  let c := confOf s
  let old := pairLane s l e
  .next (if evaluating s ∧ pairKind c e ≠ 0 ∧ old.starting then
    let a1 := chanOn s l e 1
    let a2 := chanOn s l e 2
    let s := modLane l e (PairLane.startEnd (twoChan c e) (heldOut s l e) a1 a2 t) (stamp l (tickEnd t) e s)
    let s := pairRun l t e (afterRun l e t (tickEnd t) old s)
    let i := (pairChan c e 1).getD 0xFFFF
    if pairKind c e = 3 ∧ resetOn s l e ∧ !(pair s e).stuck then
      fault 0x010B i (modPair e (fun p => { p with stuck := true }) s)
    else s
  else s)

/-- RESET_PRESS_OVERLONG (R203): the button is still closed at T_max + 1 µs. -/
def execResetPressOverlong (e : Nat) (l : Lane) (s : State) : Host.Outcome State Fault Refusal :=
  let c := confOf s
  let x := pairLane s l e
  .next (match x.press with
  | some b =>
    if evaluating s ∧ pairKind c e = 3 ∧ x.code = 2 ∧ !x.discard then
      let s := advance (b + (pairTmax c e * 1000 + 1) * 1000) s
      let s := modLane l e (fun x => { x with discard := true }) s
      let i := (pairChan c e 1).getD 0xFFFF
      if condPresent s 0x010C i then s else fault 0x010C i s
    else s
  | none => s)

/-- RESET_BUTTON_STUCK (R204): the button is still closed at 10 × T_max + 1 µs. -/
def execResetButtonStuck (e : Nat) (s : State) : Host.Outcome State Fault Refusal :=
  let c := confOf s
  .next (match (pair s e).b.press.or (pair s e).a.press with
  | some b =>
    if evaluating s ∧ pairKind c e = 3 ∧ !(pair s e).stuck then
      fault 0x010B ((pairChan c e 1).getD 0xFFFF)
        (modPair e (fun p => { p with stuck := true })
          (advance (b + (10 * pairTmax c e * 1000 + 1) * 1000) s))
    else s
  | none => s)

/-- RESET_STUCK_LIFT (R204): the button's signal has been 0 in both lanes for 1,000 ms (log entry 23). -/
def execResetStuckLift (e : Nat) (s : State) : Host.Outcome State Fault Refusal :=
  .next (match (pair s e).a.zero, (pair s e).b.zero with
  | some ta, some tb =>
    if (pair s e).stuck ∧ evaluating s then
      gone 0x010B ((pairChan (confOf s) e 1).getD 0xFFFF)
        (modPair e (fun p => { p with stuck := false }) (advance (max ta tb + second) s))
    else s
  | _, _ => s)

/-- Whether an entry awaits a press: bit 4 of Table DC-7 :0B. Its signal is 1, and a press would release it or clear its
latch (DEDUCED from Table DC-8, log entry 74). -/
def awaits (s : State) (e : Nat) : Bool :=
  let c := confOf s
  let x := laneShown s .b e
  decide (x.code = 2) && (((decide (pairKind c e = 1) || decide (pairKind c e = 2)) && !x.release && decide (pairMode c e ≠ 0))
    || (decide (pairKind c e = 4) && x.latch && decide (pairMode c e = 1)))

/-! ### Forcing by a supply (R159, R168) -/

/-- An input is forced OFF at `t`; in a lane where it was on, its channels have changed. -/
def forceInput (i t : Nat) (s : State) : State :=
  let s' := forceOne i t (stampEntries .a i t (stampEntries .b i t s))
  let s' := if (input s i).b.on then stampChans .b i t s' else s'
  if (input s i).a.on then stampChans .a i t s' else s'

/-- Inputs are forced OFF by a supply: both lanes' filtered states fall, and their entries are held. -/
def forceInputs (l : List Nat) (f : Nat) (s : State) : State :=
  let t := s.time.now
  let s := l.foldl (fun a i => forceInput i t a) s
  pairsRun (touching (confOf s) f) t s

/-- A forcing ends: the filters start from OFF and the sampling of the inputs restarts (R159, R193). -/
def unforceInputs (l : List Nat) (f : Nat) (s : State) : State :=
  let t := s.time.now
  let c := confOf s
  let s := l.foldl (fun a i => if inputForced a i then a else unforceOne i t a) s
  let es := (touching c f).filter (fun e => (pairChans c e).any (fun i => l.contains i))
  let s := es.foldl (fun a e => modPair e (fun p => { p with
    a := { p.a with starting := p.a.starting || decide (p.a.code ≠ 0xF) }
    b := { p.b with starting := p.b.starting || decide (p.b.code ≠ 0xF) } }) a) s
  pairsRun es t s

end Sys2Proof.Machine
end

