-- ==== Sys2Proof/Machine/Drivers.lean ====
section
/-! DEFINITION. The drivers of outputs, returns and brakes as the two lanes command them, and what is learned
of a contactor (R22, R24, R25, R63, R242, R264, R270, R285, R337). -/

namespace Sys2Proof.Machine

/-- A brake channel. -/
def brake (s : State) (el : Nat) : BrakeSt := tget {} s.outs.brakes el
/-- Change a brake channel. -/
def modBrake (el : Nat) (g : BrakeSt → BrakeSt) (s : State) : State :=
  { s with outs := { s.outs with brakes := tmod {} s.outs.brakes el g } }
/-- The readback and test fields of an output, return or brake. -/
def elem (s : State) (el : Nat) : OutSt := if isBrake el then (brake s el).o else tget {} s.outs.elems el
/-- Change them. -/
def modElem (el : Nat) (g : OutSt → OutSt) (s : State) : State :=
  if isBrake el then modBrake el (fun b => { b with o := g b.o }) s
  else { s with outs := { s.outs with elems := tmod {} s.outs.elems el g } }
/-- What is learned of an output's contactor. -/
def learn (s : State) (el : Nat) : Learn := tget {} s.outs.learn el
/-- Change it; the parameter backup takes it later (R271). -/
def modLearn (el : Nat) (g : Learn → Learn) (s : State) : State :=
  markDirty { s with outs := { s.outs with learn := tmod {} s.outs.learn el g } }
/-- What is learned of a brake. -/
def brakeLearn (s : State) (el : Nat) : BrakeLearn := tget {} s.outs.brakeLearn el
/-- Change it. -/
def modBrakeLearn (el : Nat) (g : BrakeLearn → BrakeLearn) (s : State) : State :=
  markDirty { s with outs := { s.outs with brakeLearn := tmod {} s.outs.brakeLearn el g } }
/-- A group supply. -/
def supply (s : State) (src : Nat) : Supply := tget {} s.power.supplies src
/-- Whether a group supply is present and not tripped (Table FB-2). -/
def supplyOk (s : State) (src : Nat) : Bool := decide ((supply s src).status = 1) || decide ((supply s src).status = 2)

/-- Whether an element exists, on a site that the image names (R5), and is in use. -/
def elUsed (s : State) (el : Nat) : Bool :=
  (isOutput el || isReturn el || isBrake el) && populated s (siteOf el) && siteNamed s (siteOf el) && decide (elMode (confOf s) el ≠ 0)

/-- Whether a supply lets an element conduct: a return needs none (R63, R263). -/
def supplied (s : State) (el : Nat) : Bool := isReturn el || supplyOk s (groupSupply el)

/-- Whether the reaction to a fault holds an element off: one in effect, or one whose lifting waits for the
next evaluation tick (R337, R354). -/
def heldOff (s : State) (el : Nat) : Bool := forcedOff s el || bit (fba s (siteOf el)).forced (elBit el)

/-- Whether lane B's side is held off: by a reaction, or by the F die's monitor, which opens the high sides and the lane B
switches (R33). -/
def heldB (s : State) (el : Nat) : Bool := heldOff s el || (island s (siteOf el)).dieStopped

/-- Whether lane A's side is held off: by a reaction, or by the island's monitor, which opens the series gates, the lane A
switches and the low sides (R33). -/
def heldA (s : State) (el : Nat) : Bool := heldOff s el || (island s (siteOf el)).islandStopped

/-- Lane B closes the switch of an element: it demands it in RUN, nothing holds its side off and its supply
is present (R22, R220, R263). -/
def driveB (s : State) (el : Nat) : Bool :=
  inRun s && elUsed s el && bit (fba s (siteOf el)).demands (elBit (setLow (confOf s) el))
    && !heldB s el && supplied s el

/-- Lane A closes the switch of an element: the island's enable in effect, unless its side is held off (R22, R23,
R33). -/
def driveA (s : State) (el : Nat) : Bool :=
  inRun s && elUsed s el && bit (island s (siteOf el)).word (elBit (setLow (confOf s) el)) && !heldA s el

/-- Whether an element is on: both lanes demand it (R22, R24, R25). -/
def elOn (s : State) (el : Nat) : Bool := driveA s el && driveB s el

/-- Whether both switches of an element are open. -/
def elOff (s : State) (el : Nat) : Bool := !driveA s el && !driveB s el

/-! ### Learning of drop-outs (R270) -/

/-- The mean of a list of times, rounded down; 0 of none. -/
def meanOf (l : List Nat) : Nat := if l = [] then 0 else l.foldl (· + ·) 0 / l.length

/-- Whether the recent mean has left the threshold of a learned value. -/
def drifted (thr : Nat) (x : Learn) : Bool :=
  decide (x.learned ≠ 0) && decide (x.learned * thr < ndist (meanOf x.last16) x.learned * 100)

/-- A drop-out of `d` µs enters the learning. -/
def Learn.add (d : Nat) (x : Learn) : Learn :=
  let n := if x.n < 64 then x.n + 1 else x.n
  let total := if x.n < 64 then x.total + d else x.total
  let learned := if x.n < 64 ∧ n = 64 then total / 64 else x.learned
  let last := (d :: x.last16).take 16
  { x with
    count := inc32 x.count, n := n, total := total, learned := learned, last16 := last
    drift := if learned = 0 then x.drift else max x.drift (min 65535 (ndist (meanOf last) learned * 1000 / learned)) }

/-- A drop-out of an output's contactor is reported (R270): the drift warning is raised or goes. -/
def learnDrop (el d : Nat) (s : State) : State :=
  let s := modLearn el (Learn.add d) s
  if drifted (driftPct (confOf s) el) (learn s el) then
    (if condPresent s 0x030F el then s else fault 0x030F el s)
  else if condPresent s 0x030F el then gone 0x030F el s else s

/-! ### Off for a fault, and tests -/

/-- A dark or light test under way is abandoned (R256, R261). -/
def dropTest (el : Nat) (s : State) : State := if (elem s el).test = 0 then s else modElem el (fun x => { x with test := 0 }) s

/-- Whether an output can be light tested as far as its return and its supply go: the return of a PM output is open, for
every member of its set, and the group supply is present (R261, R263; DESIGN CHOICE where another output has the return
conduct, log entry 103). -/
def lightFree (s : State) (el : Nat) : Bool :=
  supplied s el && (setMembers (confOf s) el).all (fun q => (outReturn (confOf s) q).all (fun m => elOff s m))

/-- What has to follow once an element's switches may have moved: a test whose demand changed is abandoned,
the switching is counted and recorded, and conditions that need a conducting element go (R252, R253,
R256, R261, R265, R285). `t` is the logical time; the on time counts in operating time (R463). -/
def elemMoved (t el : Nat) (s : State) : State :=
  let c := confOf s
  let x := elem s el
  let on := elOn s el
  let s := if (x.test = 1 ∧ !on) ∨ (x.test = 2 ∧ (driveA s el ∨ driveB s el ∨ !lightFree s el)) then dropTest el s else s
  let s := if on = x.on then s
    else
      let op := s.time.opNs + (t - s.time.now)
      let s := modElem el (fun x => { x with on := on, since := if on then op else x.since }) s
      let s := if isOutput el then
          modLearn el (fun y =>
            if on then { y with ons := inc32 y.ons } else { y with onTime := y.onTime + (op - x.since) }) s
        else s
      if isOutput el ∧ bit (outFlags c el) 2 then
        ledgerPut { type := 4, rank := 5, source := el, code := 4, data := le 2 el ++ le 1 (b2n on) } s
      else s
  let s := if !on ∧ condPresent s 0x0307 el then gone 0x0307 el s else s
  if !on ∧ condPresent s 0x0309 el then gone 0x0309 el s else s

/-- The same for every element in use of a site. -/
def siteMoved (t f : Nat) (s : State) : State :=
  ((siteElems f).filter (elUsed s)).foldl (fun a el => elemMoved t el a) s

end Sys2Proof.Machine
end

