-- ==== Sys2Proof/Machine/Blocks.lean ====
section
/-! DEFINITION. The block library of Table FB-3: what one slot does in one evaluation window (R217, R219,
R222 to R234, R269, R278). Times are in µs of logical time. -/

namespace Sys2Proof.Machine

/-! ### Nets (Table FB-2) -/

/-- What a source net of site `f` carries when it is latched (Table FB-2). -/
def sourceNet (s : State) (f n : Nat) : Bool :=
  let inp := fun (i : Nat) => elemAt f i
  let dead := fun (i : Nat) => decide (inType (confOf s) (inp i) = 0) || inputFaulty s (inp i)
  if n = 1 then true
  else if n = 2 then inRun s
  else if n = 3 then inRun s && !(fba s f).wasRun
  else if 4 ≤ n ∧ n ≤ 6 then supplyOk s (elemAt f (0x70 + (n - 4)))
  else if 0x10 ≤ n ∧ n < 0x30 then !dead (n - 0x10) && (laneIn s .b (inp (n - 0x10))).on
  else if 0x30 ≤ n ∧ n < 0x50 then !dead (n - 0x30) && !(laneIn s .b (inp (n - 0x30))).on
  else if 0x50 ≤ n ∧ n < 0x70 then inputFaulty s (inp (n - 0x50))
  else false

/-- The latch phase takes the source nets of a site onto both rails (R216, R218). -/
def latchNets (f : Nat) (s : State) : State :=
  let v := (upto 0x70).foldl (fun v n => if sourceNet s f n then v + 2 ^ n else v) 0
  modFba f (fun a => { a with nets := v, netsC := v }) s

/-- The value of a net of site `f`: a source net as latched, a slot's output as computed (R219). -/
def netVal (s : State) (f n : Nat) : Bool :=
  if n < 0x70 then bit (fba s f).nets n
  else if 0x1000 ≤ n ∧ n < 0x1800 then bit (tget 0 (fba s f).outs ((n - 0x1000) / 4)) ((n - 0x1000) % 4)
  else false

/-- Input `k` of a slot. -/
def slotIn (s : State) (f : Nat) (x : Slot) (k : Nat) : Bool := netVal s f (x.ins.getD k 0)

/-- Raise a fault that the sequencer finds in a tick of logical time `te` µs (R340). -/
def faultAt (te code src : Nat) (s : State) : State := raise (reportAt s (1000 * te) code src) s

/-- The state of a block. -/
def blk (s : State) (f n : Nat) : Blk := tget {} (fba s f).blocks n
/-- Write the state of a block. -/
def setBlk (f n : Nat) (b : Blk) (s : State) : State := modFba f (fun a => { a with blocks := tset {} a.blocks n b }) s
/-- Write the outputs of a slot: bit `k` is output `k`. -/
def setOuts (f n v : Nat) (s : State) : State := modFba f (fun a => { a with outs := tset 0 a.outs n v }) s

/-- Four outputs as a number. -/
def outs4 (a : Bool) (b : Bool := false) (c : Bool := false) (d : Bool := false) : Nat :=
  b2n a + 2 * b2n b + 4 * b2n c + 8 * b2n d

/-! ### Logic, storage and timers (R223, R224, R227) -/

/-- A block of types 0x01 to 0x0A: its state and its output. `ins` are its inputs, `t` the end of the tick. -/
def logicBlk (x : Slot) (ins : List Bool) (t : Nat) (b : Blk) : Blk × Bool :=
  let i0 := ins.headD false
  if x.ty = 0x01 then (b, ins.all id)
  else if x.ty = 0x02 then (b, ins.any id)
  else if x.ty = 0x03 then (b, !i0)
  else if x.ty = 0x04 then (b, decide (x.p0 ≤ (ins.filter id).length))
  else if x.ty = 0x05 then
    let q := !ins.getD 1 false && (i0 || b.q)
    ({ b with q := q }, q)
  else if x.ty = 0x06 then
    ({ b with prev := i0, ran := true },
      b.ran && (if x.p0 = 0 then i0 && !b.prev else !i0 && b.prev))
  else if x.ty = 0x08 then
    let t0 := if i0 && !b.prev then t else b.t0
    ({ b with prev := i0, t0 := t0 }, i0 && decide (x.p0 ≤ t - t0))
  else if x.ty = 0x09 then
    let t0 := if !i0 && b.prev then t else b.t0
    let q := i0 || (b.q && decide (t - t0 < x.p0))
    ({ b with prev := i0, t0 := t0, q := q }, q)
  else
    let run := b.q && decide (t - b.t0 < x.p0)
    let start := i0 && !b.prev && !run
    let q := run || start
    ({ b with prev := i0, t0 := if start then t else b.t0, q := q }, q)

/-- RESTART (R227). Inputs: permission, valid press, pressed. `count` keeps the permission (bit 0) and RUN
(bit 1) of the tick before, and that both have held since the tick before the press (bit 2). -/
def restartBlk (mode : Nat) (perm press pressed run : Bool) (b : Blk) : Blk × Nat :=
  let hold := perm && run && (if pressed && !b.prev then bit b.count 0 && bit b.count 1 else bit b.count 2)
  let entry := run && !bit b.count 1
  let need := b.mark || entry || (decide (mode = 2) && !bit b.count 0)
  let ok := press && perm && hold
  let need := need && !ok
  let q := perm && !need
  ({ b with q := q, prev := pressed, mark := need, count := outs4 perm run hold }, outs4 q (need && perm))

/-! ### Channel and signal blocks (R225, R231 to R233) -/

/-- The outputs of a PAIR, OSSD, RESET or DOOR block. -/
def chanBlk (s : State) (x : Slot) (tick : Nat) : Nat :=
  let e := x.p0
  let p := laneShown s .b e
  let sig := decide (p.code = 2)
  if x.ty = 0x12 then
    outs4 (decide ((pairLane s .b e).valid.map tickOf = some tick)) sig (pair s e).stuck
  else if x.ty = 0x14 then outs4 p.closed p.latch sig
  else outs4 sig p.release (decide (4 ≤ p.code) && decide (p.code ≤ 6)) (awaits s e)

/-- The outputs of a RECV block: the signal as published in source tick n − 2 (R232). -/
def recvBlk (s : State) (f : Nat) (x : Slot) (tick : Nat) : Nat :=
  let g := tget {} (fba s f).segments (x.p0 * 2 + tick % 2)
  let ok := g.valid && decide (g.tick = (tick + 254) % 256)
  outs4 (ok && bit g.bits x.p1) ok

/-- The outputs of an ALANE block (R233). -/
def alaneBlk (s : State) (f : Nat) (x : Slot) : Nat :=
  let i := island s f
  outs4 (i.statusOk && bit i.word x.p0) i.statusOk

/-! ### Lane agreement (R234) -/

/-- The agreement count after a commit, and the fault when it exceeds the time. -/
def agreeRun (el te : Nat) (b a : Bool) (p1 : Nat) (k : Blk) (s : State) : Blk × State :=
  let n := if inRun s && b != a && !connHeld s el then k.count + 1 else 0
  let k := { k with count := n }
  let s := if p1 / 10 < n ∧ !condPresent s (laneCode el) el then faultAt te (laneCode el) el s else s
  (k, if b == a ∧ condPresent s (laneCode el) el then gone (laneCode el) el s else s)

/-- OUT and RET. -/
def outBlk (f n el te : Nat) (x : Slot) (s : State) : State :=
  let b := slotIn s f x 0
  let a := slotIn s f x 1
  let r := agreeRun el te b a x.p1 (blk s f n) s
  let flt := faultActive r.2 (laneCode el) el
  setOuts f n (outs4 (b && !flt) (b != a) flt) (setBlk f n r.1 r.2)

/-! ### EDM (R228, R229, R269, R337) -/

/-- The EDM faults of an output. -/
def edmActive (s : State) (el : Nat) : Bool :=
  faultActive s 0x030C el || faultActive s 0x030D el || faultActive s 0x030E el

/-- The conditions of the EDM faults follow the feedback (R269). -/
def edmCond (el te : Nat) (fb : Bool) (s : State) : State :=
  [0x030C, 0x030D, 0x030E].foldl (fun a code =>
    if fb then (if condPresent a code el then gone code el a else a)
    else if faultActive a code el ∧ !condPresent a code el then faultAt te code el a else a) s

/-- Raise an EDM fault; its condition lasts while the feedback reads closed. -/
def edmFault (code el te : Nat) (fb : Bool) (s : State) : State :=
  raise { reportAt s (1000 * te) code el with lasting := !fb } s

/-- EDM: states 0 READY, 1 PICKUP, 2 ON, 3 DROPOUT, 4 FAULT; `mark` says that a DROPOUT is reported. -/
def edmBlk (f n t : Nat) (x : Slot) (s : State) : State :=
  let el := elemAt f (0x40 + x.p2)
  let forced := heldB s el
  let dem := slotIn s f x 0 && inRun s && !forced
  let fb := slotIn s f x 1
  let b0 := blk s f n
  let b := if b0.ran then b0 else { b0 with ran := true, code := 3, t0 := t, mark := false, prev := true }
  let b := { b with fb := if !fb && b.prev then t else b.fb, prev := fb }
  let s := edmCond el t fb s
  let drop := { b with code := 3, t0 := t, mark := !forced }
  let flt := { b with code := 4 }
  let r : Blk × State :=
    if b.code = 0 then
      (if !fb ∧ x.p1 < t - b.fb then (flt, edmFault 0x030D el t fb s)
      else if fb ∧ dem then ({ b with code := 1, t0 := t }, s)
      else (b, s))
    else if b.code = 1 then
      (if !dem then (drop, s)
      else if !fb then ({ b with code := 2 }, s)
      else if x.p0 < t - b.t0 then (flt, edmFault 0x030C el t fb s)
      else (b, s))
    else if b.code = 2 then
      (if !dem then (drop, s)
      else if fb then (flt, edmFault 0x030E el t fb s)
      else (b, s))
    else if b.code = 3 then
      (if fb then ({ b with code := 0 }, if b.mark then learnDrop el (t - b.t0) s else s)
      else if x.p1 < t - b.t0 then (flt, edmFault 0x030D el t fb s)
      else (b, s))
    else (if !edmActive s el ∧ fb then ({ b with code := 0 }, s) else (b, s))
  let c := r.1.code
  setOuts f n (outs4 (decide (c = 1) || decide (c = 2)) (decide (c < 3)) (edmActive r.2 el)) (setBlk f n r.1 r.2)

/-! ### BRAKE (R230, R278) -/

/-- Whether a fault of the brake blocks it (R230, R274, R275, R278). -/
def brakeBlocked (s : State) (el : Nat) : Bool :=
  (actives s).any (fun a => decide (a.source = el) && decide (codeClass a.code = 4) && decide (2 ≤ a.level))

/-- The length of a phase of the mechanical test in µs (Table OU-7). -/
def phaseUs (c : Conf) (el ph : Nat) : Nat := (if ph = 2 then brakeCfg c el 0xB 1000 else brakeCfg c el 0xA 200) * 1000

/-- A mechanical test ends in a tick of logical time `te` µs, with the result of B+0x70+b:06. -/
def mechEnd (el te result : Nat) (s : State) : State :=
  let s := modBrake el (fun b => { b with mech := result, mechTime := devAt s (1000 * te) }) s
  if result = 1 then
    let s := modBrakeLearn el (fun l => { l with passed := inc32 l.passed, lastPass := s.time.opNs }) s
    if condPresent s 0x0407 el then gone 0x0407 el s else s
  else if result = 2 then modBrakeLearn el (fun l => { l with failed := inc32 l.failed }) s
  else s

/-- The waveform of a pull-in that ends before its decision is captured, its samples a free value; its last sample is of
the present moment (Table OU-11, log entry 9). -/
def captureWave (el : Nat) (s : State) : State :=
  let (n, s) := draw s
  let w := ((Config.freeWave n).take 2048).map (fun v => min v.toNat 4000)
  bump (0x4078 + 0x200 * siteOf el + (offOf el - 0x60)) 1
    (modBrake el (fun b => { b with wave := w, waveTime := s.time.dev - (w.length - 1) * 100000 }) s)

/-- A pull-in that a fault or the release demand cuts short before its decision is abandoned (R275). With flag bit 2 its
waveform is captured, and with `always`, of a pull-in that raises a fault, in any case (Table OU-11). -/
def pullAbandon (always : Bool) (el : Nat) (s : State) : State :=
  let fl := brakeCfg (confOf s) el 9 3
  let s := if always || ((brake s el).pending && bit fl 2) then captureWave el s else s
  if (brake s el).pending then modBrake el (fun b => { b with
    pending := false, check := if bit fl 0 then 5 else b.check }) s else s

/-- The next phase of a mechanical test, or its end (Table OU-7). -/
def phaseEnd (el t : Nat) (b : Blk) (s : State) : Blk × State :=
  if b.phase < 3 then ({ b with phase := b.phase + 1, t0 := t }, s)
  else ({ b with code := 0, phase := 0, t0 := t, mark := false }, mechEnd el t 1 s)

/-- BRAKE: states of Table FB-4; `mark` says that the last mechanical test failed, `prev` is the test
request, `count` the agreement count. -/
def brakeBlk (f n t : Nat) (x : Slot) (s : State) : State :=
  let c := confOf s
  let el := elemAt f (0x60 + x.p0)
  let raw := slotIn s f x 0
  let rel := raw && inRun s && !heldB s el
  let req := slotIn s f x 2 && inRun s
  let b0 := blk s f n
  let rise := req && !b0.prev
  let b := { b0 with prev := req }
  let r : Blk × State :=
    if b.code = 4 then (if brakeBlocked s el then (b, s) else ({ b with code := 0, t0 := t }, s))
    else if brakeBlocked s el then
      ({ b with code := 4, phase := 0, t0 := t }, if b.code = 3 then mechEnd el t 3 s else pullAbandon false el s)
    else if b.code = 0 then
      (if rel then
        ({ b with code := 1, t0 := t },
          modBrakeLearn el (fun l => { l with pullIns := inc32 l.pullIns })
            (modBrake el (fun k => { k with
              pending := bit (brakeCfg c el 9 3) 0 || bit (brakeCfg c el 9 3) 2, reached := false }) s))
      else if rise then ({ b with code := 3, phase := 1, t0 := t }, s)
      else (b, s))
    else if b.code = 1 then
      (if !rel then ({ b with code := 0, t0 := t }, pullAbandon false el s)
      else if x.p2 ≤ t - b.t0 then ({ b with code := 2, t0 := t }, s)
      else (b, s))
    else if b.code = 2 then (if !rel then ({ b with code := 0, t0 := t }, s) else (b, s))
    else
      if !inRun s then ({ b with code := 0, phase := 0, t0 := t }, mechEnd el t 3 s)
      else if slotIn s f x 3 then
        ({ b with code := 4, phase := 0, t0 := t, mark := true }, (fun (a : State) => raise (momentary (reportAt a (1000 * t) 0x0406 el)) a) (mechEnd el t 2 s))
      else if phaseUs c el b.phase ≤ t - b.t0 then phaseEnd el t b s
      else (b, s)
  let g := agreeRun el t raw (slotIn r.2 f x 1) x.p1 r.1 r.2
  let k := g.1
  let flt := faultActive g.2 0x1003 el
  let on := (decide (k.code = 1) || decide (k.code = 2)) && !flt
  setOuts f n (outs4 on (decide (k.code ≠ 4) && !k.mark)
    (decide (k.code = 3) && (decide (k.phase = 1) || decide (k.phase = 2))) flt) (setBlk f n k g.2)

/-! ### One slot -/

/-- The element that an OUT, RET or BRAKE block drives. -/
def drivenEl (f : Nat) (x : Slot) : Option Nat :=
  if x.ty = 0x30 then some (elemAt f (0x40 + x.p0))
  else if x.ty = 0x31 then some (elemAt f (0x50 + x.p0))
  else if x.ty = 0x19 then some (elemAt f (0x60 + x.p0))
  else none

/-- One rail of slot `n` of site `f` in the window of tick `tick` (R218, R219): its block on the values of that rail. -/
def railSlot (f tick n : Nat) (s : State) : State :=
  let x := (fba s f).slots.getD n {}
  let t := 10 * tick + 10
  if x.ty = 0 ∨ x.ty = 0x20 then s
  else if x.ty ≤ 0x0A then
    let r := logicBlk x ((upto x.ins.length).map (slotIn s f x)) t (blk s f n)
    setOuts f n (b2n r.2) (setBlk f n r.1 s)
  else if x.ty = 0x13 then
    let r := restartBlk x.p0 (slotIn s f x 0) (slotIn s f x 1) (slotIn s f x 2) (inRun s) (blk s f n)
    setOuts f n r.2 (setBlk f n r.1 s)
  else if x.ty = 0x18 then edmBlk f n t x s
  else if x.ty = 0x19 then brakeBlk f n t x s
  else if x.ty = 0x21 then setOuts f n (recvBlk s f x tick) s
  else if x.ty = 0x28 then setOuts f n (alaneBlk s f x) s
  else if x.ty = 0x30 ∨ x.ty = 0x31 then
    (match drivenEl f x with
      | some el => outBlk f n el t x s
      | none => s)
  else setOuts f n (chanBlk s x tick) s

/-- The slot whose output a net is. -/
def netSlot (n : Nat) : Option Nat := if 0x1000 ≤ n ∧ n < 0x1800 then some ((n - 0x1000) / 4) else none

/-- Whether the two rails of a net are one pair (R216). -/
def netSound (s : State) (f n : Nat) : Bool :=
  match netSlot n with
  | some m => bit (tget 0 (fba s f).outs m) (n % 4) == bit (tget 0 (fba s f).outsC m) (n % 4)
  | none => decide (0x70 ≤ n) || bit (fba s f).nets n == bit (fba s f).netsC n

/-- A rail fault of a net or state of slot `n` (R216, R237): counted, and 0x0501 with the slot. Its condition lasts no
longer than the reading that found it (DESIGN CHOICE, log entry 79). -/
def railFault (f tick n : Nat) (s : State) : State :=
  raise (momentary (reportAt s (10000 * tick + 10000) 0x0501 (dieSrc f) 0xFFFF n))
    (modFba f (fun a => { a with railFaults := inc32 a.railFaults }) s)

/-- The rails of a net are checked where slot `r` reads it (R216). The fault names the slot whose output the net is; of a
source net, the slot that reads it (DESIGN CHOICE, log entry 102). -/
def readNet (f tick r n : Nat) (s : State) : State :=
  if netSound s f n then s else railFault f tick ((netSlot n).getD r) s

/-- Slot `n` of site `f` in the window of tick `tick`: the nets that it reads are checked; its block runs on the true
rails, and in separate logic on the complement rails; the rails of the state it writes are checked (R216). -/
def runSlot (f tick n : Nat) (s : State) : State :=
  let s := ((fba s f).slots.getD n {}).ins.foldl (fun a i => readNet f tick n i a) s
  let c := fba (railSlot f tick n (modFba f (fun a => { a with
    outs := a.outsC, blocks := a.blocksC, nets := a.netsC }) s)) f
  let s := modFba f (fun a => { a with
    outsC := tset 0 a.outsC n (tget 0 c.outs n), blocksC := tset {} a.blocksC n (tget {} c.blocks n) }) (railSlot f tick n s)
  if blk s f n = tget {} (fba s f).blocksC n then s else railFault f tick n s

/-- An upset strikes a complement rail of a slot after its evaluation: `k` 0 to 3 names an output, 4 the state. -/
def strike (f n k : Nat) (s : State) : State :=
  modFba f (fun a =>
    if k < 4 then { a with outsC := tmod 0 a.outsC n (fun v => setBit v k (!bit v k)) }
    else { a with blocksC := tmod {} a.blocksC n (fun b => { b with q := !b.q }) }) s

/-- An upset strikes the complement rail of source net `n` after the latch. -/
def strikeNet (f n : Nat) (s : State) : State :=
  modFba f (fun a => { a with netsC := setBit a.netsC n (!bit a.netsC n) }) s

/-- A slot in its window, with the detail records that its netlist record asks for (Table FB-5). -/
def windowSlot (f tick s : Nat) (st : State) : State :=
  let old := tget 0 (fba st f).outs s
  let fl := ((fba st f).slots.getD s {}).ledger
  let st := runSlot f tick s st
  let new := tget 0 (fba st f).outs s
  if fl = 0 ∨ new = old then st
  else (upto 4).foldl (fun a k => if bit fl k ∧ bit new k ≠ bit old k then
    ledgerAt (10000 * tick + 10000) { type := 4, rank := 5, source := dieSrc f, code := 3, data := le 2 s ++ le 1 (b2n (bit new k)) } a
    else a) st

end Sys2Proof.Machine
end

