-- ==== Sys2Proof/Machine/Fba.lean ====
section
/-! DEFINITION. The evaluation window of an F die and the commands of its slot array (R26, R158, R218 to R237,
R354). -/

namespace Sys2Proof.Machine

/-! ### The latch phase -/

/-- The condition of 0x0103 goes when the lanes have agreed for the agreement limit (R158). -/
def agreeInput (i : Nat) (s : State) : State :=
  let x := input s i
  if condPresent s 0x0103 i ∧ x.a.on = x.b.on
      ∧ max x.a.flip x.b.flip + agreementLimit (confOf s) i ≤ s.time.now then gone 0x0103 i s
  else s

/-- Whether the lanes agree on an entry: pair signal, release, closed-and-locked (R235). -/
def lanesAgree (s : State) (e : Nat) : Bool :=
  let a := laneShown s .a e
  let b := laneShown s .b e
  decide ((a.code = 2) = (b.code = 2)) && (a.release == b.release) && (a.closed == b.closed)

/-- The C die's comparison of an entry in one tick; the condition of 0x1004 goes after 100 µs of agreement, which is 10
ticks (R235). -/
def agreeEntry (e : Nat) (s : State) : State :=
  let ok := lanesAgree s e
  let n := if ok then min 10 ((pair s e).agree + 1) else 0
  let s := modPair e (fun p => { p with agree := n, apart := if ok then 0 else p.apart + 1 }) s
  if n = 10 ∧ condPresent s 0x1004 (0x0800 + e) then gone 0x1004 (0x0800 + e) s else s

/-- Lane B takes channel 2 of a cross-die entry from its shared signal at the end `te` of an evaluation tick, which is the
channel's change time and the logical time of what follows (R191). -/
def takeSignal (te e : Nat) (s : State) : State :=
  if crossDie (confOf s) e ∧ crossOn s e ≠ (pair s e).signal2 then
    let v := crossOn s e
    pairRunAt .b te te e (modPair e (fun p => { p with signal2 := v, b := { p.b with c2 := te } }) s)
  else s

/-- The latch phase of the window of tick `tick`: the sample ticks of the site's entries up to the end of the
tick, the shared signals that have arrived in it, the presses that act at its end, and the C die's comparisons of the
two lanes. -/
def latchPhase (f tick : Nat) (s : State) : State :=
  let s := advance (10000 * tick + 10000) s
  let es := siteEntries (confOf s) f
  let s := pairsRun es (10000 * tick + 9000) s
  let s := es.foldl (fun a e => takeSignal (10000 * tick + 10000) e a) s
  let s := pressesEnd (10000 * tick + 10000) es s
  let s := (siteInputs f).foldl (fun a i => agreeInput i a) s
  es.foldl (fun a e => agreeEntry e a) s

/-! ### The commit and scan phases -/

/-- Whether the netlist reads the island status (R233). -/
def hasAlane (s : State) (f : Nat) : Bool := (fba s f).slots.any (fun x => decide (x.ty = 0x28))

/-- Raise 0x0509 in a tick of logical time `te` µs unless it is present (R233). -/
def statusBad (f te : Nat) (s : State) : State :=
  if condPresent s 0x0509 (dieSrc f) then s else faultAt te 0x0509 (dieSrc f) s

/-- The count of invalid and of valid island status frames (R233). -/
def statusPhase (f te : Nat) (s : State) : State :=
  if !hasAlane s f then s
  else if (island s f).statusOk then
    let n := min 3 ((fba s f).validRun + 1)
    let s := modFba f (fun a => { a with invalid := 0, validRun := n }) s
    if n = 3 ∧ condPresent s 0x0509 (dieSrc f) then gone 0x0509 (dieSrc f) s else s
  else
    let n := min 3 ((fba s f).invalid + 1)
    let s := modFba f (fun a => { a with invalid := n, validRun := 0 }) s
    if n = 3 then statusBad f te s else s

/-- The slots of a site with their numbers. -/
def numbered (s : State) (f : Nat) : List (Nat × Slot) :=
  (upto (fba s f).slots.length).zip (fba s f).slots

/-- The bits that the slots of a site give, one slot after another. -/
def slotBits (s : State) (f : Nat) (g : Nat × Slot → Option (Nat × Bool)) : Nat :=
  (numbered s f).foldl (fun v p => match g p with
    | some (b, true) => setBit v b true
    | some (_, false) => v
    | none => v) 0

/-- The demands that the OUT, RET and BRAKE blocks give to the drivers. -/
def demandWord (s : State) (f : Nat) : Nat :=
  slotBits s f (fun p => (drivenEl f p.2).map (fun el => (elBit el, bit (tget 0 (fba s f).outs p.1) 0)))

/-- The switches whose two demands differ. -/
def differWord (s : State) (f : Nat) : Nat :=
  slotBits s f (fun p => (drivenEl f p.2).map (fun el => (elBit el, slotIn s f p.2 0 != slotIn s f p.2 1)))

/-- The shared signals that the SEND blocks give (R231). -/
def sendWord (s : State) (f : Nat) : Nat :=
  slotBits s f (fun p => if p.2.ty = 0x20 then some (p.2.p0, slotIn s f p.2 0) else none)

/-- The elements of a site that a reaction forces off now. -/
def forcedWord (s : State) (f : Nat) : Nat :=
  (siteElems f).foldl (fun v el => if forcedOff s el then setBit v (elBit el) true else v) 0

/-- The commit phase (R218, R220, R231, R234, R354): demands reach the drivers, signals are published, and
the escapement's two counts of committed windows go on (R36). -/
def commitPhase (f tick : Nat) (s : State) : State :=
  let s := (numbered s f).foldl (fun a p => if (drivenEl f p.2).isSome then readNet f tick p.1 (0x1000 + 4 * p.1) a else a) s
  let d := demandWord s f
  let x := differWord s f
  let p := sendWord s f
  let w := forcedWord s f
  let run := inRun s
  let at_ := devAt s (10000 * tick + 10000)
  let s := modFba f (fun a => { a with
    demands := d, differ := x, published := p, publishedBefore := a.published, forced := w, wasRun := run
    ticks := a.ticks + 1, lastTick := tick, lastAt := at_
    windows := (a.windows + 1) % 2 ^ 16, independent := (a.independent + 1) % 2 ^ 16 }) s
  siteMoved (10000 * tick + 10000) f (compareC f (statusPhase f (10 * tick + 10) s))

/-- The slots phase (R218): the source nets as latched, then every slot in ascending order. `upset` is a strike on a
complement rail: of a slot, as slot·8 + what `strike` names; of source net `n`, as 4,096 + `n`. -/
def slotsPhase (f tick : Nat) (upset : Option Nat) (s : State) : State :=
  let s := latchNets f s
  let s := match upset with
    | some u => if 4096 ≤ u ∧ u < 4096 + 0x70 then strikeNet f (u - 4096) s else s
    | none => s
  (upto (fba s f).slots.length).foldl (fun a n =>
    let a := windowSlot f tick n a
    match upset with
    | some u => if u / 8 = n then strike f n (u % 8) a else a
    | none => a) s

/-- The scan phase: 16 records (R237). `te` is the logical time in µs (R340). -/
def scanPhase (f te : Nat) (scan : ScanFinding) (s : State) : State :=
  let s := modFba f (fun a => { a with scan := (a.scan + 16) % 512 }) s
  match scan with
  | .clean => s
  | .corrected n =>
    raise (momentary (reportAt s (1000 * te) 0x0503 (dieSrc f) 0xFFFF (n % 65536)))
      (modFba f (fun a => { a with corrected := inc32 a.corrected }) s)
  | .failed =>
    if condPresent s 0x0502 (dieSrc f) then s
    else faultAt te 0x0502 (dieSrc f) (modFba f (fun a => { a with doubt := true }) s)

/-- A stopped array goes on once the record that stopped it has been cleared (R354, R369). -/
def arrayBack (f : Nat) (s : State) : State :=
  if (fba s f).state = 3 ∧ !arrayStopped s f then modFba f (fun a => { a with state := 1 }) s else s

/-- The status snapshot at the end of a window (R138, R218, R368). -/
def takeSnap (f : Nat) (s : State) : State :=
  let x : LiveSnap := { field := s.field, array := s.array, outs := s.outs, power := s.power, col := s.col }
  { s with test := { s.test with snaps := (f, x) :: s.test.snaps.filter (fun e => decide (e.1 ≠ f)) } }

/-- EVALUATION_WINDOW (R218, R221, R236): in SAFE, RUN and MAINTENANCE the window runs its four phases. While the
array is held for a test, or stopped, the evaluator alone runs. -/
def execEvaluationWindow (f tick : Nat) (upset : Option Nat) (scan : ScanFinding) (s : State) :
    Host.Outcome State Fault Refusal :=
  .next (if populated s f ∧ evaluating s then
    let s := arrayBack f (latchPhase f tick s)
    if (fba s f).state = 1 then
      scanPhase f (10 * tick + 10) scan (takeSnap f (commitPhase f tick (slotsPhase f tick upset s)))
    else
      let s := siteMoved (10000 * tick + 10000) f s
      if (fba s f).state = 2 then s
      else takeSnap f (modFba f (fun a => { a with lastAt := devAt s (10000 * tick + 10000) }) s)
  else s)

/-- WINDOW_OVERRUN (R221): the drivers stay at their last commit until the L3 reaction opens them. The condition of
0x0508 is gone in its own tick (DESIGN CHOICE, log entry 79). -/
def execWindowOverrun (f : Nat) (s : State) : Host.Outcome State Fault Refusal :=
  .next (if populated s f ∧ evaluating s ∧ (fba s f).state = 1 then faultOnce 0x0508 (dieSrc f) s else s)

/-! ### Times that a slot's block reaches (R224, R228, R230) -/

/-- Run one slot of an evaluating array at a tick, where its block is of a type and a test of its state
holds. -/
def slotDue (f n tick : Nat) (p : Slot → Blk → Nat → Bool) (s : State) : State :=
  let s := advance (10000 * tick + 10000) s
  if populated s f ∧ evaluating s ∧ (fba s f).state = 1 ∧ p ((fba s f).slots.getD n {}) (blk s f n) (10 * tick + 10) then
    -- the agreement count rises at the commits only (R234)
    let k := (blk s f n).count
    modFba f (fun a => { a with
      blocks := tmod {} a.blocks n (fun b => { b with count := k })
      blocksC := tmod {} a.blocksC n (fun b => { b with count := k }) }) (windowSlot f tick n (latchNets f s))
  else s

/-- BLOCK_TIMER_EXPIRY (R224): the elapsed count of a TON, TOF or TP reaches T/10 ticks. -/
def execBlockTimerExpiry (f n tick : Nat) (s : State) : Host.Outcome State Fault Refusal :=
  .next (slotDue f n tick (fun x b t => decide (8 ≤ x.ty) && decide (x.ty ≤ 0x0A) && decide (x.p0 ≤ t - b.t0)) s)

/-- EDM_TIMEOUT (R228, R269): T_pu or T_do is exceeded. -/
def execEdmTimeout (f n tick : Nat) (s : State) : Host.Outcome State Fault Refusal :=
  .next (slotDue f n tick (fun x b t => decide (x.ty = 0x18) && b.ran
    && ((decide (b.code = 0) && decide (x.p1 < t - b.fb)) || (decide (b.code = 1) && decide (x.p0 < t - b.t0))
      || (decide (b.code = 3) && decide (x.p1 < t - b.t0)))) s)

/-- BRAKE_PULL_IN_ELAPSED (R230, R273): P2 has elapsed and the block moves from PULL_IN to HOLD. -/
def execBrakePullInElapsed (f n tick : Nat) (s : State) : Host.Outcome State Fault Refusal :=
  .next (slotDue f n tick (fun x b t => decide (x.ty = 0x19) && decide (b.code = 1) && decide (x.p2 ≤ t - b.t0)) s)

/-- ISLAND_STATUS_INVALID (R218, R233): the status is invalid in the third consecutive tick, the one after the last
commit; the fault carries the end of that tick. -/
def execIslandStatusInvalid (f : Nat) (s : State) : Host.Outcome State Fault Refusal :=
  .next (if populated s f ∧ evaluating s ∧ hasAlane s f ∧ (island s f).statusOk = false ∧ 2 ≤ (fba s f).invalid then
    let te := 10 * (fba s f).lastTick + 20
    statusBad f te (modFba f (fun a => { a with invalid := 3, validRun := 0 }) (advance (1000 * te) s))
  else s)

end Sys2Proof.Machine
end

