-- ==== Sys2Proof/Machine/Outputs.lean ====
section
/-! DEFINITION. Outputs, returns, brakes and group supplies: their monitors, the dark and light tests, the
pull-in signature and the mechanical brake test (R245 to R279, R285). -/

namespace Sys2Proof.Machine

/-- The switches of a site move at once (R266, R268): tests are abandoned and conditions of conducting
elements go. -/
def settleSite (f : Nat) (s : State) : State := siteMoved s.time.now f s

/-- Raise a fault of an element whose finding leaves no lasting condition, and let its switches move. -/
def elemFault (code el : Nat) (second detail : Nat) (s : State) : State :=
  settleSite (siteOf el) (raise (momentary (report s code el second detail)) s)

/-! ### Currents (R245 to R247, R251 to R253) -/

/-- OUTPUT_CURRENT_LIMIT (R245, R250): the condition is gone as soon as the output is off. -/
def execOutputCurrentLimit (_f q : Nat) (s : State) : Host.Outcome State Fault Refusal :=
  .next (if isOutput q ∧ elOn s q then elemFault 0x0301 q 0xFFFF 0 s else s)

/-- RETURN_CURRENT_LIMIT (R247, R268). The condition of 0x030B is gone in its own time tick (DESIGN CHOICE, log entry
99). -/
def execReturnCurrentLimit (_f m : Nat) (s : State) : Host.Outcome State Fault Refusal :=
  .next (if isReturn m ∧ elOn s m then elemFault 0x030B m 0xFFFF 0 s else s)

/-- The key of a group of a site. -/
def groupKey (f g : Nat) : Nat := f * 2 + g

/-- Whether the mean of a group's last 1,000 sums exceeds 6.0 A (R246). Sums before the first are 0. -/
def groupOver (s : State) (f g : Nat) : Bool :=
  decide (6000 * 1000 < (tget [] s.outs.sums (groupKey f g)).foldl (· + ·) 0)

/-- GROUP_CURRENT_MEAN (R246): a group that exceeds the limit opens, beside the other one while the record of the die
is not cleared (R339). The record names the group's supply as its second source (DESIGN CHOICE, log entry 99). -/
def execGroupCurrentMean (f g sum : Nat) (s : State) : Host.Outcome State Fault Refusal :=
  .next (if populated s f ∧ evaluating s ∧ g < 2 then
    let s := { s with outs := { s.outs with sums := (tmod [] s.outs.sums (groupKey f g) (fun l => (sum :: l).take 1000)) } }
    if groupOver s f g then
      let had := if faultActive s 0x0308 (dieSrc f) then tget 0 s.outs.opened f else 0
      if condPresent s 0x0308 (dieSrc f) ∧ bit had g then s
      else settleSite f (raise (report s 0x0308 (dieSrc f) (elemAt f (0x70 + g)))
        { s with outs := { s.outs with opened := tset 0 s.outs.opened f (setBit had g true) } })
    else if condPresent s 0x0308 (dieSrc f) ∧ !groupOver s f (1 - g) then gone 0x0308 (dieSrc f) s else s
  else s)

/-- Whether an output carries an active fault of 0x0303 to 0x0305 of another code (R260). -/
def feedOther (s : State) (code q : Nat) : Bool :=
  (actives s).any (fun a => decide (0x0303 ≤ a.code) && decide (a.code ≤ 0x0305) && decide (a.code ≠ code)
    && (decide (a.source = q) || (decide (a.code = 0x0305) && decide (a.second = q))))

/-- EXTERNAL_FEED (R251, R260, R267): an output with both switches open, in use or not, reads above 11 V. A feed that
returns before its record is cleared is reported again (R339). -/
def execExternalFeed (_f q : Nat) (land : Int) (s : State) : Host.Outcome State Fault Refusal :=
  .next (if isOutput q ∧ populated s (siteOf q) ∧ evaluating s ∧ elOff s q ∧ 1100 < land then
    let s := modElem q (fun x => { x with land := clamp (-3000) 4500 land }) s
    if feedOther s 0x0304 q ∨ condPresent s 0x0304 q then s else settleSite (siteOf q) (fault 0x0304 q s)
  else s)

/-- EXTERNAL_FEED_GONE (R251): the land has read below 5 V for 100 ms. -/
def execExternalFeedGone (_f q : Nat) (land : Int) (s : State) : Host.Outcome State Fault Refusal :=
  .next (if isOutput q ∧ populated s (siteOf q) ∧ land < 500 then
    let s := modElem q (fun x => { x with land := clamp (-3000) 4500 land }) s
    if condPresent s 0x0304 q then gone 0x0304 q s else s
  else s)

/-- Whether the currents of the outputs and of their return differ by more than 50 mA and 5 % of the larger (R252). -/
def pmDiffers (a b : Nat) : Bool := decide (1000 + max a b < 20 * ndist a b)

/-- PM_CURRENT_MISMATCH (R252): the sum of the path currents of the outputs that a return serves and the return's own, as
they have stood for 10 ms. Suspended while a readback it needs is invalid (R374) and while the return is open (R268). The
condition is gone when the two agree. -/
def execPmCurrentMismatch (_f : Nat) (r : PmReading) (s : State) : Host.Outcome State Fault Refusal :=
  let q := r.output
  .next (match outReturn (confOf s) q with
  | some m =>
    if isOutput q ∧ elOn s q ∧ elOn s m ∧ !(elem s q).calBad ∧ !(elem s m).calBad then
      if pmDiffers r.sumMa r.returnMa then
        (if condPresent s 0x0309 q then s else settleSite (siteOf q) (raise (report s 0x0309 q m) s))
      else if condPresent s 0x0309 q then gone 0x0309 q s else s
    else s
  | none => s)

/-- MINIMUM_LOAD (R253): the path current of an output, below its minimum for 100 ms, or reaching it again. The check
stands still in a test pulse, within 100 ms of a switch-on, and with an invalid readback. -/
def execMinimumLoad (_f : Nat) (r : PathReading) (s : State) : Host.Outcome State Fault Refusal :=
  let q := r.output
  .next (if isOutput q ∧ elOn s q ∧ bit (outFlags (confOf s) q) 1 ∧ (elem s q).test = 0 ∧ !(elem s q).calBad
      ∧ (elem s q).since + 100000000 ≤ s.time.opNs then
    let s := modElem q (fun x => { x with ma := min r.ma 6000 }) s
    if r.ma < minLoad (confOf s) q then (if condPresent s 0x0307 q then s else fault 0x0307 q s)
    else if condPresent s 0x0307 q then gone 0x0307 q s else s
  else s)

/-! ### Dark and light tests (R254 to R261) -/

/-- The slot of an element in the test frame (Table OU-2): that of the lowest member of its set. -/
def testSlot (c : Conf) (el : Nat) : Nat := elBit (setLow c el)

/-- Whether a test pulse of an element starts at a time: 100 µs into its slot of the test frame (R254). -/
def inSlot (s : State) (el t : Nat) : Bool :=
  decide (alignedUs s (siteOf el) t % 32000 = 1000 * testSlot (confOf s) el + 100)

/-- Whether an element is due in the test frame of a time (R255). -/
def testDue (s : State) (el t : Nat) : Bool := decide (testFrame s (siteOf el) t % dtInterval (confOf s) el = 0)

/-- The lowest member of an element's set, which holds the choice of its switch. -/
def lowElem (s : State) (el : Nat) : OutSt := elem s (setLow (confOf s) el)

/-- Whether a failed dark test of an element's set waits for its repeat (R258). -/
def repeatDue (s : State) (el : Nat) : Bool :=
  (setMembers (confOf s) el).any (fun m => decide ((elem s m).failed ≠ 0) || decide ((elem s m).failedA ≠ 0))

/-- Whether an announcement for the test frame of a time names an element's set and a switch (R255). -/
def names (l : List Announce) (s : State) (el t sw : Nat) : Bool :=
  l.any (fun a => decide (a.frame = testFrame s (siteOf el) t) && decide (a.element = setLow (confOf s) el)
    && decide (a.switch = sw))

/-- The slot of the netlist that drives a brake. -/
def brakeSlot (s : State) (el : Nat) : Option Nat :=
  (numbered s (siteOf el)).findSome? (fun p =>
    if p.2.ty = 0x19 ∧ elemAt (siteOf el) (0x60 + p.2.p0) = el then some p.1 else none)

/-- The state of the BRAKE block of a brake; APPLIED where there is none. -/
def brakeCode (s : State) (el : Nat) : Nat :=
  match brakeSlot s el with
  | some n => (blk s (siteOf el) n).code
  | none => 0

/-- DARK_TEST_START (R254 to R256, R258): 100 µs into its slot, the announced switch of a due element that is on opens
for the test width, in every member of its set. The side that opens it is the one whose announcement names it. -/
def execDarkTestStart (el t : Nat) (s : State) : Host.Outcome State Fault Refusal :=
  let s := advance t s
  let c := confOf s
  let i := island s (siteOf el)
  let sw := (lowElem s el).next
  .next (if elOn s el ∧ (elem s el).test = 0 ∧ inSlot s el t ∧ (testDue s el t ∨ repeatDue s el ∨ (lowElem s el).owed)
      ∧ names (if sw = 0 then i.announcedB else i.announced) s el t sw
      ∧ (fba s (siteOf el)).state = 1 ∧ (!isBrake el ∨ brakeCode s el = 2) then
    (setMembers c el).foldl (fun a m => modElem m (fun x => { x with
      test := 1, begun := t, sw := sw, setBad := false, owed := false }) a) s
  else s)

/-- The outcome of a dark test (Table OU-3): 0 pass, 1 did not open, 2 fed externally. -/
def darkOutcome (el : Nat) (r : DarkReading) : Nat :=
  if isBrake el then (if 12000 ≤ r.across then 0 else 1)
  else if 20 < r.ma then 1
  else if isOutput el ∧ 1100 < r.land then 2
  else 0

/-- Outputs that a dark test shows to be wired together (R260): the record replaces an earlier 0x0303 or
0x0304 of either. -/
def bridged (q r : Nat) (s : State) : State :=
  if (actives s).any (fun a => decide (a.code = 0x0305) && !(decide (a.source = q) && decide (a.second = r))
      && [q, r].any (fun x => decide (a.source = x) || decide (a.second = x))) then s
  else
    let of := fun (code src : Nat) => (decide (code = 0x0303) || decide (code = 0x0304))
      && (decide (src = q) || decide (src = r))
    elemFault 0x0305 q r 0 (supersede of s)

/-- The detail record of a dark-test failure that was not confirmed (R258). -/
def darkNote (el k : Nat) (s : State) : State :=
  ledgerPut { type := 4, rank := 5, source := el, code := 5, data := le 2 el ++ le 1 k } s

/-- The fault of a confirmed failure (R258, R260). -/
def darkFault (el k sw : Nat) (partner : Option Nat) (s : State) : State :=
  if isBrake el then elemFault 0x0408 el 0xFFFF sw s
  else if isReturn el then elemFault 0x030A el 0xFFFF sw s
  else if k = 1 then elemFault 0x0302 el 0xFFFF sw s
  else match partner with
    | some r => bridged el r s
    | none => if feedOther s 0x0303 el then s else elemFault 0x0303 el 0xFFFF 0 s

/-- Whether an output is another one of the die of the tested element, not of its set (R260). -/
def otherOutput (s : State) (el q : Nat) : Bool :=
  isOutput el && isOutput q && decide (siteOf q = siteOf el) && !(setMembers (confOf s) el).contains q

/-- The outputs that are on whose path current rose by at least 20 mA and by at least half the tested one's current
before the pulse (R260). -/
def risen (s : State) (el : Nat) (r : DarkReading) : List Nat :=
  (r.rising.filter (fun p => otherOutput s el p.1 && elOn s p.1 && decide (20 ≤ p.2) && decide (r.before ≤ 2 * p.2))).map
    Prod.fst

/-- The outputs that are off whose land fell from above 11 V to below it in the last sample tick (R260). -/
def fallen (s : State) (el : Nat) (r : DarkReading) : List Nat :=
  (r.offFalls.filter (fun p => otherOutput s el p.1 && elOff s p.1 && decide (1100 < p.2.1) && decide (p.2.2 < 1100))).map
    Prod.fst

/-- DARK_TEST_EVALUATION (R255 to R258, R260): the last sample tick of the width, with the readings of the F die's and of
the island's comparator sets. Each side evaluates its own; the first to confirm a failure raises the fault, the F die
where both do. A test of an element that is no longer on in both lanes is abandoned. -/
def execDarkTestEvaluation (el : Nat) (r : DarkReadings) (s : State) : Host.Outcome State Fault Refusal :=
  let rB := r.die
  let rA := r.island
  let x := elem s el
  .next (if x.test ≠ 1 then s
  else
    let s := advance (x.begun + (dtWidth (confOf s) el - 1) * 1000) s
    if !elOn s el then dropTest el s
    else
      let kB := darkOutcome el rB
      let kA := darkOutcome el rA
      let ok := kB == 0 && kA == 0
      let confB := decide (x.failed ≠ 0) && decide (kB ≠ 0)
      let confA := decide (x.failedA ≠ 0) && decide (kA ≠ 0)
      let conf := confB || confA
      let pB := risen s el rB
      let pA := risen s el rA
      let seen := fallen s el rB
      -- what both comparator sets find is one finding
      let falls := seen ++ (fallen s el rA).filter (fun q => !seen.contains q)
      let s := modElem el (fun y => { y with
        test := 0, tests := inc32 y.tests, lastTestTime := devAt s x.begun
        ma := if isBrake el then y.ma else min rB.ma 6000
        land := if isBrake el then y.land else if isReturn el then clamp (-300) 5000 rB.land
          else clamp (-3000) 4500 rB.land
        lastTest := 2 * x.sw + 4 * b2n ok
        failed := if conf then 0 else kB, failedA := if conf then 0 else kA
        bridge := if !conf && kB == 2 then pB else [], bridgeA := if !conf && kA == 2 then pA else [] }) s
      -- the alternation goes on when every member of the set has passed
      let s := modElem (setLow (confOf s) el) (fun y => { y with
        setBad := y.setBad || !ok, next := if y.setBad || !ok then x.sw else 1 - x.sw }) s
      let nB := decide (x.failed ≠ 0) && decide (kB ≠ x.failed)
      let nA := decide (x.failedA ≠ 0) && decide (kA ≠ x.failedA) && !(nB && x.failedA == x.failed)
      let s := if nB then darkNote el x.failed s else s
      let s := if nA then darkNote el x.failedA s else s
      let s := if confB then darkFault el kB x.sw (pB.find? x.bridge.contains) s
        else if confA then darkFault el kA x.sw (pA.find? x.bridgeA.contains) s else s
      falls.foldl (fun a q => bridged q el a) s)

/-- LIGHT_TEST_START (R261): in the slot and frame in which it is due, and under the announcement to both sides, both
switches of an output that is off in both lanes close briefly, while the return of a PM output stays open. -/
def execLightTestStart (_f q t : Nat) (s : State) : Host.Outcome State Fault Refusal :=
  let s := advance t s
  let c := confOf s
  let i := island s (siteOf q)
  .next (if isOutput q ∧ elUsed s q ∧ inRun s ∧ elOff s q ∧ !heldA s q ∧ !heldB s q ∧ bit (outFlags c q) 0
      ∧ (elem s q).test = 0 ∧ inSlot s q t ∧ testDue s q t ∧ names i.announced s q t 2 ∧ names i.announcedB s q t 2
      ∧ lightFree s q
      ∧ (fba s (siteOf q)).state = 1 then
    (setMembers c q).foldl (fun a m => modElem m (fun x => { x with test := 2, begun := t }) a) s
  else s)

/-- LIGHT_TEST_EVALUATION (R261): the last sample tick of the width; a demand that rose abandons the test; two
consecutive failures raise 0x0306, a finding of the test. -/
def execLightTestEvaluation (_f q : Nat) (land : Int) (s : State) : Host.Outcome State Fault Refusal :=
  .next (if (elem s q).test ≠ 2 then s
  else
    let s := advance ((elem s q).begun + (ltWidth (confOf s) q - 1) * 1000) s
    if !elOff s q || !lightFree s q then dropTest q s
    else
      let ok := decide (1100 ≤ land)
      let n := if ok then 0 else (elem s q).lightFails + 1
      let s := modElem q (fun x => { x with
        test := 0, land := clamp (-3000) 4500 land, lastTest := 1 + 4 * b2n ok, lastTestTime := devAt s x.begun
        lightFails := if n = 2 then 0 else n }) s
      if n = 2 then faultOnce 0x0306 q s else s)

/-! ### Group supplies (R263, R264) -/

/-- Whether the monitors of a site's supplies run: from STARTUP_TEST on (R263). -/
def monitors (s : State) (v : Nat) : Bool :=
  populated s (siteOf v) && decide (0x70 ≤ offOf v) && decide (offOf v < 0x73)
    && (match s.ctl.st with
      | .reset | .fuseSense => false
      | .startupTest | .configLoad | .safe | .run | .configure | .maintenance | .halt => true)

/-- A reading of a group supply and its status. -/
def setSupply (v st mv : Nat) (s : State) : State :=
  { s with power := { s.power with supplies := tset {} s.power.supplies v { status := st, mv := min mv 45000 } } }

/-- The sources of a site that the image names are on, or come on, when VFLD_TP is present (R5, R160, R168). -/
def tpSources (v : Nat) (on : Bool) (s : State) : State :=
  if offOf v ≠ 0x72 then s
  else
    let c := confOf s
    (siteSources (siteOf v)).foldl (fun a j =>
      if !sourceRuns a j ∨ (source a j).status = 3 then a
      else modSource j (fun x => { x with pulse := false, status := if on then srcOn c j else 4 }) a) s

/-- Whether a supply has been present since the last reset: one that has not raises no fault (R263). -/
def supplySeen (s : State) (v : Nat) : Bool := decide ((supply s v).status ≠ 0)

/-- GROUP_SUPPLY_WARNING (R263): below 19.2 V for 10 ms. A tripped supply stays tripped. -/
def execGroupSupplyWarning (_f v mv : Nat) (s : State) : Host.Outcome State Fault Refusal :=
  .next (if monitors s v ∧ supplySeen s v ∧ mv < 19200 then
    let s := setSupply v (if supplyOk s v then 2 else 3) mv s
    if condPresent s 0x0B21 v then s else fault 0x0B21 v s
  else s)

/-- GROUP_SUPPLY_WARNING_CLEAR (R263): above 19.7 V. -/
def execGroupSupplyWarningClear (_f v mv : Nat) (s : State) : Host.Outcome State Fault Refusal :=
  .next (if monitors s v ∧ 19700 < mv then
    let s := if (supply s v).status = 2 then setSupply v 1 mv s else s
    if condPresent s 0x0B21 v then gone 0x0B21 v s else s
  else s)

/-- The dark tests of a site are abandoned (R256). -/
def dropDark (f : Nat) (s : State) : State :=
  ((siteElems f).filter (fun el => decide ((elem s el).test = 1))).foldl (fun a el => dropTest el a) s

/-- A trip of a group supply (R256, R264): its outputs or brakes open, and the sources of VFLD_TP with the inputs
they feed (R168). One that has tripped already raises the other fault of Table OU-4 too. -/
def supplyTrip (code v mv : Nat) (s : State) : State :=
  let f := siteOf v
  let c := confOf s
  if !supplyOk s v then (if condPresent s code v then setSupply v 3 mv s else settleSite f (fault code v (dropDark f (setSupply v 3 mv s))))
  else
  let s := tpSources v false (setSupply v 3 mv s)
  let s := if offOf v = 0x72 then forceInputs (fedInputs c f) f s else s
  settleSite f (fault code v (dropDark f s))

/-- GROUP_SUPPLY_UNDERVOLTAGE (R264): below 16.8 V for 2,000 µs. -/
def execGroupSupplyUndervoltage (_f v mv : Nat) (s : State) : Host.Outcome State Fault Refusal :=
  .next (if monitors s v ∧ supplySeen s v ∧ mv < 16800 then supplyTrip 0x0B22 v mv s else s)

/-- GROUP_SUPPLY_OVERVOLTAGE (R264): above 33.0 V for 10 µs. -/
def execGroupSupplyOvervoltage (_f v mv : Nat) (s : State) : Host.Outcome State Fault Refusal :=
  .next (if monitors s v ∧ supplySeen s v ∧ 33000 < mv then supplyTrip 0x0B23 v mv s else s)

/-- GROUP_SUPPLY_PRESENT (R263): within 18.0 V to 32.0 V for 100 ms. The supply counts as present, or the
condition of its trip is gone. -/
def execGroupSupplyPresent (_f v mv : Nat) (s : State) : Host.Outcome State Fault Refusal :=
  .next (if monitors s v ∧ 18000 ≤ mv ∧ mv ≤ 32000 ∧ ((supply s v).status = 0 ∨ (supply s v).status = 3) then
    let was := (supply s v).status
    let s := tpSources v true (setSupply v 1 mv s)
    let s := if condPresent s 0x0B22 v then gone 0x0B22 v s else s
    let s := if condPresent s 0x0B23 v then gone 0x0B23 v s else s
    let s := if was = 3 ∧ offOf v = 0x72 then unforceInputs (fedInputs (confOf s) (siteOf v)) (siteOf v) s else s
    settleSite (siteOf v) s
  else s)

/-- LEARNED_VALUE_PERSIST (R271, R445, R451): what R445 serves first goes first; also for the on time that goes on while an output is on. -/
def execLearnedValuePersist (s : State) : Host.Outcome State Fault Refusal :=
  .next (if paramMay s ∧ (s.led.dirty ∨ s.outs.elems.any (fun e => e.2.on)) then persist s else s)

/-! ### Brakes (R272 to R278) -/

/-- Whether a brake's coil is checked: it is in use and its current readback is valid (R374). -/
def coilChecked (s : State) (el : Nat) : Bool := isBrake el && elUsed s el && !(elem s el).calBad

/-- A fault of the coil: where a pull-in is under way it ends, and its waveform is captured (Table OU-11). The conditions of
0x0401 to 0x0406 are gone in their own time tick (DESIGN CHOICE, log entry 99). -/
def coilFault (code b : Nat) (s : State) : State :=
  elemFault code b 0xFFFF 0 (if brakeCode s b = 1 then pullAbandon true b s else s)

/-- COIL_OPEN (R274): both switches have been demanded closed for 20 ms. -/
def execCoilOpen (_f b : Nat) (s : State) : Host.Outcome State Fault Refusal :=
  .next (if coilChecked s b ∧ elOn s b ∧ (elem s b).since + 20000000 ≤ s.time.opNs then coilFault 0x0401 b s else s)

/-- COIL_OVERCURRENT (R274). -/
def execCoilOvercurrent (_f b ma : Nat) (s : State) : Host.Outcome State Fault Refusal :=
  .next (if coilChecked s b ∧ driveB s b then
    coilFault 0x0402 b (modBrake b (fun x => { x with ma := min ma 4000 }) s)
  else s)

/-- Whether a brake has been in HOLD for `us` µs. -/
def holdFor (s : State) (b us : Nat) : Bool :=
  match brakeSlot s b with
  | some n =>
    let k := blk s (siteOf b) n
    decide (k.code = 2) && decide ((k.t0 + us) * 1000 ≤ s.time.now)
  | none => false

/-- HOLDING_CURRENT_FAULT (R274): outside ±20 % of the setting for 10 ms, once 20 ms have passed in HOLD (DEDUCED, log entry
103). -/
def execHoldingCurrentFault (_f b ma : Nat) (s : State) : Host.Outcome State Fault Refusal :=
  let h := brakeCfg (confOf s) b 3 2000
  .next (if coilChecked s b ∧ driveB s b ∧ holdFor s b 30000 ∧ h * 20 < ndist ma h * 100 then
    elemFault 0x0405 b 0xFFFF 0 (modBrake b (fun x => { x with ma := min ma 4000 }) s)
  else s)

/-- The dip of R275 among samples numbered from `n`: the peak so far, its number, and the fall that ends it. -/
def findDip (hi : Nat) : List Nat → Nat → Nat → Nat → Option Nat
  | [], _, _, _ => none
  | i :: is, n, pk, npk =>
    if hi < n * 100 then none
    else if pk < i then findDip hi is (n + 1) i n
    else if max 30 (pk * 3 / 100) ≤ pk - i then some (npk * 100)
    else findDip hi is (n + 1) pk npk

/-- The result of a pull-in: 0 passed, or the fault code (R275). -/
def signature (c : Conf) (el base : Nat) (dip : Option Nat) : Nat :=
  match dip with
  | none => 0x0403
  | some d =>
    if d < brakeCfg c el 5 10000 ∨ brakeCfg c el 6 200000 < d then 0x0403
    else if base ≠ 0 ∧ base * brakeCfg c el 7 15 < ndist d base * 100 then 0x0404
    else 0

/-- A passing dip enters the baseline (R276). -/
def BrakeLearn.add (d : Nat) (l : BrakeLearn) : BrakeLearn :=
  let dips := (d :: l.dips).take 64
  let n := min 64 (l.n + 1)
  let base := if n = 64 then meanOf dips else 0
  { l with dips := dips, n := n, base := base, initial := if l.n < 64 ∧ n = 64 then base else l.initial }

/-- Whether the baseline of a brake has left the wear warning percentage of its initial value (R276). -/
def worn (c : Conf) (el : Nat) (l : BrakeLearn) : Bool :=
  decide (l.base ≠ 0) && decide (l.initial * brakeCfg c el 8 25 < ndist l.base l.initial * 100)

/-- The wear warning of R276 is raised or goes. -/
def wearCheck (el : Nat) (s : State) : State :=
  if worn (confOf s) el (brakeLearn s el) then
    (if condPresent s 0x0409 el then s else fault 0x0409 el s)
  else if condPresent s 0x0409 el then gone 0x0409 el s else s

/-- SIGNATURE_DECISION (R275 to R277): `samples` are the coil currents from the first of at least 50 mA. With the
signature check off, the waveform alone is captured; a pull-in that raises 0x0403, 0x0404 or 0x0409 keeps its waveform
in any case (Table OU-11). -/
def execSignatureDecision (_f b : Nat) (samples : List Nat) (s : State) : Host.Outcome State Fault Refusal :=
  .next (if coilChecked s b ∧ (brake s b).pending then
    let c := confOf s
    let fl := brakeCfg c b 9 3
    let dip := findDip (brakeCfg c b 6 200000) samples 0 0 0
    let l := brakeLearn s b
    let chk := bit fl 0
    let code := if chk then signature c b l.base dip else 0
    let learns := chk && decide (code = 0) && bit fl 1
    let warns := learns && worn c b (l.add (dip.getD 0)) && !condPresent s 0x0409 b
    let keep := bit fl 2 || decide (code ≠ 0) || warns
    let s := if keep then bump (0x4078 + 0x200 * siteOf b + (offOf b - 0x60)) 1 s else s
    let s := modBrake b (fun x => { x with
      pending := false
      reached := x.reached || samples.any (fun v => decide (brakeCfg c b 2 3000 ≤ v))
      ma := min (samples.getLastD 0) 4000
      dip := if chk then dip.getD 0xFFFFFFFF else x.dip
      check := if !chk then x.check else if code = 0x0403 then 3 else if code = 0x0404 then 4 else if l.base = 0 ∧ bit fl 1 then 2 else 1
      wave := if keep then samples.take 2048 else x.wave
      waveTime := if keep then s.time.dev - (samples.length - 1) * 100000 else x.waveTime }) s
    if code ≠ 0 then
      elemFault code b 0xFFFF 0 (modBrakeLearn b (fun l => { l with sigFails := inc32 l.sigFails }) s)
    else if learns then wearCheck b (modBrakeLearn b (BrakeLearn.add (dip.getD 0)) s)
    else s
  else s)

/-- MECHANICAL_TEST_PHASE_END (R278): the phase has lasted its time without movement. One whose time ran out while the
array was held ends in the first tick after the test (R236). -/
def execMechanicalTestPhaseEnd (f b : Nat) (s : State) : Host.Outcome State Fault Refusal :=
  .next (match brakeSlot s b with
  | some n =>
    let k := blk s f n
    if inRun s ∧ k.code = 3 ∧ (fba s f).state = 1 then
      let t := max (k.t0 + phaseUs (confOf s) b k.phase) (fba s f).resumed
      let r := phaseEnd b t k (advance (t * 1000) s)
      let flt := bit (tget 0 (fba s f).outs n) 3
      let v := outs4 false (!r.1.mark) (decide (r.1.code = 3) && decide (r.1.phase < 3)) flt
      modFba f (fun a => { a with outsC := tset 0 a.outsC n v, blocksC := tset {} a.blocksC n r.1 })
        (setOuts f n v (setBlk f n r.1 r.2))
    else s
  | none => s)

/-- MECHANICAL_TEST_OVERDUE (R278): no test has passed within the interval. -/
def execMechanicalTestOverdue (_f b : Nat) (s : State) : Host.Outcome State Fault Refusal :=
  let h := brakeCfg (confOf s) b 0xC 0
  .next (if isBrake b ∧ elUsed s b ∧ h ≠ 0 ∧ (brakeLearn s b).lastPass + h * 3600 * second ≤ s.time.opNs
      ∧ !condPresent s 0x0407 b then fault 0x0407 b s else s)

/-! ### Relearn (R271, R276, R285) -/

/-- What was learned of the feedback of an output is cleared (R271). -/
def relearnOut (el : Nat) (s : State) : State :=
  modLearn el (fun l => { l with learned := 0, n := 0, total := 0, last16 := [], drift := 0 }) s

/-- What was learned of the dips of a brake is cleared (R276). -/
def relearnBrake (el : Nat) (s : State) : State :=
  modBrakeLearn el (fun l => { l with dips := [], base := 0, initial := 0, n := 0 }) s

/-- A write of 0x01 to a Relearn subindex: 0x6000 + 0x20·f + q:09 or 0x6010 + 0x20·f + b:09. -/
def relearn (idx : Nat) (s : State) : State :=
  let f := (idx - 0x6000) / 0x20
  let o := (idx - 0x6000) % 0x20
  if o < 0x10 then relearnOut (elemAt f (0x40 + o)) s else relearnBrake (elemAt f (0x60 + (o - 0x10))) s

/-- What R271 holds two images' EDM blocks of an output against: P0, P1 and the feedback net. -/
def edmKey (c : Conf) (f q : Nat) : List (Nat × Nat × Nat) :=
  ((netlist c f).filter (fun x => decide (x.ty = 0x18) && decide (x.p2 = q))).map (fun x => (x.p0, x.p1, x.ins.getD 1 0))

/-- Whether a committed image changes what is learned of output `q` of a site (R271). -/
def outputChanged (old new : Conf) (f q : Nat) : Bool :=
  let el := elemAt f (0x40 + q)
  decide (elMode old el ≠ elMode new el) || decide (elPar old el ≠ elPar new el) || decide (edmKey old f q ≠ edmKey new f q)

/-- Whether it changes the dip window of brake `b` (R276). -/
def windowChanged (old new : Conf) (f b : Nat) : Bool :=
  let el := elemAt f (0x60 + b)
  decide (brakeCfg old el 5 10000 ≠ brakeCfg new el 5 10000) || decide (brakeCfg old el 6 200000 ≠ brakeCfg new el 6 200000)

/-- What was learned of the outputs and brakes of a site that a committed image changes is cleared (R271, R276). -/
def relearnSite (old new : Conf) (f : Nat) (s : State) : State :=
  let s := ((upto 16).filter (outputChanged old new f)).foldl (fun a q => relearnOut (elemAt f (0x40 + q)) a) s
  ((upto 2).filter (windowChanged old new f)).foldl (fun a k => relearnBrake (elemAt f (0x60 + k)) a) s

/-- The same of every site. -/
def relearnChanged (old new : Conf) (s : State) : State :=
  (upto 7).foldl (fun a f => relearnSite old new f a) s

end Sys2Proof.Machine
end

