-- ==== Sys2Proof/Machine/Checks.lean ====
section
/-! DEFINITION. The configuration checks of R108 step 7 on a set of values: R182, R214, R239, R283, R18, R27,
R314, R310, R406 with R429, and R420. -/

namespace Sys2Proof.Machine

/-- One condition: the object and subindex it concerns (0, 0 where no single object is at fault), and
whether it holds (R360). -/
abbrev Chk := Nat × Nat × Bool

/-- What the checks run on: the values, the sites configured, and the capabilities of the device. -/
structure Plan where
  c : Conf
  sites : List Nat
  caps : List Nat := []
deriving DecidableEq, Repr, Inhabited

/-- Whether a site is configured. -/
def Plan.hasSite (p : Plan) (f : Nat) : Bool := p.sites.contains f

/-! ### Inputs and sources (R182) -/

/-- The windows of two sources never overlap (R163). -/
def windowsApart (c : Conf) (s t : Nat) : Bool :=
  let g := Nat.gcd (srcPeriod c s) (srcPeriod c t)
  let d := (srcPhase c t + (g - srcPhase c s % g)) % g
  decide (srcWmax c s + 70 ≤ d) && decide (srcWmax c t + 70 ≤ g - d)

/-- The conditions of R182 on a site. -/
def chkInputs (c : Conf) (f : Nat) : List Chk :=
  let srcs := siteSources f
  srcs.map (fun j => (cfgIdx j, 3, decide (srcPhase c j < srcPeriod c j)))
  ++ srcs.map (fun j => (cfgIdx j, 5, decide (srcWmin c j ≤ srcWmax c j)))
  ++ (siteInputs f).flatMap (fun i => match inSource c i with
    | none => []
    | some j => [(cfgIdx i, 3, srcPulses c j), (cfgIdx i, 2, decide (srcWmax c j + 100 ≤ inFilter c i))])
  ++ srcs.flatMap (fun s => (srcs.filter (fun t => decide (s < t))).map (fun t =>
    (0, 0, !srcPulses c s || !srcPulses c t || windowsApart c s t)))

/-! ### The pair table (R214) -/

/-- Whether an input has the OSSD flag. -/
def isOssd (c : Conf) (i : Nat) : Bool := bit (inFlags c i) 2

/-- The conditions of R214 on an entry. -/
def chkEntry (p : Plan) (e : Nat) : List Chk :=
  let c := p.c
  let o := 0x3E00 + e
  let k := pairKind c e
  let ch := pairChans c e
  let two := k = 1 ∨ k = 2
  let c1 := (pairChan c e 1).getD 0xFFFF
  let same := fun (d : Nat) => decide ((pairChan c d 1).map siteOf = some (siteOf c1))
  let others := (usedEntries c).filter (· ≠ e)
  [(o, 2, (pairChan c e 1).isSome), (o, 3, !decide two || (pairChan c e 2).isSome)]
  ++ ch.map (fun i => (o, 2, p.hasSite (siteOf i) && decide (inType c i ≠ 0)))
  ++ [(o, 3, decide (pairChan c e 1 ≠ pairChan c e 2)),
      (o, 2, ch.all (fun i => others.all (fun d => !(pairChans c d).contains i)))]
  ++ (match pairChan c e 1, pairChan c e 2 with
    | some i, some j =>
      [(0, 0, decide (inType c i = inType c j) && decide (inFilter c i = inFilter c j)
          && (isOssd c i == isOssd c j) && decide (inTol c i = inTol c j)),
       (o, 3, decide (siteOf i = siteOf j) || (decide two && p.caps.contains 9))]
    | _, _ => [])
  ++ (if (two ∧ pairMode c e ≠ 0) ∨ (k = 4 ∧ pairMode c e = 1) then
      [(o, 6, decide (pairKind c (pairReset c e) = 3))] else [])
  ++ (if pairReset c e ≠ 0 ∧ pairKind c (pairReset c e) = 3 then [(o, 6, same (pairReset c e))] else [])
  ++ (if k = 4 then
      [(o, 5, decide (pairMode c e ≤ 1)),
       (o, 8, (decide (pairKind c (pairLinked c e) = 1) || decide (pairKind c (pairLinked c e) = 2))
          && same (pairLinked c e)),
       (o, 8, others.all (fun d => !(decide (pairKind c d = 4) && decide (pairLinked c d = pairLinked c e))))] else [])

/-- The conditions of R197 on an OSSD input. -/
def chkOssd (c : Conf) (i : Nat) : List Chk :=
  if inType c i ≠ 0 ∧ isOssd c i then
    [(cfgIdx i, 3, decide (inSource c i = none)),
     (cfgIdx i, 5, decide (20 ≤ inTol c i) && decide (inTol c i ≤ 2000)),
     (cfgIdx i, 4, (usedEntries c).any (fun e => decide (pairKind c e = 1) && (pairChans c e).contains i
        && (pairChans c e).all (isOssd c)))]
  else []

/-- The conditions of R214. -/
def chkPairs (p : Plan) : List (List Chk) :=
  p.sites.map (fun f => (siteInputs f).flatMap (chkOssd p.c)) ++ [(usedEntries p.c).flatMap (chkEntry p)]

/-! ### Netlists (R239) -/

/-- The slots of a netlist, each with its record. -/
def rawSlots (b : List Byte) : List (Slot × List Byte) :=
  let n := min 512 (num b 4 2)
  (upto n).map (fun s => let r := (b.drop (16 + 32 * s)).take 32; (parseSlot r, r))

/-- The number of outputs of a block type (Table FB-3). -/
def outCount (ty : Nat) : Nat :=
  if (1 ≤ ty ∧ ty ≤ 6) ∨ (8 ≤ ty ∧ ty ≤ 0x0A) then 1
  else if ty = 0x10 ∨ ty = 0x11 ∨ ty = 0x19 then 4
  else if ty = 0x12 ∨ ty = 0x14 ∨ ty = 0x18 ∨ ty = 0x30 ∨ ty = 0x31 then 3
  else if ty = 0x13 ∨ ty = 0x21 ∨ ty = 0x28 then 2
  else 0

/-- A time parameter of a block within its range, a multiple of 10 µs (R223). -/
def timeOk (lo hi v : Nat) : Bool := decide (lo ≤ v) && decide (v ≤ hi) && decide (v % 10 = 0)

/-- The input count and the parameters of a block (Table FB-3). -/
def slotShape (x : Slot) (n : Nat) : Bool :=
  let ps := fun (a b c : Bool) => a && b && c
  let z := fun (v : Nat) => decide (v = 0)
  if x.ty = 1 ∨ x.ty = 2 then decide (2 ≤ n) && decide (n ≤ 8) && ps (z x.p0) (z x.p1) (z x.p2)
  else if x.ty = 3 then decide (n = 1) && ps (z x.p0) (z x.p1) (z x.p2)
  else if x.ty = 4 then decide (2 ≤ n) && decide (n ≤ 8) && decide (1 ≤ x.p0) && decide (x.p0 ≤ n) && z x.p1 && z x.p2
  else if x.ty = 5 then decide (n = 2) && ps (z x.p0) (z x.p1) (z x.p2)
  else if x.ty = 6 then decide (n = 1) && decide (x.p0 ≤ 1) && z x.p1 && z x.p2
  else if x.ty = 8 ∨ x.ty = 9 ∨ x.ty = 0x0A then decide (n = 1) && timeOk 10 600000000 x.p0 && z x.p1 && z x.p2
  else if x.ty = 0x10 ∨ x.ty = 0x11 then z n && decide (x.p0 ≤ 255) && decide (x.p0 ≠ 0)
    && (decide (x.p1 < 7 ∧ x.p2 < 63) || (decide (x.p1 = 0xFF) && z x.p2))
  else if x.ty = 0x12 ∨ x.ty = 0x14 then z n && decide (x.p0 ≤ 255) && decide (x.p0 ≠ 0) && z x.p1 && z x.p2
  else if x.ty = 0x13 then decide (n = 3) && (decide (x.p0 = 1) || decide (x.p0 = 2)) && z x.p1 && z x.p2
  else if x.ty = 0x18 then decide (n = 2) && timeOk 10000 2000000 x.p0 && timeOk 10000 2000000 x.p1 && decide (x.p2 ≤ 15)
  else if x.ty = 0x19 then decide (n = 4) && decide (x.p0 ≤ 1) && timeOk 500 50000 x.p1 && timeOk 10000 1000000 x.p2
  else if x.ty = 0x20 then decide (n = 1) && decide (x.p0 ≤ 63) && z x.p1 && z x.p2
  else if x.ty = 0x21 then z n && decide (x.p0 ≤ 6) && decide (x.p1 ≤ 63) && z x.p2
  else if x.ty = 0x28 then z n && (decide (x.p0 < 0x1A)) && z x.p1 && z x.p2
  else if x.ty = 0x30 then decide (n = 2) && decide (x.p0 ≤ 15) && timeOk 500 50000 x.p1 && z x.p2
  else if x.ty = 0x31 then decide (n = 2) && decide (x.p0 ≤ 7) && timeOk 500 50000 x.p1 && z x.p2
  else false

/-- A record is well formed: an empty one is all zero; otherwise its type, inputs and parameters fit and its
unused bytes are 0 (Table FB-5). -/
def recordOk (x : Slot) (r : List Byte) : Bool :=
  if x.ty = 0 then r.all (· = 0)
  else
    let n := num r 1 1
    decide (n ≤ 8) && slotShape x n && ((r.drop (2 + 2 * n)).take (16 - 2 * n)).all (· = 0)
      && decide (num r 31 1 = 0) && decide (x.ledger < 16)

/-- A net exists, and slot `s` of type `ty` may read it (R217, R219). -/
def netOk (l : List Slot) (s ty n : Nat) : Bool :=
  decide (n ≤ 6) || (decide (0x10 ≤ n) && decide (n < 0x70))
    || (decide (0x1000 ≤ n) && decide (n < 0x1800)
      && (let q := (n - 0x1000) / 4
        decide ((n - 0x1000) % 4 < outCount (l.getD q {}).ty) && (decide (q < s) || decide (ty ≤ 0x0A))))

/-- The slots of a list that are of a type and pass a test. -/
def countSlots (l : List Slot) (t : Slot → Bool) : Nat := (l.filter t).length

/-- The net that a SEND block of a site puts into a signal. -/
def sentBy (c : Conf) (f j : Nat) : Option Nat :=
  ((netlist c f).find? (fun x => decide (x.ty = 0x20) && decide (x.p0 = j))).map (fun x => x.ins.headD 0)

/-- A channel block names an entry of this die with the matching kind and OSSD flag, and the signals of a
cross-die channel (R225, R226). -/
def chanBlockOk (p : Plan) (f : Nat) (x : Slot) : Bool :=
  let c := p.c
  let e := x.p0
  let k := pairKind c e
  let ossd := (pairChans c e).any (isOssd c)
  decide ((pairChan c e 1).map siteOf = some f)
  && (if x.ty = 0x12 then decide (k = 3) else if x.ty = 0x14 then decide (k = 4)
    else (decide (k = 1) || decide (k = 2)) && (ossd == decide (x.ty = 0x11))
      && (match pairChan c e 2 with
        | none => false
        | some j =>
          if siteOf j = f then decide (x.p1 = 0xFF)
          else decide (x.p1 = siteOf j)
            && decide (sentBy c x.p1 x.p2 = some ((if k = 2 then 0x30 else 0x10) + offOf j))
            && decide (sentBy c x.p1 (x.p2 + 1) = some (0x50 + offOf j))))

/-- The switch code of R233 that a driving block names. -/
def switchCode (f : Nat) (x : Slot) : Option Nat := (drivenEl f x).map elBit

/-- The conditions of R226 to R233 on one slot of a netlist. -/
def chkSlot (p : Plan) (f : Nat) (l : List Slot) (s : Nat) (x : Slot) : Bool :=
  let nets := x.ins.all (netOk l s x.ty)
  -- output 0 of an ALANE block goes to input 1 of the block that drives the same switch, and nowhere else
  let alane := (upto x.ins.length).all (fun k =>
    let n := x.ins.getD k 0
    let y := l.getD ((n - 0x1000) / 4) {}
    !(decide (0x1000 ≤ n) && decide ((n - 0x1000) % 4 = 0) && decide (y.ty = 0x28))
      || (decide (k = 1) && decide (switchCode f x = some y.p0)))
  let own := if x.ty = 0x10 ∨ x.ty = 0x11 ∨ x.ty = 0x12 ∨ x.ty = 0x14 then
      chanBlockOk p f x && decide (countSlots l (fun y => decide (0x10 ≤ y.ty) && decide (y.ty ≤ 0x14)
        && decide (y.ty ≠ 0x13) && decide (y.p0 = x.p0)) = 1)
    else if x.ty = 0x13 then
      let a := x.ins.getD 1 0
      decide (x.ins.getD 2 0 = a + 1) && decide (0x1000 ≤ a) && decide ((a - 0x1000) % 4 = 0)
        && decide ((a - 0x1000) / 4 < s) && decide ((l.getD ((a - 0x1000) / 4) {}).ty = 0x12)
    else if x.ty = 0x20 then decide (countSlots l (fun y => decide (y.ty = 0x20) && decide (y.p0 = x.p0)) = 1)
    else if x.ty = 0x21 then decide (x.p0 ≠ f) && p.hasSite x.p0
    else if (drivenEl f x).isSome then decide (countSlots l (fun y => decide (drivenEl f y = drivenEl f x)) = 1)
    else true
  nets && alane && own

/-- The conditions of R239 on the netlist of a site. A site without a netlist has no slots. -/
def chkNetlist (p : Plan) (f : Nat) : List Chk :=
  let o := 0x3081 + 0x200 * f
  let b := netlistBytes p.c f
  let l := netlist p.c f
  let head := decide (num b 0 2 = 0x4C4E) && decide (num b 2 1 = 1) && decide (num b 3 1 = f)
    && decide (num b 4 2 ≤ 512) && decide (num b 6 2 = 0) && decide (num b 12 4 = 0)
    && decide (b.length = 16 + 32 * num b 4 2) && decide (num b 8 4 = crc32 (b.drop 16))
  if b = [] then []
  else (o, 1, head) :: ((rawSlots b).map (fun x => (o, 1, recordOk x.1 x.2))
    ++ ((upto l.length).zip l).map (fun x => (o, 1, chkSlot p f l x.1 x.2)))

/-- The conditions of R239: each netlist, and at most 64 entries in each evaluator (R215). -/
def chkNetlists (p : Plan) : List (List Chk) :=
  p.sites.map (fun f => chkNetlist p f ++ [(0, 0, decide ((siteEntries p.c f).length ≤ 64))])

/-! ### Outputs, returns, brakes (R283, R18, R27) -/

/-- The blocks of a netlist that drive an element. -/
def driversOf (c : Conf) (el : Nat) : List Slot :=
  (netlist c (siteOf el)).filter (fun x => decide (drivenEl (siteOf el) x = some el))

/-- Whether the outputs that name a return are what R249 lets it serve. A return that no output names is accepted
(DESIGN CHOICE, log entry 99). -/
def returnServes (c : Conf) (m : Nat) : Bool :=
  let qs := (siteOutputs (siteOf m)).filter (fun q => match outReturn c q with
    | some r => decide (setLow c r = setLow c m)
    | none => false)
  let lows := (qs.map (setLow c)).eraseDups
  decide (lows.length = 0) || (decide (lows.length = 1) && qs.all (fun q => decide (elPar c q = elPar c m))
      && (lows.flatMap (setMembers c)).all qs.contains)
    || (decide (lows.length = 2) && decide (elPar c m = 1) && qs.all (fun q => decide (elPar c q = 1)))

/-- The conditions of R283 on an element. A mismatch within a parallel set names the mode of its member (DESIGN CHOICE,
log entry 99). -/
def chkElem (c : Conf) (el : Nat) : List Chk :=
  let i := cfgIdx el
  let used := decide (elMode c el ≠ 0)
  let low := decide (setLow c el = el)
  let ds := driversOf c el
  [(i, 1, if used && low then decide (ds.length = 1) else decide (ds = []))]
  ++ (if elMode c el = 2 ∧ isOutput el then [(i, 2, match outReturn c el with
      | some m => decide (elMode c m ≠ 0) && returnServes c m
      | none => false)] else [])
  ++ (if used ∨ elPar c el ≠ 1 then [(i, 1, (setMembers c el).all (fun m =>
      decide (elMode c m = elMode c el) && decide (elPar c m = elPar c el)))] else [])
  ++ (if used ∧ low then ds.map (fun x => (i, if isReturn el then 3 else 4, decide (x.p1 = elAgree c el))) else [])
  ++ (if used ∧ isBrake el then
      [(i, 3, decide (brakeCfg c el 3 2000 ≤ brakeCfg c el 2 3000)),
       (i, 5, decide (brakeCfg c el 5 10000 < brakeCfg c el 6 200000)),
       (i, 6, ds.all (fun x => decide (brakeCfg c el 6 200000 + 2 * safetyCycle c + 10000 ≤ x.p2)))] else [])

/-- The conditions of R283. -/
def chkOutputs (p : Plan) : List (List Chk) := p.sites.map (fun f => (siteElems f).flatMap (chkElem p.c))

/-- The elements of a site in use that a block drives: one for each parallel set. -/
def usedLows (p : Plan) (f : Nat) : List Nat :=
  (siteElems f).filter (fun el => decide (elMode p.c el ≠ 0) && decide (setLow p.c el = el))

/-- The conditions of R18: a demand in both lanes. -/
def chkBothLanes (p : Plan) (f : Nat) : List Chk :=
  (usedLows p f).map (fun el => (cfgIdx el, 1, !(driversOf p.c el = []) && (ownerOf p.c el).isSome))

/-- The conditions of R27. -/
def chkAgreement (p : Plan) (f : Nat) : List Chk :=
  (usedLows p f).map (fun el => (cfgIdx el, if isReturn el then 3 else 4,
    decide (2 * safetyCycle p.c + 150 ≤ elAgree p.c el)))

/-! ### The program (R314, R310) -/

/-- The sections of the program: offset and length. -/
def sections (c : Conf) : List (Nat × Nat) :=
  (upto 3).flatMap (fun i => let q := partOf c i; [(q.codeOff, q.codeLen), (q.dataOff, q.dataLen)])

/-- Two sections share no byte. -/
def apart (a b : Nat × Nat) : Bool :=
  decide (a.2 = 0) || decide (b.2 = 0) || decide (a.1 + a.2 ≤ b.1) || decide (b.1 + b.2 ≤ a.1)

/-- Every two of a list of sections are apart. -/
def allApart : List (Nat × Nat) → Bool
  | [] => true
  | a :: l => l.all (apart a) && allApart l

/-- Whether the header and the descriptors are well formed (Table PL-7). -/
def progHead (b : List Byte) : Bool :=
  decide (num b 0 2 = 0x504C) && decide (num b 2 1 = 1) && decide (num b 3 1 = 3)
    && decide (250 ≤ num b 4 4) && decide (num b 4 4 ≤ 20000) && decide (num b 4 4 % 50 = 0)
    && decide (num b 8 4 = crc32 (b.drop 64)) && ((b.drop 12).take 52).all (· = 0) && decide (256 ≤ b.length)
    && (upto 3).all (fun p => (upto 3).any (fun i => decide (num b (64 + 64 * i) 1 = p)))
    && (upto 3).all (fun i => decide (num b (65 + 64 * i) 3 = 0) && decide (num b (94 + 64 * i) 2 = 0))

/-- The conditions of R314. -/
def chkProgram (p : Plan) : List Chk :=
  let c := p.c
  let b := progBytes c
  let ok := fun (v : Bool) => (0x3F00, 1, v)
  [ok (progHead b), ok ((sections c).all (fun s => decide (s.2 = 0) || (decide (256 ≤ s.1) && decide (s.1 + s.2 ≤ b.length)))),
   ok (allApart (sections c))]
  ++ (upto 3).map (fun i => let q := partOf c i
    ok (decide (2 ≤ q.codeLen) && decide (q.codeLen ≤ 131072) && decide (q.codeLen % 2 = 0) && decide (q.dataLen ≤ 65536)
      && decide (q.entry % 2 = 0) && decide (q.entry < q.codeLen) && decide (q.tmin * 400 ≤ q.wcet)))
  ++ (upto 7).flatMap (fun f => (siteElems f).map (fun el =>
    let n := ((upto 3).filter (fun i => owns c i el)).length
    ok (decide (n ≤ 1) && (decide (n = 0) || p.hasSite f)
      && (driversOf c el = [] || decide (n = 1)))))

/-- The conditions of R310: a slack of at least 24,000 core cycles. -/
def chkSlack (p : Plan) : List Chk :=
  (upto 3).map (fun i => (0x3F00, 1, decide ((partOf p.c i).wcet + 24000 ≤ safetyCycle p.c * 400)))

/-! ### Connections (R406, R429) and SPI (R420) -/

/-- The index of a capability on this device. -/
def capAt (caps : List Nat) (id : Nat) : Nat := 0x2001 + caps.idxOf id

/-- This device's number in the safety domain (R399). -/
def deviceNo (c : Conf) (caps : List Nat) : Nat := cnum c (capAt caps 3) 5 0

/-- The identity of a connection (R399). -/
def connIdent (c : Conf) (caps : List Nat) (k : Nat) : Nat :=
  let me := deviceNo c caps
  let peer := connCfg c k 2 0
  let src := if connDir c k = 2 then peer else me
  let dst := if connDir c k = 2 then me else peer
  src * 2 ^ 20 + dst * 256 + connCfg c k 3 0

/-- Whether a route of Table NW-11 leads through an enabled port. -/
def routeOn (c : Conf) (r : Nat) : Bool :=
  if r < 2 then decide (cnum c (0x2B00 + 4 * r) 0xB 0 ≠ 0) && (upto 4).any (fun q => decide (cnum c (0x2B00 + 4 * r + q) 1 0 ≠ 0))
  else if r < 4 then decide (cnum c (0x2B10 + (r - 2)) 1 0 ≠ 0)
  else decide (cnum c (0x2B20 + (r - 4)) 1 0 ≠ 0)

/-- The routes of a connection. -/
def connRoutes (c : Conf) (k : Nat) : List Nat := (upto 12).filter (fun r => bit (connCfg c k 5 0) r)

/-- Whether a connection carries a MAC: category 3, or pairing (R402, R414). -/
def connMac (c : Conf) (k : Nat) : Bool := bit (connCfg c k 7 0) 0 || decide (connDir c k = 3)

/-- Two send patterns that share a boundary: some cycle number meets both (R404). -/
def meets (a b : Nat × Nat × Nat) : Bool :=
  let g := Nat.gcd a.1 b.1
  decide (a.2.1 % g = b.2.1 % g)

/-- Whether some boundary's build times exceed a limit (R405, R406): telegrams as interval, phase and build
time; `acc` is the time of those already taken, which all share a boundary. -/
def buildOver (limit : Nat) : List (Nat × Nat × Nat) → List (Nat × Nat × Nat) → Nat → Bool
  | [], _, acc => decide (limit < acc)
  | x :: xs, taken, acc =>
    if acc + (x :: xs).foldl (fun n y => n + y.2.2) 0 ≤ limit then false
    else (taken.all (meets x) && buildOver limit xs (x :: taken) (acc + x.2.2)) || buildOver limit xs taken acc

/-- The conditions of R406 and R429. -/
def chkConns (p : Plan) : List Chk :=
  let c := p.c
  let ks := usedConns c
  let sends := (ks.filter (fun k => decide (connDir c k = 1))).map (fun k =>
    (max 1 (connCfg c k 8 1), connCfg c k 9 0, if connMac c k then 3 else 1))
  ks.flatMap (fun k =>
    let o := 0x2C00 + k
    let mac := bit (connCfg c k 7 0) 0
    [(o, 2, decide (connCfg c k 2 0 ≠ deviceNo c p.caps)),
     (o, 5, (connRoutes c k).all (routeOn c)),
     (o, 6, !((connRoutes c k).any (fun r => r == 2 || r == 3))
        || decide (connCfg c k 6 0 ≤ (if connMac c k then 34 else 42))),
     (o, 7, !mac || (p.caps.contains 0x0A && bit (connCfg c k 7 0) 1 && decide (connCfg c k 0xC 0 ≠ 0))),
     (o, 6, decide (connDir c k ≠ 3) || decide (connCfg c k 6 0 = 64)),
     (o, 9, decide (connCfg c k 9 0 < connCfg c k 8 1)),
     (o, 1, decide (connDir c k ≠ 3) || p.caps.contains 0x0B),
     (0, 0, ks.all (fun j => decide (j = k) || decide (connIdent c p.caps j ≠ connIdent c p.caps k)))])
  ++ [(0, 0, !buildOver 200 sends [] 0)]

/-- The time of an SPI transfer in 5 ns: 2 µs and 8 bits a byte at 200 MHz over the divider (R420). -/
def spiTime (c : Conf) (j : Nat) : Nat :=
  if cnum c (0x2B30 + j) 1 0 = 0 then 0 else 400 + 8 * cnum c (0x2B30 + j) 4 1 * cnum c (0x2B30 + j) 3 200

/-- The conditions of R420. -/
def chkSpi (p : Plan) : List Chk :=
  (upto 2).map (fun s => (0, 0, decide (spiTime p.c (2 * s) + spiTime p.c (2 * s + 1) + 4000 ≤ safetyCycle p.c * 200)
    || decide (spiTime p.c (2 * s) + spiTime p.c (2 * s + 1) = 0)))

/-! ### All of them -/

/-- The place of a condition among those of a site: ascending index and subindex, and those that name no single
object after all others (DESIGN CHOICE, log entry 72). -/
def Chk.place (x : Chk) : Nat := if x.1 = 0 then 0x1000000 else x.1 * 256 + x.2.1

/-- The condition of a site that fails first in the order of R108 step 7. -/
def siteBad (l : List Chk) : Option Chk :=
  (l.filter (fun x => !x.2.2)).foldl (fun m x => match m with
    | none => some x
    | some y => if x.place < y.place then some x else some y) none

/-- The first condition that does not hold: the sites in turn, and each in the order of its objects. -/
def firstBad (code : Nat) (l : List (List Chk)) : Option (Nat × Nat × Nat) :=
  (l.findSome? siteBad).map (fun x => (code, x.1, x.2.1))

/-- The checks of R108 step 7 in their order: the code of the first that fails, with its object. -/
def configCheck (p : Plan) : Option (Nat × Nat × Nat) :=
  (firstBad 0x0F04 (p.sites.map (chkInputs p.c)))
  |>.or (firstBad 0x0F05 (chkPairs p))
  |>.or (firstBad 0x0F06 (chkNetlists p))
  |>.or (firstBad 0x0F07 (chkOutputs p))
  |>.or (firstBad 0x0F02 (p.sites.map (chkBothLanes p)))
  |>.or (firstBad 0x0F03 (p.sites.map (chkAgreement p)))
  |>.or (firstBad 0x0F09 [chkProgram p])
  |>.or (firstBad 0x0F08 [chkSlack p])
  |>.or (firstBad 0x0F0A [chkConns p])
  |>.or (firstBad 0x0F0B [chkSpi p])

end Sys2Proof.Machine
end

