-- ==== Sys2Proof/Machine/Power.lean ====
section
/-! DEFINITION. The commands of supplies, temperatures, hold-up and the debug port (R61, R64, R65, R76, R77,
R80, R102). -/

namespace Sys2Proof.Machine

/-- Whether a state is STARTUP_TEST or a later one (R64). -/
def fromStartup (s : State) : Bool :=
  match s.ctl.st with
  | .reset | .fuseSense => false
  | .startupTest | .configLoad | .safe | .run | .configure | .maintenance | .halt => true

/-- Change the supplies and monitors. -/
def modPower (g : Power → Power) (s : State) : State := { s with power := g s.power }

/-- Whether a rail lies outside its monitor limits (R64). -/
def railBad (r : Rail) (mv : Nat) : Bool :=
  match r with
  | .vddc => decide (mv < 830) || decide (1000 < mv)
  | .vioc | .vaux => decide (mv < 3000) || decide (3600 < mv)

/-- Readings of the rails enter their registers, within the range of these (Table CK-7). -/
def setRails (x : Rails) (s : State) : State :=
  modPower (fun p => { p with rails := {
    vddc := min 40000 x.vddc, vioc := min 40000 x.vioc, vion := min 40000 x.vion, vaux := min 40000 x.vaux } }) s

/-- A reading of VHOLD. -/
def setVhold (mv : Nat) (s : State) : State := modPower (fun p => { p with vhold := min 40000 mv }) s

/-- A startup hold: the step that failed sets BOOT_ST, and no later step runs (R43). -/
def holdAt (code : Nat) (s : State) : State :=
  { s with ctl := { s.ctl with boot := code, hold := true, step := .none } }

/-- Whether a clock of the C die stands outside its limit (Table CK-1). -/
def clocksBad (s : State) : Bool :=
  [0, 1, 2, 3, 4, 6, 9].any (bit s.power.clockStatus) || bit s.power.escBad 7

/-- A reading of a rail. -/
def Rails.set (r : Rail) (mv : Nat) (x : Rails) : Rails :=
  match r with
  | .vddc => { x with vddc := mv }
  | .vioc => { x with vioc := mv }
  | .vaux => { x with vaux := mv }

/-- The fault of a rail (Table CK-5). -/
def railCode (r : Rail) : Nat :=
  match r with
  | .vddc => 0x0B01
  | .vioc | .vaux => 0x0B02

/-- A fault that ends in HALT without a further command: its report, and those that wait with it, are committed as they
fall due, until its own is (R341). -/
def faultHalt (code src : Nat) (s : State) : State :=
  let s := fault code src s
  commitAll (advance (s.time.now + 20000) s)

/-- C_SUPPLY_MONITOR_TRIP (R64): an L4 fault, and HALT with its flush from VHOLD at its commit. A
reset in which a rail left its range is not one of RESET_N alone (R87), and it ends only after the rails have settled
again (R62). -/
def execCSupplyMonitorTrip (r : Rail) (mv : Nat) (s : State) : Host.Outcome State Fault Refusal :=
  .next (if fromStartup s && railBad r mv then
    let s := setRails (Rails.set r mv s.power.rails) s
    faultHalt (railCode r) 0x0760 { s with ctl := { s.ctl with resetLatch := false, released := false } }
  else s)

/-- PFAIL_N_LOW (R65): 0x0B03 at L4, HALT and the flush from VHOLD. -/
def execPfailNLow (s : State) : Host.Outcome State Fault Refusal :=
  let s := modPower (fun p => { p with pfailHigh := false }) s
  .next (if fromStartup s then faultHalt 0x0B03 0x0760 s else s)

/-- The inputs of a site that are in use. -/
def usedInputs (c : Conf) (f : Nat) : List Nat := (siteInputs f).filter (fun i => decide (inType c i ≠ 0))

/-- VFLD_L_TRIP (R64, R159): below 16.8 V for 2 ms, above 33 V, or below 12 V, where the status link and
the queued edge events of the die are lost. Both lanes read the inputs of the site as OFF. -/
def execVfldLTrip (f mv : Nat) (s : State) : Host.Outcome State Fault Refusal :=
  .next (if fromStartup s ∧ populated s f ∧ (mv < 16800 ∨ 33000 < mv) then
    let s := modPower (fun p => { p with
      vfldL := tset 0 p.vfldL f (min mv 45000), vfldLTrip := tset false p.vfldLTrip f true }) s
    let s := forceInputs (usedInputs (confOf s) f) f s
    let s := if mv < 12000 then
        modIsland f (fun i => { i with linkOk := false })
          (modSiteIn f (fun q => { q with events := [], lostMark := true }) s)
      else s
    settleSite f (faultNew 0x0B04 (elemAt f 0x73) s)
  else s)

/-- VFLD_L_TRIP_END (R64): in range for 100 ms with a valid status link. The condition and the forcing end. -/
def execVfldLTripEnd (f mv : Nat) (s : State) : Host.Outcome State Fault Refusal :=
  .next (if tget false s.power.vfldLTrip f ∧ 16800 ≤ mv ∧ mv ≤ 33000 ∧ (island s f).linkOk then
    let s := modPower (fun p => { p with
      vfldL := tset 0 p.vfldL f mv, vfldLTrip := tset false p.vfldLTrip f false }) s
    settleSite f (unforceInputs (usedInputs (confOf s) f) f (goneIf 0x0B04 (elemAt f 0x73) s))
  else s)

/-- Whether VIO_N meets a condition of R61. -/
def vioNBad (nv33 : Bool) (mv : Nat) : Bool :=
  let n := if nv33 then 3300 else 1800
  decide (n < 20 * ndist mv n) || (decide (2200 ≤ mv) && decide (mv ≤ 2900))

/-- VIO_N_FAULT (R64): a condition of R61 for 2 µs, after STARTUP_TEST. -/
def execVioNFault (mv : Nat) (s : State) : Host.Outcome State Fault Refusal :=
  .next (if fromStartup s ∧ s.ctl.st ≠ .startupTest ∧ vioNBad s.ctl.nvsel33 mv then
    faultNew 0x0B09 0x0760 (setRails { s.power.rails with vion := mv } s)
  else s)

/-- VIO_N_CONDITION_GONE (R64): VIO_N has met neither condition for 2 ms. -/
def execVioNConditionGone (mv : Nat) (s : State) : Host.Outcome State Fault Refusal :=
  .next (if fromStartup s ∧ !vioNBad s.ctl.nvsel33 mv then
    goneIf 0x0B09 0x0760 (setRails { s.power.rails with vion := mv } s)
  else s)

/-! ### Temperatures (R76) -/

/-- The source number of a die: F die 0 to 6, or 7 for the C die. -/
def dieOf (d : Nat) : Nat := if d = 7 then 0x07FF else dieSrc d

/-- Whether the device has a die. -/
def hasDie (s : State) (d : Nat) : Bool := decide (d = 7) || populated s d

/-- A temperature reading, within the range of its register (Table CK-7). -/
def setTemp (d : Nat) (t : Int) (s : State) : State :=
  modPower (fun p => { p with temps := tset 0 p.temps d (clamp (-400) 1700 t) }) s

/-- DIE_TEMPERATURE_WARNING: 140 °C. -/
def execDieTemperatureWarning (d : Nat) (t : Int) (s : State) : Host.Outcome State Fault Refusal :=
  .next (if fromStartup s ∧ hasDie s d ∧ 1400 ≤ t then faultNew 0x0B06 (dieOf d) (setTemp d t s) else s)

/-- F_DIE_OVERTEMPERATURE: 155 °C for 1 ms. -/
def execFDieOvertemperature (f : Nat) (t : Int) (s : State) : Host.Outcome State Fault Refusal :=
  .next (if fromStartup s ∧ populated s f ∧ 1550 ≤ t then
    settleSite f (faultNew 0x0B07 (dieSrc f) (setTemp f t s)) else s)

/-- C_DIE_OVERTEMPERATURE: 155 °C for 1 ms. -/
def execCDieOvertemperature (t : Int) (s : State) : Host.Outcome State Fault Refusal :=
  .next (if fromStartup s ∧ 1550 ≤ t then faultNew 0x0B08 0x07FF (setTemp 7 t s) else s)

/-- DIE_TEMPERATURE_CLEAR: below 135 °C, the warning and the trip of an F die are gone. -/
def execDieTemperatureClear (d : Nat) (t : Int) (s : State) : Host.Outcome State Fault Refusal :=
  .next (if fromStartup s ∧ hasDie s d ∧ t < 1350 then
    let s := goneIf 0x0B06 (dieOf d) (setTemp d t s)
    if d < 7 then goneIf 0x0B07 (dieSrc d) s else s
  else s)

/-! ### Hold-up (R77, R80, R444) -/

/-- VHOLD_SHORT_DETECTED: below 2 V after 100 ms, the charger stops. -/
def execVholdShortDetected (mv : Nat) (s : State) : Host.Outcome State Fault Refusal :=
  .next (if s.power.charging ∧ mv < 2000 then
    modPower (fun p => { p with charging := false }) (setVhold mv s) else s)

/-- VHOLD_LOW: 0x0B05, and the Ledger keeps to its hold-up measures. -/
def execVholdLow (mv : Nat) (s : State) : Host.Outcome State Fault Refusal :=
  .next (if fromStartup s ∧ mv < 22000 then
    let s := setVhold mv s
    faultNew 0x0B05 0x0760 { s with led := { s.led with holdup := true } }
  else s)

/-- VHOLD_CHARGED: at 22.0 V or more, the condition is gone. -/
def execVholdCharged (mv : Nat) (s : State) : Host.Outcome State Fault Refusal :=
  .next (if s.ctl.st ≠ .reset ∧ 22000 ≤ mv then
    let s := setVhold mv s
    goneIf 0x0B05 0x0760 { s with led := { s.led with holdup := false } }
  else s)

/-- The flush ends without the pages that still wait; their records are lost (R330). The cause of the flush is readable at the next mount
only where its record was programmed (R80, R87). -/
def dropFlush (s : State) : State :=
  let lost := s.led.queued.any (fun p => p.recs.any (fun r =>
    decide (r.type = 1) && decide (r.code = s.led.flushCode)))
  loseAll (unprogrammed s) { s with led := { s.led with
    state := 3, queued := [], openRecs := [], flushCode := if lost then 0 else s.led.flushCode } }

/-- HOLDUP_EXHAUSTED (R80): below 16.0 V the converter stops; the pages that were complete stay. -/
def execHoldupExhausted (s : State) : Host.Outcome State Fault Refusal :=
  .next (if s.led.state = 2 then dropFlush (modPower (fun p => { p with exhausted := true }) s) else s)

/-! ### The debug port (R102) -/

/-- TAP_STATE_CHANGE: with the port open, the TAP leaves Test-Logic-Reset; in RUN that is an L4 fault. R112 gives the
condition of 0x0909 no end; it lasts until the next reset (DESIGN CHOICE, log entry 71). -/
def execTapStateChange (s : State) : Host.Outcome State Fault Refusal :=
  .next (if fromStartup s ∧ debugOpen s then
    let s := { s with fuses := { s.fuses with tapActive := true } }
    if inRun s then fault 0x0909 0x0740 s else s
  else s)

end Sys2Proof.Machine
end

