-- ==== Sys2Proof/Machine/Net.lean ====
section
/-! DEFINITION. The operations of the network ports: Ethernet switches and stations, CAN ports and Genxon
links, their settings in the present state, their queues and their Ledger records (R382 to R397). -/

namespace Sys2Proof.Machine

/-! ### Access -/

/-- An Ethernet port. -/
def ethPort (s : State) (p : Nat) : EthPort := tget {} s.net.ports p
/-- A switch with its station: 0 A, 1 B. -/
def switch (s : State) (w : Nat) : Switch := tget {} s.net.switches w
/-- A CAN port. -/
def canPort (s : State) (n : Nat) : CanPort := tget {} s.net.cans n
/-- A Genxon link. -/
def link (s : State) (l : Nat) : LinkSt := tget {} s.net.links l
/-- Change an Ethernet port. -/
def modPort (p : Nat) (g : EthPort → EthPort) (s : State) : State :=
  { s with net := { s.net with ports := tmod {} s.net.ports p g } }
/-- Change a switch. -/
def modSwitch (w : Nat) (g : Switch → Switch) (s : State) : State :=
  { s with net := { s.net with switches := tmod {} s.net.switches w g } }
/-- Change a CAN port. -/
def modCan (n : Nat) (g : CanPort → CanPort) (s : State) : State :=
  { s with net := { s.net with cans := tmod {} s.net.cans n g } }
/-- Change a link. -/
def modLink (l : Nat) (g : LinkSt → LinkSt) (s : State) : State :=
  { s with net := { s.net with links := tmod {} s.net.links l g } }

/-! ### Settings in the present state (R385, R390) -/

/-- A srw value of a capability object. -/
def capNum (s : State) (id sub d : Nat) : Nat := cnum (confOf s) (capAt s.fuses.caps id) sub d

/-- Whether the network settings are the defaults: until an image is in force (R385, R390). -/
def netDefault (s : State) : Bool :=
  match s.ctl.st with
  | .startupTest | .configLoad => true
  | .reset | .fuseSense | .safe | .run | .configure | .maintenance | .halt => !configured s

/-- Whether ports can run: from STARTUP_TEST on (R43), and not in HALT, where the domains NET and LINK are off
(Table CK-4). -/
def awake (s : State) : Bool :=
  match s.ctl.st with
  | .reset | .fuseSense | .halt => false
  | .startupTest | .configLoad | .safe | .run | .configure | .maintenance => true

/-- Whether the Ethernet ports run: their domain has not failed (R470). -/
def netOn (s : State) : Bool := awake s && !bit s.power.domainsFailed 4

/-- Whether an Ethernet port is enabled. -/
def portEnabled (s : State) (p : Nat) : Bool :=
  netOn s && decide (p < 8)
    && (if netDefault s then decide (p < 4) else decide (cnum (confOf s) (0x2B00 + p) 1 0 ≠ 0))

/-- Whether an Ethernet port carries frames. -/
def portUp (s : State) (p : Nat) : Bool := portEnabled s p && (ethPort s p).up

/-- The 64-bit serial number. -/
def serialNo (s : State) : Nat := unbe (serialBytes s)

/-- The IPv4 address of a station; 0 is disabled (R385). -/
def stationIp (s : State) (w : Nat) : Nat :=
  if netDefault s then
    (if w = 0 then
      let n := serialNo s
      169 * 2 ^ 24 + 254 * 2 ^ 16 + (1 + n % 254) * 256 + (1 + n / 254 % 254)
    else 0)
  else cnum (confOf s) (0x2B00 + 4 * w) 0xB 0

/-- The MAC address of a station (R383). -/
def stationMac (s : State) (w : Nat) : Nat :=
  2 * 2 ^ 40 + (serialNo s % 2 ^ 32) * 256 + (if w = 0 then 0x0A else 0x0B)

/-- The mode of a switch: 0 plain, 1 PRP, 2 HSR (R387). -/
def switchMode (s : State) (w : Nat) : Nat := if netDefault s then 0 else capNum s 4 (4 + w) 0

/-- The node-ID of a CAN port; 0 is silent (R390). -/
def canNode (s : State) (n : Nat) : Nat :=
  if netDefault s then (if n = 0 then 127 else 0) else cnum (confOf s) (0x2B10 + n) 1 0

/-- Whether a CAN port runs: CN0 from STARTUP_TEST on, HALT included, CN1 not in HALT (Table AR-6, R392). -/
def canRuns (s : State) (n : Nat) : Bool :=
  fromStartup s && decide (n < 2) && decide (canNode s n ≠ 0) && (decide (n = 0) || decide (s.ctl.st ≠ .halt))

/-- The next hop towards an IPv4 address from a station: the address itself on the station's subnet, else the station's
gateway where it has one (R385, Table NW-8); the defaults have none. -/
def nextHop (s : State) (w ip : Nat) : Nat :=
  if netDefault s then ip
  else
    let m := cnum (confOf s) (0x2B00 + 4 * w) 0xC 0xFFFFFF00
    let g := cnum (confOf s) (0x2B00 + 4 * w) 0xD 0
    if ip &&& m = stationIp s w &&& m ∨ g = 0 then ip else g

/-- The VLAN settings of a station, 0x2B00 or 0x2B04:0E (Table NW-8): bits 11–0 VID, bits 14–12 priority of Genxon Safe
telegrams, bit 15 tag sent frames. -/
def vlanOf (s : State) (w : Nat) : Nat := if netDefault s then 0 else cnum (confOf s) (0x2B00 + 4 * w) 0xE 0

/-- Whether a Genxon link is in use. -/
def linkOn (s : State) (l : Nat) : Bool :=
  awake s && !bit s.power.domainsFailed 5 && !netDefault s && decide (l < 8) && decide (cnum (confOf s) (0x2B20 + l) 1 0 ≠ 0)

/-! ### Records (R388) -/

/-- A network record: a port's new state. -/
def netNote (code src st : Nat) (s : State) : State :=
  ledgerPut { type := 6, rank := 5, source := src, code := code, data := le 1 st } s

/-- The redundancy state of a switch: 0 plain, 1 both paths, 2 one path lost (Table NW-10). -/
def redundancy (s : State) (w : Nat) : Nat :=
  if switchMode s w = 0 then 0
  else
    let ok := fun p => (ethPort s p).up && !(ethPort s p).supLost
    if ok (4 * w) && ok (4 * w + 1) then 1 else 2

/-- A change that may alter the redundancy of a switch: a change of it is recorded. -/
def withRedundancy (w : Nat) (f : State → State) (s : State) : State :=
  let t := f s
  if redundancy t w = redundancy s w then t else netNote 3 (0x0710 + 4 * w) (redundancy t w) t

/-! ### Transmit queues (R386) -/

/-- Whether a frame carries a Genxon Safe telegram. -/
def isTelegram (fr : EthFrame) : Bool :=
  match fr.content with
  | .genxon _ => true
  | .arp _ _ _ _ | .icmpEcho _ | .kdp _ _ _ _ _ | .ptp _ | .supervision | .other => false

/-- The PTP message of a frame. -/
def ptpOf (fr : EthFrame) : Option PtpMsg :=
  match fr.content with
  | .ptp m => some m
  | .arp _ _ _ _ | .icmpEcho _ | .kdp _ _ _ _ _ | .genxon _ | .supervision | .other => none

/-- A count in ns at the 8 ns resolution of the timestamps at the RGMII pins (R389). -/
def stamp8 (t : Nat) : Nat := t - t % 8

/-- Whether a Follow_Up or a Delay_Resp carries on the residence time of an event message: a Sync or a Delay_Req of the
same domain, source port and sequence number (R389). -/
def carriesOn (m e : PtpMsg) : Bool :=
  ((decide (m.kind = .followUp) && decide (e.kind = .sync)) || (decide (m.kind = .delayResp) && decide (e.kind = .delayReq)))
    && decide (m.domain = e.domain) && decide (m.source = e.source) && decide (m.seq = e.seq)

/-- The residence times that a port holds enter the correction field of a message that carries them on (R389). -/
def EthPort.correct (m : PtpMsg) (x : EthPort) : PtpMsg × EthPort :=
  let l := x.residences.filter (fun e => carriesOn m e.1)
  ({ m with correction := m.correction + ((l.map (·.2)).sum : Nat) },
    { x with residences := x.residences.filter (fun e => !carriesOn m e.1) })

/-- A forwarded frame leaves at `now` (R389): the residence time of an event message is kept, and a Follow_Up takes that
of its Sync. -/
def EthPort.depart (now : Nat) (fr : EthFrame) (x : EthPort) : EthPort :=
  match ptpOf fr with
  | some m =>
    if fr.arrived = 0 then { x with sending := some fr }
    else if m.kind = .sync ∨ m.kind = .delayReq then
      { x with sending := some fr, residences := (m, stamp8 now - stamp8 (fr.arrived - 1)) :: x.residences }
    else if m.kind = .followUp then
      let (m, x) := x.correct m
      { x with sending := some { fr with content := .ptp m } }
    else { x with sending := some fr }
  | none => { x with sending := some fr }

/-- The frame that a port sends next, by strict priority. -/
def EthPort.next (now : Nat) (x : EthPort) : EthPort :=
  match x.q3 with
  | f :: r => { x with q3 := r }.depart now f
  | [] => match x.q2 with
    | f :: r => { x with q2 := r }.depart now f
    | [] => match x.q1 with
      | f :: r => { x with q1 := r }.depart now f
      | [] => match x.q0 with
        | f :: r => { x with q0 := r }.depart now f
        | [] => { x with sending := none }

/-- Whether a queue has room. -/
def EthPort.room (q : Nat) (x : EthPort) : Bool :=
  if q = 3 then decide (x.q3.length < 32) else if q = 2 then decide (x.q2.length < 8)
  else if q = 1 then decide (x.q1.length < 32) else decide (x.q0.length < 64)

/-- A frame enters a queue; an idle port begins with it at once. -/
def EthPort.put (now q : Nat) (fr : EthFrame) (x : EthPort) : EthPort :=
  let y := if q = 3 then { x with q3 := x.q3 ++ [fr] } else if q = 2 then { x with q2 := x.q2 ++ [fr] }
    else if q = 1 then { x with q1 := x.q1 ++ [fr] } else { x with q0 := x.q0 ++ [fr] }
  if y.sending.isNone then y.next now else y

/-- Hand a frame to a queue of a port that is up; a full queue discards and counts it, and a telegram that it discards is a
breach of rank 2 (R328, R386). -/
def sendPort (p q : Nat) (fr : EthFrame) (s : State) : State :=
  if !portUp s p then s
  else if (ethPort s p).room q then modPort p (EthPort.put s.time.now q fr) s
  else
    let s := modPort p (fun x => { x with queueDrops := inc32 x.queueDrops }) s
    if isTelegram fr then breach 2 0 s else s

/-- The broadcast address. -/
def bcast : Nat := 0xFFFFFFFFFFFF

/-- Whether an address is a group address. -/
def isGroup (mac : Nat) : Bool := bit mac 40

/-- The ports of a switch. -/
def portsOf (w : Nat) : List Nat := (upto 4).map (4 * w + ·)

/-- Send on several ports. -/
def sendPorts (l : List Nat) (q : Nat) (fr : EthFrame) (s : State) : State :=
  l.foldl (fun a p => sendPort p q fr a) s

/-- A frame of a station as it is sent: with the tag of its VLAN where the station's setting says so, telegrams at the
set priority and any other frame at priority 0 (Table NW-8; log entry 20). A tag is 4 bytes long. -/
def tagged (w : Nat) (fr : EthFrame) (s : State) : EthFrame :=
  let v := vlanOf s w
  if bit v 15 then
    { fr with length := fr.length + 4, pcp := some (if isTelegram fr then field v 12 3 else 0), vid := field v 0 12 }
  else fr

/-- A station sends a frame (R383, R387), tagged as its VLAN setting says. In plain mode it leaves by the port its address was learned on,
or by every port. In PRP and HSR it leaves by both ports of the pair with the next sequence number, and by
ports 2 and 3 where the address is a group or was learned there. -/
def stationSend (w q : Nat) (fr : EthFrame) (s : State) : State :=
  let fr := tagged w fr s
  let learned := tfind (switch s w).macs fr.dst
  if switchMode s w = 0 then
    match learned with
    | some p => sendPort p q fr s
    | none => sendPorts (portsOf w) q fr s
  else
    let far := decide (learned = some (4 * w + 2)) || decide (learned = some (4 * w + 3))
    let s := if far || isGroup fr.dst then
        (match learned with
          | some p => if isGroup fr.dst then sendPorts [4 * w + 2, 4 * w + 3] q fr s else sendPort p q fr s
          | none => sendPorts [4 * w + 2, 4 * w + 3] q fr s)
      else s
    if far && !isGroup fr.dst then s
    else
      let n := (switch s w).redSeq
      sendPorts [4 * w, 4 * w + 1] q { fr with redSeq := some n }
        (modSwitch w (fun x => { x with redSeq := (n + 1) % 65536 }) s)

/-- The Ethernet address of an IPv4 address, or of the gateway through which it is reached: from the cache, or the
broadcast address (log entry 20). -/
def destMac (s : State) (w ip : Nat) : Nat := (tfind (switch s w).arp (nextHop s w ip)).getD bcast

/-- The station through which an IPv4 address is reached: one that has it in its cache, or in its subnet, or that has a
gateway. -/
def stationFor (s : State) (ip : Nat) : Nat :=
  let near := fun w => (tfind (switch s w).arp ip).isSome
  let net := fun w =>
    let m := if netDefault s then 0xFFFF0000 else cnum (confOf s) (0x2B00 + 4 * w) 0xC 0xFFFFFF00
    decide (stationIp s w ≠ 0) && decide (ip &&& m = stationIp s w &&& m)
  let far := fun w => decide (stationIp s w ≠ 0) && decide (nextHop s w ip ≠ ip)
  if near 0 then 0 else if near 1 then 1 else if net 0 then 0 else if net 1 then 1
  else if far 0 then 0 else if far 1 then 1
  else if stationIp s 0 ≠ 0 then 0 else 1

/-! ### Order on CAN ports and Genxon links (R329, R393, R395) -/

/-- Put a frame into a port's frames: a telegram goes ahead of every other frame that has not begun. -/
def queueFrame {α : Type} (tel : α → Bool) (begun : Nat) (fr : α) (l : List α) : List α :=
  if tel fr then
    l.take begun ++ (l.drop begun).filter tel ++ [fr] ++ (l.drop begun).filter (fun x => !tel x)
  else l ++ [fr]

/-- The number of frames whose sending has begun when a frame is handed over at `now`: the frames of this instant wait,
but for the first (log entry 20). -/
def begunAt (now outAt begun n : Nat) : Nat := if outAt = now + 1 then begun else n

/-- The same after the hand-over: a frame that meets an idle port begins. -/
def begunNext (now outAt begun n : Nat) : Nat := if outAt = now + 1 then begun else n + 1

/-! ### CAN (R390 to R393) -/

/-- A change of the bus state is recorded (R388). -/
def setBus (n b : Nat) (s : State) : State :=
  if (canPort s n).bus = b then s
  else netNote 4 (0x0718 + n) b (modCan n (fun x => { x with bus := b }) s)

/-- The bus state that error confinement gives the counters. -/
def busOf (x : CanPort) : Nat := if 128 ≤ x.recv ∨ 128 ≤ x.tec then 1 else 0

/-- The transmit error counter after a frame that met `e` errors before it passed: 8 more for each, 1 less for the frame
(R390); above 255 the controller goes bus-off, which is a command of its own. -/
def tecAfter (e tec : Nat) : Nat := min 255 (tec + 8 * e) - 1

/-- A CAN port hands a frame to the bus; a silent or bus-off port does not. Telegrams, the CAN FD frames, go ahead of
every other frame of the port (R393). The errors that it meets on the bus are free (R390; log entry 105). -/
def canSend (n : Nat) (fr : CanFrame) (s : State) : State :=
  if canRuns s n ∧ (canPort s n).bus ≤ 1 then
    let (d, s) := draw s
    let s := modCan n (fun x => { x with
      out := queueFrame CanFrame.fd (begunAt s.time.now x.outAt x.begun x.out.length) fr x.out
      begun := begunNext s.time.now x.outAt x.begun x.out.length
      outAt := s.time.now + 1
      tec := tecAfter (Config.freeTxErrors d) x.tec
      tx := inc32 x.tx }) s
    setBus n (busOf (canPort s n)) s
  else s

/-- The boot-up message (R391). -/
def bootUp (n : Nat) (s : State) : State := canSend n { id := 0x700 + canNode s n, data := [0] } s

/-- The settings of a CAN port in the present state: node-ID, rates and sample points; with the defaults CN0 runs at
125 kbit/s without bit-rate switching (R390, Table NW-9). -/
def canSettings (s : State) (n : Nat) : List Nat :=
  let c := confOf s
  canNode s n :: (if netDefault s then [125000, 0, 0x504B]
    else [cnum c (0x2B10 + n) 2 500000, cnum c (0x2B10 + n) 3 2000000, cnum c (0x2B10 + n) 4 0x504B])

/-- A port starts under its settings: silent without a node-ID, else error active in pre-operational with
its boot-up message (R391). What waits to be sent under other settings is dropped. -/
def canStart (n : Nat) (s : State) : State :=
  let s := modCan n (fun x => { x with
    tec := 0, recv := 0, under := canSettings s n, out := [], begun := 0, nmt := if canRuns s n then 0x7F else 0 }) s
  if canRuns s n then bootUp n (setBus n 0 s) else setBus n 3 s

/-- Both ports start. -/
def cansStart (s : State) : State := canStart 1 (canStart 0 s)

/-- Settings take effect: a port whose settings have changed starts under them (R391). -/
def cansAgain (s : State) : State :=
  [0, 1].foldl (fun a n => if (canPort a n).under = canSettings a n then a else canStart n a) s

/-- An NMT command reaches a port: it is meant for its node or for all nodes. In HALT only reset
communication acts on CN0, and leaves it pre-operational (R392). -/
def nmt (n cmd node : Nat) (s : State) : State :=
  if canRuns s n ∧ (canPort s n).bus ≤ 1 ∧ (node = 0 ∨ node = canNode s n) then
    if cmd = 129 ∨ cmd = 130 then bootUp n (modCan n (fun x => { x with nmt := 0x7F }) s)
    else if s.ctl.st = .halt then s
    else if cmd = 1 then modCan n (fun x => { x with nmt := 0x05 }) s
    else if cmd = 2 then modCan n (fun x => { x with nmt := 0x04 }) s
    else if cmd = 128 then modCan n (fun x => { x with nmt := 0x7F }) s
    else s
  else s

/-! ### Genxon links (R395, R396) -/

/-- The CRC of a link frame. -/
def linkCrc (bs : List Byte) : Nat := crc16 0x8BB7 0xFFFF bs

/-- The content of a link frame (R395). -/
def linkFrame (ty : Nat) (payload : List Byte) : List Byte :=
  let b := le 1 ty ++ le 1 payload.length ++ payload
  b ++ be 2 (linkCrc b)

/-- Whether a link frame carries a telegram. -/
def linkTelegram (fr : List Byte) : Bool := fr.head? == some 1

/-- A link sends a frame, a telegram ahead of hellos (R395). -/
def linkSend (l : Nat) (fr : List Byte) (s : State) : State :=
  modLink l (fun x => { x with
    out := queueFrame linkTelegram (begunAt s.time.now x.outAt x.begun x.out.length) fr x.out
    begun := begunNext s.time.now x.outAt x.begun x.out.length
    outAt := s.time.now + 1
    tx := inc32 x.tx }) s

/-- The domain identity (R399). -/
def domainId (s : State) : Nat := capNum s 3 4 0

/-- The device number (R399). -/
def deviceNum (s : State) : Nat := capNum s 3 5 0

/-- Whether a link is a route of the pairing connection (R418). -/
def pairingLink (s : State) (l : Nat) : Bool :=
  hasCap s 0xB && (let c := capNum s 0xB 4 0xFFFF
    decide (c < 512) && decide (connDir (confOf s) c = 3) && (connRoutes (confOf s) c).contains (4 + l))

/-- The state of a link changes; a link that comes up or goes down is a network record, be it one of the pairing or not
(R388, R418). -/
def setLink (l st : Nat) (s : State) : State :=
  let old := (link s l).state
  let s := modLink l (fun x => { x with state := st, synced := x.synced && decide (st ≠ 0) }) s
  if old = 2 ∧ st ≠ 2 then netNote 2 (0x0720 + l) st s
  else if old ≠ 2 ∧ st = 2 then netNote 1 (0x0720 + l) st s else s

/-- A port or link that is no longer in use, by the settings in force or for want of its power domain, goes down: its
link falls, and what it was sending is dropped (R388, R470, Table NW-8). -/
def portsSettle (s : State) : State :=
  let s := (upto 8).foldl (fun a p =>
    let x := ethPort a p
    if portEnabled a p || !(x.up || x.half || decide (x.speed ≠ 0)) then a
    else
      let f := fun (b : State) => modPort p (fun x => { x with
        up := false, speed := 0, half := false, sending := none, q0 := [], q1 := [], q2 := [], q3 := [], residences := [] }) b
      if x.up then netNote 2 (0x0710 + p) 0 (withRedundancy (p / 4) f a) else f a) s
  (upto 8).foldl (fun a l => if linkOn a l || decide ((link a l).state = 0) then a else setLink l 0 a) s

/-- New settings are in force: ports and links that they do not enable go down, and CAN ports start under theirs. -/
def netSettle (s : State) : State := cansAgain (portsSettle s)

/-! ### KDP frames on a transport (R132, R134) -/

/-- Whether a KDP frame is answered at all: magic, CRC, length and bit 7 of the operation (R134). -/
def kdpFrameOk (bs : List Byte) : Bool :=
  let n := unbe ((bs.drop 12).take 2)
  let t := if bit (unbe ((bs.drop 9).take 1)) 0 then 16 else 0
  decide (18 ≤ bs.length) && decide (unbe (bs.take 2) = 0x4B44) && decide (bs.length = 18 + n + t)
    && decide (n ≤ 1030) && !bit (unbe ((bs.drop 3).take 1)) 7
    && decide (unbe (bs.drop (bs.length - 4)) = crc32 (bs.take (bs.length - 4)))

end Sys2Proof.Machine
end

