-- ==== Sys2Proof/Machine/Safe.lean ====
section
/-! DEFINITION. Genxon Safe: telegrams, the connections that send and receive them, and paired packages
(R399 to R418). -/

namespace Sys2Proof.Machine

/-! ### Connections -/

/-- Connection `k`. -/
def conn (s : State) (k : Nat) : Conn := tget {} s.net.conns k
/-- Change a connection. -/
def modConn (k : Nat) (g : Conn → Conn) (s : State) : State :=
  { s with net := { s.net with conns := tmod {} s.net.conns k g } }
/-- Change the pairing state. -/
def modPairing (g : Pairing → Pairing) (s : State) : State :=
  { s with net := { s.net with pairing := g s.net.pairing } }

/-- The pairing connection of the capability, with direction 0x03 (R414). -/
def pairingConn (s : State) : Option Nat :=
  if hasCap s 0xB then
    let k := capNum s 0xB 4 0xFFFF
    if k < 512 ∧ connDir (confOf s) k = 3 then some k else none
  else none

/-- The connections that receive: direction 0x02, and the pairing connection. -/
def receives (s : State) (k : Nat) : Bool :=
  decide (connDir (confOf s) k = 2) || decide (pairingConn s = some k)

/-- The identity under which a connection is received: from its peer to this device (R399). -/
def recvIdent (s : State) (k : Nat) : Nat :=
  connCfg (confOf s) k 2 0 * 2 ^ 20 + deviceNum s * 256 + connCfg (confOf s) k 3 0

/-- The receiving connection that an identity names. -/
def recvConn (s : State) (ident : Nat) : Option Nat :=
  (usedConns (confOf s)).find? (fun k => receives s k && decide (recvIdent s k = ident))

/-- The source number of a route of Table NW-11 (Table FC-2). -/
def routeSrc (r : Nat) : Nat :=
  if r < 2 then 0x0710 + 4 * r else if r < 4 then 0x0718 + (r - 2) else 0x0720 + (r - 4)

/-- Whether a connection is valid: three consecutive acceptances and no fault of L2 or above in effect
(R335, R410). -/
def connValid (s : State) (k : Nat) : Bool := decide ((conn s k).state = 2) && !connFaulty s k

/-- The state that 0x2C00 + k:10 shows. -/
def connShown (s : State) (k : Nat) : Nat :=
  if connDir (confOf s) k = 0 then 0
  else if connDir (confOf s) k = 1 then (if (conn s k).state = 0 then 0 else 4)
  else if connFaulty s k then 3 else (conn s k).state

/-- Device time is synchronised: LOCKED or HOLDOVER (R464). -/
def synchronised (s : State) : Bool := decide (s.time.spring = 2) || decide (s.time.spring = 3)

/-! ### Keys (R402, R414) -/

/-- The category 3 root key. -/
def rootKey (s : State) : List Byte := secretBytes s 128 131

/-- The links of the pairing connection, ascending. -/
def pairingLinks (s : State) (k : Nat) : List Nat :=
  ((connRoutes (confOf s) k).filter (fun r => decide (4 ≤ r))).map (· - 4)

/-- The serial number of the other package, from the hellos. -/
def peerSerial (s : State) (k : Nat) : Nat :=
  let l := pairingLinks s k
  match l.find? (fun x => decide ((link s x).state = 2)) with
  | some x => (link s x).serial
  | none => (link s (l.headD 0)).serial

/-- The pairing key. -/
def pairKey (s : State) (k : Nat) : List Byte :=
  let a := serialNo s
  let b := peerSerial s k
  let msg := [0x47, 0x58, 0x2D, 0x50, 0x41, 0x49, 0x52] ++ be 8 (min a b) ++ be 8 (max a b)
  (hmac (secretBytes s 132 139) msg).take 16

/-- The key of a connection: the image's block decrypted under the root key, or the pairing key. -/
def connKey (s : State) (k : Nat) : List Byte :=
  if connDir (confOf s) k = 3 then pairKey s k
  else match s.cfg.image with
    | some i => aesInv (rootKey s) (padTo 16 (tget [] i.connKeys k))
    | none => []

/-! ### Telegrams (Table NW-2) -/

/-- Bytes 0 to 17 + n of a telegram. -/
def telBody (ty mac ident seq stamp : Nat) (payload : List Byte) : List Byte :=
  [1] ++ be 1 ty ++ be 1 payload.length ++ be 1 mac ++ be 4 ident ++ be 4 seq ++ be 6 stamp ++ payload

/-- A telegram's bytes with its MAC and safety CRC. -/
def telSeal (s : State) (k : Nat) (body : List Byte) : List Byte :=
  let m := if connMac (confOf s) k then body ++ (cmac (connKey s k) body).take 8 else body
  m ++ be 4 (safeCrc (domainId s) m)

/-- The sender timestamp: device time in µs, low 48 bits. -/
def stampOf (s : State) : Nat := s.time.dev / 1000 % 2 ^ 48

/-- The valid CAN FD data lengths that a telegram can take (R393). -/
def canLen (n : Nat) : Option Nat := [24, 32, 48, 64].find? (fun l => decide (n ≤ l))

/-- A telegram goes out on one route of a connection. -/
def sendRoute (k : Nat) (bs : List Byte) (r : Nat) (s : State) : State :=
  let c := confOf s
  if r < 2 then
    if stationIp s r = 0 then s
    else stationSend r 3 {
      dst := destMac s r (connCfg c k 0xD 0), src := stationMac s r
      length := max 64 (46 + bs.length), content := .genxon bs } s
  else if r < 4 then
    match canLen bs.length with
    | some n => 
      let v := connCfg c k 0xE 0
      canSend (r - 2) { id := v % 2 ^ 29, ext := bit v 31, fd := true, brs := true, data := padTo n bs } s
    | none => s
  else if linkOn s (r - 4) ∧ (link s (r - 4)).state = 2 then linkSend (r - 4) (linkFrame 1 bs) s
  else s

/-- A telegram goes out on every route. One that a full queue discards never stands in it: its deadline is
missed (R405). -/
def sendRoutes (k : Nat) (bs : List Byte) (s : State) : State :=
  let t := (connRoutes (confOf s) k).foldl (fun a r => sendRoute k bs r a) s
  if tget 0 t.breach.counts 2 = tget 0 s.breach.counts 2 then t
  else modConn k (fun x => { x with misses := inc32 x.misses }) t

/-- Whether a send connection is due at cycle number `m` (R404). -/
def sendDue (s : State) (m k : Nat) : Bool :=
  let c := confOf s
  decide (connDir c k = 1) && decide (m % max 1 (connCfg c k 8 1) = connCfg c k 9 0)

/-- The time that a telegram takes to build, in ns (R405). -/
def buildNs (c : Conf) (k : Nat) : Nat := if connMac c k then 3000 else 1000

/-- A telegram that stands in its queues at `t`, after its send deadline, has missed it and counts as a rank 2 breach
(R405). -/
def lateTelegram (deadline t k : Nat) (s : State) : State :=
  if deadline < t then breach 2 0 (modConn k (fun x => { x with misses := inc32 x.misses }) s) else s

/-- Whether a send connection builds telegrams: a retired part makes no MAC and sends none of its MAC telegrams (R99). -/
def builds (s : State) (k : Nat) : Bool := !(connMac (confOf s) k && retired s)

/-- One send connection builds and sends its telegram, which stands in its queues at `t`. -/
def sendConn (deadline t k : Nat) (s : State) : State :=
  let c := confOf s
  if !builds s k then s
  else
    let q := mod32 ((conn s k).seq + 1)
    let payload := rdBytes (part s (connCfg c k 4 0)).confirmedRegion (0x100 + 0x40 * k) (connCfg c k 6 0)
    let body := telBody 1 (b2n (connMac c k)) (connIdent c s.fuses.caps k) q (stampOf s) payload
    lateTelegram deadline t k (sendRoutes k (telSeal s k body)
      (modConn k (fun x => { x with seq := q, last := q, telegrams := inc32 x.telegrams, sent := payload }) s))

/-- Send the telegrams of connections in order: `spent` is the build time of those before, after which the deadline of
each lies and its own building begins (R405). -/
def sendList (c : Conf) : List Nat → Nat → State → State
  | [], _, s => s
  | k :: ks, spent, s =>
    let b := if builds s k then buildNs c k else 0
    sendList c ks (spent + b) (sendConn (s.proc.boundary + 30000 + spent) (s.time.now + spent + b) k s)

/-- The telegrams due at the boundary of cycle number `m`, in ascending order (R404, R405). -/
def sendAll (m : Nat) (s : State) : State :=
  sendList (confOf s) ((usedConns (confOf s)).filter (sendDue s m)) 0 s

/-! ### Entry into SAFE (R404, R410, R412) -/

/-- One connection starts again: waiting with its counters from 0, or sending from a fresh random sequence
number. The number drawn is the one before the first sent. -/
def connStart (k : Nat) (s : State) : State :=
  if receives s k then modConn k (fun _ => { state := 1 }) s
  else if connDir (confOf s) k = 1 then
    let (n, s) := draw s
    modConn k (fun _ => { state := 4, seq := (Config.freeRandom n).toNat % 2 ^ 32 }) s
  else modConn k (fun _ => {}) s

/-- Every connection starts again, and so do the exchanges of the pairing. -/
def connsStart (s : State) : State :=
  let s := (usedConns (confOf s)).foldl (fun a k => connStart k a) { s with net := { s.net with conns := [] } }
  let (n, s) := draw s
  modPairing (fun p => { p with
    differing := [], exchangeAt := 0, checkAt := 0, seq := (Config.freeRandom n).toNat % 2 ^ 32 }) s

/-- One connection at an entry into SAFE from RUN or MAINTENANCE: its counters start from 0, one that receives waits, and
one that sends goes on with its numbers (R404, R407, R410, R429). -/
def connAgain (k : Nat) (s : State) : State :=
  if receives s k then modConn k (fun _ => { state := 1 }) s
  else modConn k (fun x => { state := x.state, seq := x.seq, last := x.last, sent := x.sent }) s

/-- Every connection at such an entry. -/
def connsAgain (s : State) : State :=
  modPairing (fun p => { p with differing := [] }) ((usedConns (confOf s)).foldl (fun a k => connAgain k a) s)

/-! ### Paired packages (R413 to R418) -/

/-- The paired inputs, as source numbers, in the order of the map. -/
def pairedInputs (s : State) : List Nat :=
  let m := cstr (confOf s) (capAt s.fuses.caps 0xB) 7 (List.replicate 496 0xFF)
  (upto (min 248 (capNum s 0xB 6 0))).map (fun k => num m (2 * k) 2)

/-- The 31 bytes that hold one bit for each paired input. -/
def pairBits (l : List Nat) (f : Nat → Bool) : List Byte :=
  le 31 (bitsOf (fun k => match l[k]? with
    | some i => f i
    | none => false) 248)

/-- The lane A filtered state of an input. -/
def pairedOn (s : State) (i : Nat) : Bool := (laneIn s .a i).on

/-- The payload of an exchange telegram (R415). -/
def exchangePayload (s : State) : List Byte :=
  let l := pairedInputs s
  pairBits l (pairedOn s) ++ pairBits l (inputFaulty s)
    ++ le 1 (b2n s.net.pairing.detected + 2 * b2n (inRun s)) ++ [0]

/-- The payload of a pairing check (R417). -/
def checkPayload (s : State) : List Byte :=
  match s.cfg.image with
  | some i => padTo 16 i.pairDigest ++ le 1 i.security ++ zeros 15
  | none => zeros 32

/-- The pairing connection sends a telegram of type `ty` on both links; a retired part sends none. -/
def pairingSend (ty : Nat) (payload : State → List Byte) (s : State) : State :=
  match pairingConn s with
  | none => s
  | some k =>
    if retired s then s
    else
      let q := mod32 (s.net.pairing.seq + 1)
      let body := telBody ty 1 (connIdent (confOf s) s.fuses.caps k) q (stampOf s) (payload s)
      sendRoutes k (telSeal s k body) (modPairing (fun p => { p with seq := q }) s)

/-- The timer step of the next exchange: 100 µs after the last one, the first at the next step (R409, R414). -/
def exchangeStep (s : State) : Nat :=
  if s.net.pairing.exchangeAt = 0 then (s.time.now + 99999) / 100000 * 100000 else s.net.pairing.exchangeAt - 1 + 100000

/-- PAIRING_EXCHANGE_SEND (R414): every 100 µs of the timer, on both links. One that stands in its queues more than 10 µs
after its step has missed its deadline. -/
def execPairingExchangeSend (s : State) : Host.Outcome State Fault Refusal :=
  .next (if evaluating s then
    let step := exchangeStep s
    let s := advance step s
    let s := pairingSend 2 exchangePayload (modPairing (fun p => { p with exchangeAt := step + 1 }) s)
    match pairingConn s with
    | some k => if retired s then s else lateTelegram (step + 10000) s.time.now k s
    | none => s
  else s)

/-- PAIRING_CHECK_SEND (R417): every 1,000 ms, on both links. -/
def execPairingCheckSend (s : State) : Host.Outcome State Fault Refusal :=
  .next (if evaluating s then
    let s := afterStamp s.net.pairing.checkAt second s
    pairingSend 3 checkPayload (modPairing (fun p => { p with checkAt := s.time.now + 1 }) s)
  else s)

/-- The inputs that disagree with an exchange payload (R416). -/
def pairDiffers (s : State) (p : List Byte) : List Nat :=
  let l := pairedInputs s
  let a := num p 0 31
  let f := num p 31 31
  ((upto l.length).zip l).filterMap (fun x =>
    if (bit a x.1 != pairedOn s x.2) || (bit f x.1 != inputFaulty s x.2) then some x.2 else none)

/-- The switches of every site move at once after a reaction. -/
def settleAll (s : State) : State := (popSites s).foldl (fun a f => settleSite f a) s

/-- A fault of a connection makes it not valid; a waiting connection raises none (R410, R425). -/
def connFault (code k : Nat) (s : State) : State :=
  if (conn s k).state = 1 then s
  else settleAll (fault code (0x1000 + k) (modConn k (fun x => { x with state := 3, run := 0 }) s))

/-- A pairing fault, unless its condition is present already; a waiting connection raises none (R410). -/
def pairFault (code k detail : Nat) (s : State) : State :=
  if (conn s k).state = 1 ∨ condPresent s code (0x1000 + k) then s
  else settleAll (raise (report s code (0x1000 + k) 0xFFFF detail)
    (modConn k (fun x => { x with state := 3, run := 0 }) s))

/-- The conditions 0x0C20 to 0x0C22 go when the pairing connection has become valid again and no input has
disagreed for 100 ms (R425). -/
def pairGone (k : Nat) (peer : Bool) (s : State) : State :=
  if (conn s k).state = 2 ∧ s.net.pairing.differing = [] ∧ s.net.pairing.lastDiff + 100000000 ≤ s.time.now then
    let src := 0x1000 + k
    let s := goneIf 0x0C22 src (goneIf 0x0C20 src s)
    if peer then s else goneIf 0x0C21 src s
  else s

/-- An accepted exchange (R416): by the link `r` it came on. -/
def exchangeIn (k r : Nat) (p : List Byte) (s : State) : State :=
  let d := pairDiffers s p
  let firstLink := decide ((pairingLinks s k).head? = some (r - 4))
  let s := modPairing (fun x => { x with
    differing := d
    since := d.foldl (fun t i => tset 0 t i
      (if x.differing.contains i then tget (s.time.now + 1) x.since i else s.time.now + 1)) []
    lastInput := (d.getLast?).getD x.lastInput
    lastDiff := if d = [] then x.lastDiff else s.time.now
    first := if firstLink then inc32 x.first else x.first
    second := if firstLink then x.second else inc32 x.second }) s
  let peer := bit (num p 62 1) 0
  pairGone k peer (if peer then pairFault 0x0C21 k 0 s else s)

/-- An accepted pairing check (R417). -/
def checkIn (k : Nat) (p : List Byte) (s : State) : State :=
  if p.take 17 = (checkPayload s).take 17 then
    goneIf 0x0C23 (0x1000 + k) (modPairing (fun x => { x with checked := s.time.now + 1 }) s)
  else pairFault 0x0C23 k 0 s

/-- PAIRED_INPUT_DISAGREEMENT (R416): the input has disagreed at every comparison for longer than the agreement
time. -/
def execPairedInputDisagreement (i : Nat) (s : State) : Host.Outcome State Fault Refusal :=
  .next (match pairingConn s with
    | none => s
    | some k =>
      if evaluating s ∧ s.net.pairing.differing.contains i then
        let s := afterStamp (tget 0 s.net.pairing.since i) (capNum s 0xB 5 2000 * 1000 + 10) s
        if (conn s k).state = 1 then s
        else pairFault 0x0C20 k i (modPairing (fun x => { x with detected := true, lastInput := i }) s)
      else s)

/-! ### Receiving (R407 to R411) -/

/-- A telegram as it is read from its bytes. -/
structure Tel where
  ver     : Nat
  ty      : Nat
  n       : Nat
  flags   : Nat
  ident   : Nat
  seq     : Nat
  stamp   : Nat
  payload : List Byte
  mac     : List Byte
  /-- Bytes 0 to 17 + n, all bytes before the CRC, and the CRC. -/
  body    : List Byte
  covered : List Byte
  crc     : Nat
  total   : Nat
deriving DecidableEq, Repr

/-- Read a telegram (Table NW-2). -/
def parseTel (bs : List Byte) : Tel :=
  let at_ := fun (o n : Nat) => unbe ((bs.drop o).take n)
  let n := at_ 2 1
  let m := if bit (at_ 3 1) 0 then 8 else 0
  { ver := at_ 0 1, ty := at_ 1 1, n := n, flags := at_ 3 1, ident := at_ 4 4, seq := at_ 8 4, stamp := at_ 12 6
    payload := (bs.drop 18).take n, mac := (bs.drop (18 + n)).take m
    body := bs.take (18 + n), covered := bs.take (18 + n + m), crc := at_ (18 + n + m) 4, total := 22 + n + m }

/-- Check 1: version, type, length and flags. The type and the MAC flag are those of the connection that bytes 4
to 7 name, where they name one. -/
def telShape (s : State) (r : Nat) (bs : List Byte) (x : Tel) : Bool :=
  let len := if r = 2 ∨ r = 3 then decide (canLen x.total = some bs.length) else decide (bs.length = x.total)
  decide (x.ver = 1) && decide (x.n ≤ 64) && len && decide (x.flags ≤ 1)
    && (match recvConn s x.ident with
      | none => decide (1 ≤ x.ty) && decide (x.ty ≤ 3)
      | some k =>
        (bit x.flags 0 == connMac (confOf s) k)
        && (if connDir (confOf s) k = 3 then
            (decide (x.ty = 2) && decide (x.n = 64)) || (decide (x.ty = 3) && decide (x.n = 32))
          else decide (x.ty = 1)))

/-- A CRC or MAC failure counted on a connection; the fourth within 1,000 ms raises 0x0C03 (R408). -/
def countFailure (k : Nat) (s : State) : State :=
  let l := (s.time.opNs :: (conn s k).fails).filter (fun t => decide (s.time.opNs < t + second))
  let s := modConn k (fun x => { x with fails := l }) s
  if 4 ≤ l.length ∧ !condPresent s 0x0C03 (0x1000 + k) then connFault 0x0C03 k s else s

/-- A telegram of a connection fails its MAC (check 4): counted, and 0x0C04, once in 1 s at the most and never while the
connection waits (R407, R410). -/
def macFailure (k : Nat) (s : State) : State :=
  let q := conn s k
  let s := modConn k (fun y => { y with mac := inc32 y.mac }) s
  let s := { s with net := { s.net with macFails := inc32 s.net.macFails } }
  countFailure k (if q.state ≠ 1 ∧ (q.macRaised = 0 ∨ q.macRaised + second ≤ s.time.opNs + 1) then
      faultOnce 0x0C04 (0x1000 + k) (modConn k (fun y => { y with macRaised := s.time.opNs + 1 }) s)
    else s)

/-- A format or CRC discard (checks 1 and 2). -/
def formatFailure (s : State) : State := { s with net := { s.net with formatCrc := inc32 s.net.formatCrc } }

/-- A telegram of a connection fails its CRC (check 2). -/
def crcFailure (k : Nat) (s : State) : State :=
  countFailure k (modConn k (fun y => { y with crc := inc32 y.crc }) (formatFailure s))

/-- The time expectation of a connection in ns (R409). -/
def watchdogTime (s : State) (k : Nat) : Nat := connCfg (confOf s) k 0xA 100000 * 1000

/-- The step at which the watchdog of a connection expires, the first 100 µs step of PLL A at or after T_wd (R409). -/
def expiryStep (s : State) (k : Nat) : Nat := ((conn s k).lastAt + watchdogTime s k + 99999) / 100000 * 100000

/-- A telegram passes every check on route `r`: its payload is stored and the watchdog restarted; the third of three in
sequence, each within T_wd of the one before, makes the connection valid or ends its conditions (R407, R410). An expiry
of the watchdog in the same time tick stands, and the telegram is the first of a new row (R411). -/
def acceptTel (k r : Nat) (x : Tel) (s : State) : State :=
  let c := conn s k
  let out := c.dog && decide (tick10 s.time.now = tick10 (expiryStep s k))
  let inRow := c.fixed && decide (0 < c.run) && decide (x.seq = mod32 (c.last + 1))
    && decide (s.time.now ≤ c.lastAt + watchdogTime s k) && !out
  let run := if inRow then c.run + 1 else 1
  let s := modConn k (fun y => { y with
    seq := x.seq, last := x.seq, route := r, expiry := if out then expiryStep s k + 1 else y.expiry, fixed := true, run := run, lastAt := s.time.now, dog := true, stamp := x.stamp
    accepted := s.time.dev, telegrams := inc32 y.telegrams, payload := x.payload
    state := if 3 ≤ run then 2 else y.state }) s
  if 3 ≤ run then
    let src := 0x1000 + k
    goneIf 0x0C03 src (goneIf 0x0C02 src (goneIf 0x0C01 src s))
  else s

/-- A repetition (check 5). Of two copies of one telegram in one time tick the one on the lower route counts as accepted,
whichever was handed over first (R411): an exchange of the pairing counts on that link. -/
def repeatIn (k r : Nat) (x : Tel) (s : State) : State :=
  let q := conn s k
  let lower := decide (x.seq = q.last) && decide (tick10 q.lastAt = tick10 s.time.now) && decide (r < q.route)
  let s := modConn k (fun y => { y with repeats := inc32 y.repeats, route := if lower then r else y.route }) s
  if lower && decide (connDir (confOf s) k = 3) && decide (x.ty = 2) then
    modPairing (fun y => { y with first := inc32 y.first, second := y.second - 1 }) s
  else s

/-- Checks 4 to 6 and the acceptance, for connection `k`. -/
def telChecks (k r : Nat) (x : Tel) (s : State) : State :=
  let c := confOf s
  let q := conn s k
  let macOk := !connMac c k || (!retired s && decide (x.mac = (cmac (connKey s k) x.body).take 8))
  let d := mod32 (x.seq + 2 ^ 32 - q.seq)
  let age := connCfg c k 0xC 0
  let here := stampOf s
  let diff := min ((here + 2 ^ 48 - x.stamp) % 2 ^ 48) ((x.stamp + 2 ^ 48 - here) % 2 ^ 48)
  if !macOk then macFailure k s
  else if q.fixed ∧ (d = 0 ∨ 2 ^ 31 ≤ d) then repeatIn k r x s
  else if q.fixed ∧ connCfg c k 0xB 8 < d then
    connFault 0x0C02 k (modConn k (fun y => { y with seq := x.seq }) s)
  else if bit (connCfg c k 7 0) 1 ∧ (!synchronised s ∨ (age ≠ 0 ∧ age < diff)) then
    modConn k (fun y => { y with aged := inc32 y.aged }) s
  else
    let s := acceptTel k r x s
    if connDir c k = 3 then (if x.ty = 2 then exchangeIn k r x.payload s else checkIn k x.payload s) else s

/-- A telegram reaches the engine by a route (Table NW-4). The engine runs with an image in force in SAFE, RUN
and MAINTENANCE (R404, R412). -/
def telegramIn (r : Nat) (bs : List Byte) (s : State) : State :=
  if !(evaluating s && configured s) then s
  else
    let x := parseTel bs
    let named := recvConn s x.ident
    let onRoute := fun k => (connRoutes (confOf s) k).contains r
    let bad := formatFailure s
    if !telShape s r bs x then bad
    else if x.crc ≠ safeCrc (domainId s) x.covered then
      match named with
      | some k => if onRoute k then crcFailure k s else bad
      | none => bad
    else
      let stray :=
        let s := { s with net := { s.net with unknownId := inc32 s.net.unknownId } }
        let last := tget 0 s.net.unknownRaised r
        if field x.ident 8 12 = deviceNum s ∧ (last = 0 ∨ last + second ≤ s.time.opNs + 1) then
          faultOnce 0x0C05 (routeSrc r)
            { s with net := { s.net with unknownRaised := tset 0 s.net.unknownRaised r (s.time.opNs + 1) } }
        else s
      match named with
      | none => stray
      | some k => if onRoute k then telChecks k r x s else stray

/-- TELEGRAM_RECEIVED (R407). -/
def execTelegramReceived (r : Nat) (bs : List Byte) (t : Nat) (s : State) : Host.Outcome State Fault Refusal :=
  .next (telegramIn r bs (advance t s))

/-- The fault of an expired watchdog; the row of acceptances stands at `run` after it. -/
def expire (k run : Nat) (s : State) : State :=
  modConn k (fun x => { x with run := run }) (connFault (if connDir (confOf s) k = 3 then 0x0C22 else 0x0C01) k s)

/-- WATCHDOG_EXPIRY (R409, R416): no telegram has been accepted for the time expectation, at the first 100 µs step of PLL A
at or after it. An expiry in whose time tick a telegram has been accepted stands beside it, and that telegram counts
towards the end of the condition (R411). -/
def execWatchdogExpiry (k : Nat) (s : State) : Host.Outcome State Fault Refusal :=
  .next (if evaluating s ∧ receives s k ∧ (conn s k).dog then
    if (conn s k).expiry ≠ 0 ∧ tick10 s.time.now = tick10 ((conn s k).expiry - 1) then
      expire k 1 (modConn k (fun x => { x with expiry := 0 }) s)
    else
      let s := advance (expiryStep s k) s
      expire k 0 (modConn k (fun x => { x with dog := false, expiry := 0 }) s)
  else s)

/-- The receive slot of a connection (Table NW-3). -/
def connSlot (s : State) (k : Nat) : List Byte :=
  let x := conn s k
  if connValid s k then
    padTo 64 x.payload ++ [1] ++ le 1 x.payload.length ++ [0, 0] ++ le 4 x.last
  else zeros 72

end Sys2Proof.Machine
end

