-- ==== Sys2Proof/Machine/Ledger.lean ====
section
/-! DEFINITION. The Ledger's commands: the write path, the NAND part, the mount, the parameter backup, scrubbing,
pins and readout (R430 to R458, R463). -/

namespace Sys2Proof.Machine

/-- A block maintenance record (Table LG-6). -/
def blockNote (code logical old new : Nat) (s : State) : State :=
  ledgerNote 0x0B 5 code (le 4 logical ++ le 4 old ++ le 4 new) s

/-! ### The write path (R443, R444) -/

/-- LEDGER_RECORD (R443). -/
def execLedgerRecord (r : LedgerRec) (s : State) : Host.Outcome State Fault Refusal := .next (ledgerPut r s)

/-- PAGE_AGE_SEAL (R444): the oldest record of the open page has waited 60 s. -/
def execPageAgeSeal (s : State) : Host.Outcome State Fault Refusal :=
  .next (if s.led.state = 1 ∧ s.led.openRecs ≠ [] ∧ s.led.openSince + 60 * second ≤ s.time.now then sealOpen s else s)

/-- HOLDUP_PAGE_SEAL (R444): in hold-up mode, a rank 3 record of the open page has waited 1,000 µs. -/
def execHoldupPageSeal (s : State) : Host.Outcome State Fault Refusal :=
  .next (if s.led.state = 1 ∧ s.led.holdup ∧ s.led.openRecs.any (fun r => decide (r.rank = 3))
      ∧ s.led.rank3Since + 1000000 ≤ s.time.now then sealOpen s else s)

/-- Two logical blocks change their physical blocks, with their erase counts. -/
def swapBlocks (x y : Nat) (s : State) : State :=
  let px := physOf s x
  let py := physOf s y
  modTables (fun c => { c with
    map := tset 0 (tset 0 c.map x (py + 1)) y (px + 1)
    erases := tset 0 (tset 0 c.erases x (tget 0 c.erases y)) y (tget 0 c.erases x) }) s

/-- The conditions of a short supply of blocks: 0x0D07 once the ring has had to give up a block for want of spares, and
0x0D08 while it has fewer than half of those formatted (R435, R458). -/
def shortBlocks (s : State) : State :=
  let s := if s.led.tables.given ≠ [] then faultNew 0x0D07 0x0770 s else s
  if ringBlocks s * 2 < s.led.tables.ringFormatted then faultNew 0x0D08 0x0770 s else s

/-- The ring gives up its oldest block, whose place it passes over from now on (R435). -/
def ringGive (s : State) : State :=
  let first := (s.led.ring.headD { (default : Page) with blk := ringNext s s.led.tables.given.length s.led.block }).blk
  let place := ringPlace s first
  modTables (fun c => { c with given := place :: c.given }) (ringDrop (fun p => decide (p.blk = first)) s)

/-- The logical block whose physical block takes the place of a retired one: the last of the spare pool, or, where that is
empty, the oldest of the ring (R435). -/
def spareFor (s : State) : Nat :=
  if s.led.tables.spares ≠ 0 then spareBase s + (s.led.tables.spares - 1)
  else ringBase s + s.led.tables.given.headD 0

/-- Whether the last page of a logical block is still erased: of the ring block that is being written while that is not
full, of the open block of the pinned region likewise, and of an unused spare. -/
def lastErased (s : State) (l : Nat) : Bool :=
  if l = ringBlock s s.led.block then !blockFull s
  else if s.led.pinBlock ≠ 0 ∧ l = pinBase s + (s.led.pinBlock - 1) then decide (s.led.pinPages < s.led.part.pagesPerBlk)
  else decide (spareBase s ≤ l) && decide (l < pinBase s)

/-- A block is retired (R435): it enters the bad-block table, is marked where its last page is still erased, its pages are
copied to a spare or to the oldest block of the ring, and its logical number is mapped there. -/
def retireBlock (l : Nat) (s : State) : State :=
  let mark := lastErased s l
  let s := nandDo ((if mark then [.pageProgram] else []) ++ [.pageRead, .pageProgram, .readStatus]) s
  let s := if s.led.tables.spares = 0 then ringGive s else s
  let t := spareFor s
  let old := physOf s l
  let new := physOf s t
  let s := modTables (fun c => { c with
    grown := (old, mark) :: c.grown, spares := c.spares - 1
    map := tset 0 c.map l (new + 1), erases := tset 0 (tset 0 c.erases l (tget 0 c.erases t)) t 0 }) s
  faultOnce 0x0D04 0x0770 (shortBlocks (blockNote 1 l old new s))

/-- The Ledger stops; the records that it has not programmed are lost (R330). -/
def ledgerStop (s : State) : State :=
  let lost := s.led.queued.any (fun p => p.recs.any (fun r =>
    decide (r.type = 1) && decide (r.code = s.led.flushCode)))
  loseAll (unprogrammed s) (modLed (fun l => { l with
    state := 3, queued := [], openRecs := [], flushCode := if lost then 0 else l.flushCode }) s)

/-- Whether no page of a pin's window waits to be programmed any more. -/
def windowDone (s : State) (p : Pin) : Bool :=
  !(s.led.queued.any p.needs) && !(s.led.openRecs.any (fun r => decide (p.start ≤ r.time) && decide (r.time ≤ p.stop)))

/-- The next page that a pin copies from the ring. -/
def nextCopy (s : State) (p : Pin) : Option Page := s.led.ring.find? p.needs

/-- A pin whose pages are all copied, or whose copy has filled the region, is held (R455, R456). -/
def pinSettle (n : Nat) (s : State) : State :=
  let p := tget {} s.led.pins n
  if p.state = 2 ∧ ((nextCopy s p).isNone ∧ windowDone s p ∨ pinRoom s = 0) then
    let cut := p.cut || decide (pinRoom s = 0) && !((nextCopy s p).isNone && windowDone s p)
    pinNote (if cut then 3 else 2) n p.start p.stop (modLed (fun l => { l with
      pins := tset {} l.pins n { p with state := if cut then 4 else 3, cut := cut } }) s)
  else s

/-- A page of the pin that is being copied is programmed. -/
def pinStep (s : State) : State :=
  match (upto 16).find? (fun n => decide ((tget {} s.led.pins n).state = 2)
      && (nextCopy s (tget {} s.led.pins n)).isSome) with
  | some n =>
    (match nextCopy s (tget {} s.led.pins n) with
      | some q => pinPut n q (nandDo [.pageRead, .pageProgram, .readStatus] s)
      | none => s)
  | none => s

/-- A page, or the erase before it, fails: in a flush it ends the flush, else the block is retired and the operation goes on
there (R435, R447). -/
def pageFailed (what : NandEnd) (s : State) : State :=
  if s.led.state = 2 then ledgerStop (modLed (fun l => { l with torn := decide (what = .programFailed) }) s)
  else
    let s := if blockFull s then ringOpen s else s
    retireBlock (ringBlock s s.led.block) s

/-- PAGE_PROGRAM_COMPLETE (R443, R435, R445, R447): a program or erase ends. Queued pages come first: one that passes leaves
the buffer for the ring, and a failure retires the block. Without one the last program of a flush is that of the
parameter delta page; else a page of a pin is copied, or the operation concerned a block of a slot, of the parameter backup or
of a move, which a failure retires (log entry 107). -/
def execPageProgramComplete (e : NandEnding) (s : State) : Host.Outcome State Fault Refusal :=
  .next (if s.led.state = 1 ∨ s.led.state = 2 then
    let s := modLed (fun l => { l with retried := none }) s
    match s.led.queued with
    | p :: ps =>
      if e.what = .passed then
        (upto 16).foldl (fun a n => pinSettle n a) (slotBegin (ringAppend p (modLed (fun l => { l with queued := ps }) s)))
      else pageFailed e.what s
    | [] =>
      if s.led.state = 2 then (if e.what = .passed then flushEnd s else ledgerStop s)
      else if e.what = .passed then (upto 16).foldl (fun a n => pinSettle n a) (if pinMay s then pinStep s else s)
      else if e.block < ringBase s ∧ (e.block < spareBase s ∨ pinBase s ≤ e.block) then retireBlock e.block s else s
  else s)

/-- NAND_BUSY_TIMEOUT (R433): the first time the chip enable of the operation is reset and the operation repeated, the
second time the Ledger stops until the next reset. -/
def execNandBusyTimeout (s : State) : Host.Outcome State Fault Refusal :=
  .next (if s.led.state = 1 ∨ s.led.state = 2 ∨ s.led.state = 4 then
    if s.led.retried = some (nandChip s) then fault 0x0D0E 0x0770 (ledgerStop (modLed (fun l => { l with retried := none }) s))
    else modLed (fun l => { l with retried := some (nandChip s), cmds := NandCmd.reset :: (nandOp s).toList }) s
  else s)

/-! ### The part (R430, R431, R446) -/

/-- The geometry that the fourth ID byte gives, in timing mode 0 (R431, PRESUMED, log entry 107): its bits 0 and 1 the page
size, bit 2 the spare bytes of each 512, bits 4 and 5 the block size and bit 6 the width. -/
def idPage (id : List Byte) : ParamPage :=
  let g := (id.getD 3 0).toNat
  let page := 1024 * 2 ^ (g % 4)
  { crcOk := true, onfi := 0, slc8 := !bit g 6
    pageSize := page, spare := page / 512 * (8 * 2 ^ (g / 4 % 2)), pagesPerBlk := 65536 * 2 ^ (g / 16 % 4) / page
    blocks := Config.idBlocks id, timingMode := 0, tProg := Config.idProg id, tBers := Config.idBers id, name := [] }

/-- The first copy of the parameter page whose ONFI CRC matches. -/
def cePage (c : CeReport) : Option ParamPage := c.copies.find? (·.crcOk)

/-- What a chip enable is taken for. -/
def ceFound (c : CeReport) : ParamPage := (cePage c).getD (idPage c.id)

/-- Whether a part is one of Table LG-1. -/
def partOk (r : ParamPage) : Bool :=
  let bytes := r.blocks * r.pagesPerBlk * r.pageSize
  r.slc8 && [0, 0x10, 0x20].contains r.onfi
    && ((decide (r.pageSize = 2048) && decide (64 ≤ r.spare)) || (decide (r.pageSize = 4096) && decide (128 ≤ r.spare)))
    && (decide (r.pagesPerBlk = 64) || decide (r.pagesPerBlk = 128))
    && decide (2 ^ 27 ≤ bytes) && decide (bytes ≤ 2 ^ 32)

/-- Whether two chip enables have one geometry. -/
def sameGeometry (a b : ParamPage) : Bool :=
  decide (a.pageSize = b.pageSize) && decide (a.spare = b.spare) && decide (a.pagesPerBlk = b.pagesPerBlk)
    && decide (a.blocks = b.blocks)

/-- Whether CE1 is used: its parameter page reports the geometry of CE0 (R430). -/
def ce1Used (r : MountReport) : Bool :=
  r.ce1.any (fun c => c.answers && (cePage c).any (sameGeometry (ceFound r.ce0)))

/-- Whether CE1 answers and is ignored. -/
def ce1Differs (r : MountReport) : Bool := r.ce1.any (fun c => c.answers) && !ce1Used r

/-- The part that a mount finds. -/
def nandPart (r : MountReport) : NandPart :=
  let p := ceFound r.ce0
  { onfi := p.onfi, pageSize := p.pageSize, spare := p.spare, pagesPerBlk := p.pagesPerBlk, blocks0 := p.blocks
    blocks1 := if ce1Used r then p.blocks else 0
    timingMode := min 5 p.timingMode, tProg := p.tProg, tBers := p.tBers, name := p.name.take 32 }

/-- The commands that identify a part: with the ID bytes where no copy of the parameter page is good (R431). -/
def identifyCmds (r : MountReport) : List NandCmd :=
  if !r.ce0.answers then [.reset]
  else if (cePage r.ce0).isNone then [.reset, .readParameterPage, .readId] else [.reset, .readParameterPage]

/-- The transfer time of a page in µs. -/
def pageTx (r : NandPart) : Nat :=
  if r.timingMode = 5 then 42 * r.pageSize / 2048 else Config.pageTransfer r.timingMode r.pageSize

/-- The fill limit of a part and whether its t_PROG is too long; none where F = 2 does not meet 3 ms (R446). -/
def fillLimit (r : NandPart) : Option (Nat × Bool) :=
  if r.pageSize = 2048 ∧ r.tProg ≤ 700 then some (4, false)
  else if r.pageSize = 4096 ∧ r.tProg ≤ 1400 then some (2, false)
  else
    let top := if r.pageSize = 2048 then [4, 3, 2] else [2]
    (top.find? (fun n => decide (n * (r.tProg + pageTx r) ≤ 3000))).map (fun n => (n, true))

/-! ### The mount (R448 to R450) -/

/-- The copies of the control tables that pass their CRC, newest first. -/
def controlGood (r : MountReport) (s : State) : List Control :=
  s.led.control.filter (fun c => !r.controlBad.contains c.generation)

/-- The reason of a failed mount in 0x2A00:02; 0 where it succeeds. -/
def mountFailure (r : MountReport) (s : State) : Nat :=
  if !r.ce0.answers then 1 else if !partOk (ceFound r.ce0) || (fillLimit (nandPart r)).isNone then 2
  else if !r.formatted then 3 else if s.led.control ≠ [] ∧ controlGood r s = [] then 4 else 0

/-- A failed mount (R450): every record held counts as a breach of its rank. -/
def mountFail (why : Nat) (s : State) : State :=
  let held := s.led.openRecs ++ s.col.records.map Record.copy
  let s := modLed (fun l => { l with state := 0, result := why, openRecs := [] }) s
  held.foldl (fun a r => breach r.rank (recCls r) a) s

/-- The part is taken into use: geometry, timing mode, fill limit, and their faults (R430, R431, R446). -/
def usePart (r : MountReport) (s : State) : State :=
  let p := nandPart r
  let f := (fillLimit p).getD (2, true)
  let s := modLed (fun l => { l with part := p, fill := f.1 }) s
  let s := if p.timingMode < 4 then faultNew 0x0D01 0x0770 s else s
  let s := if ce1Differs r then faultNew 0x0D02 0x0770 s else s
  if f.2 then faultNew 0x0D03 0x0770 s else s

/-- A block number among others, in order and once. -/
def blockInsert (b : Nat) : List Nat → List Nat
  | [] => [b]
  | x :: xs => if b < x then b :: x :: xs else if b = x then x :: xs else x :: blockInsert b xs

/-- The tables of a format: the bad blocks and the partitions of Table LG-3, written to both copies in turn (R437). -/
def formatTables (bad : List Nat) (s : State) : State :=
  let all := s.led.part.blocks0 + s.led.part.blocks1
  let s := modLed (fun l => { l with
    control := [], tables := { factory := (bad.filter (· < all)).foldr blockInsert [] } }) s
  let n := goodBlocks s
  let spare := max 16 (n / 64)
  modTables (fun c => { c with
    ringFormatted := n - (16 + 2 * slotBlocks s.led.part + spare + n / 4), pinBlocks := n / 4, spares := spare }) s

/-- The tables of a mount: the newest good generation, or those of a part that comes formatted (R448). -/
def mountTables (r : MountReport) (s : State) : State :=
  match controlGood r s with
  | c :: cs => modLed (fun l => { l with tables := c, control := c :: cs }) s
  | [] => formatTables r.badTable s

/-- The data area of a ring page as it reads. -/
def pageFound (r : MountReport) (s : State) (p : Page) : List Byte :=
  match r.altered.find? (fun a => decide (a.1 = p.seq)) with
  | some a => a.2
  | none => pageBytes s.led.part.pageSize p

/-- Whether a page's bytes carry a correct CRC (R440). -/
def pageCrcOk (b : List Byte) : Bool :=
  decide ((b.drop 60).take 4 = le 4 (crc32 (b.take 60 ++ b.drop 64)))

/-- Whether a ring page decodes with a correct CRC: one that reads as it was written does. -/
def decodes (r : MountReport) (s : State) (p : Page) : Bool :=
  !r.pageBad.contains p.seq
    && (!(r.altered.any (fun a => decide (a.1 = p.seq))) || pageCrcOk (pageFound r s p))

/-- The newest page that decodes and all before it, and the pages after it (R449). -/
def ringTail (r : MountReport) (s : State) : List Page × List Page :=
  let l := s.led.ring.reverse
  ((l.dropWhile (fun p => !decodes r s p)).reverse, (l.takeWhile (fun p => !decodes r s p)).reverse)

/-- The place of the last anchor among the records of a page. -/
def anchorAt (p : Page) : Option Nat :=
  ((upto p.recs.length).filter (fun i => (p.recs[i]?).any (fun r => decide (r.type = 8)))).getLast?

/-- The pages from the last anchor to the tail (R448): where the ring holds no anchor, all. -/
def walkOf (l : List Page) : List Page :=
  let tail := (l.reverse.takeWhile (fun p => (anchorAt p).isNone)).reverse
  match (l.take (l.length - tail.length)).getLast? with
  | some p => p :: tail
  | none => tail

/-- Whether each page of the walk holds the hash of the page before it; one that cannot be read is no proof. -/
def chainOk (r : MountReport) (s : State) : List Page → Bool
  | p :: q :: l =>
    let known := !r.pageBad.contains p.seq && !r.pageBad.contains q.seq && decide (p.segment = q.segment)
    (!known || decide (((pageFound r s q).drop 16).take 32 = sha256 (pageFound r s p))) && chainOk r s (q :: l)
  | _ => true

/-- Whether the seal of the last anchor of the walk holds (R442). A retired part can check none (R99). -/
def sealHolds (r : MountReport) (s : State) (walk : List Page) : Bool :=
  match walk with
  | [] => true
  | p :: _ => match anchorAt p with
    | none => true
    | some i =>
      let b := pageFound r s p
      let rec_ := (b.drop (64 + 64 * i)).take 64
      let msg := b.take 48 ++ (b.drop 64).take (64 * i) ++ rec_.take 26 ++ serialBytes s
      retired s || r.pageBad.contains p.seq || decide ((rec_.drop 26).take 32 = hmac (sealKey s) msg)

/-- Whether the ring ends in a closing anchor. -/
def closed (l : List Page) : Bool :=
  (l.getLast?.bind (fun p => p.recs.getLast?)).any (fun r => decide (r.type = 8) && decide (r.code = 1))

/-- The number of the anchor after the last one of the ring. -/
def nextAnchor (l : List Page) : Nat :=
  match (l.flatMap Page.recs).reverse.find? (fun r => decide (r.type = 8)) with
  | some r => unle (r.data.take 8) + 1
  | none => 0

/-- The cause of the preceding reset (R87). -/
def resetCauseCode (s : State) : Nat :=
  if s.ctl.resetLatch then 2 else if s.led.flushCode = 0x0B03 then 3
  else if s.led.flushCode = 0x0B01 ∨ s.led.flushCode = 0x0B02 then 4 else 1

/-- What the writing of the ring goes on from: the pages that are kept, and after the tail. -/
def ringResume (r : MountReport) (kept : List Page) (next : Nat) (restart : Bool) (s : State) : State :=
  modLed (fun l => { l with
    ring := kept, nextPage := next
    nextRec := match kept.getLast? with
      | some p => mod32 (p.firstRec + p.recs.length)
      | none => l.nextRec
    anchor := max (nextAnchor kept) (if kept = [] then l.anchor else 0)
    segment := if restart then l.segment + 1 else l.segment
    hash := if restart then [] else match kept.getLast? with
      | some p => sha256 (pageFound r s p)
      | none => [] }) s

/-- Steps 3 to 6 of R448: the tail, the chain check, the new block and the first records. -/
def mountRing (r : MountReport) (s : State) : State :=
  let (kept, lost) := ringTail r s
  let cut := r.incomplete || s.led.torn
  let incomplete := cut || decide (lost ≠ [])
  let after := match s.led.ring.getLast? with
    | some p => p.seq + 1
    | none => max 1 s.led.nextPage
  let missing := match lost with
    | p :: _ => p.seq
    | [] => after
  let walk := walkOf kept
  let walkBad := walk.any (fun p => r.pageBad.contains p.seq)
  let sealBad := !sealHolds r s walk
  let chainBad := sealBad || !chainOk r s walk
  let restart := walkBad || chainBad
  let shut := closed kept
  let bits := b2n incomplete + 2 * b2n shut + 4 * b2n sealBad + 8 * b2n restart
  let note : LedgerRec := {
    time := s.time.dev, type := 9, rank := 3, code := resetCauseCode s
    data := le 1 bits ++ le 8 (if incomplete then missing else 0) }
  let held := s.led.openRecs
  let s := if incomplete then faultOnce 0x0D09 0x0770 s else s
  let s := if s.led.flushed && !shut then faultOnce 0x0D0C 0x0770 s else s
  let s := if walkBad then faultOnce 0x0D05 0x0770 s else s
  let s := if chainBad then faultOnce 0x0D0A 0x0770 s else s
  let s := nandDo (identifyCmds r ++ (if (cePage r.ce0).isNone then [] else [.setFeatures])
    ++ [.pageRead, .blockErase, .readStatus]) s
  let s := modLed (fun l => { l with
    state := 1, result := 0, openRecs := [], queued := [], flushed := false, flushCode := 0, torn := false })
    (ringResume r kept (after + b2n cut) restart s)
  let s := shortBlocks (openPut (anchorRec 2 s.time.dev) (openPut note (ringOpen s)))
  held.foldl (fun a x => place x a) (s.col.records.foldl (fun a x => ledgerPut x.copy a) s)

/-- One value of a set with a delta: the delta's, where it differs from the set that the delta follows. -/
def withChange {α : Type} [DecidableEq α] (a b x : α) : α := if a = b then x else b

/-- A table with the entries that a delta changes. -/
def withTable {α : Type} [DecidableEq α] (d : α) (f : α → α → α → α) (a b x : Table α) : Table α :=
  (tdiff d a b).foldl (fun t k => tset d t k (f (tget d a k) (tget d b k) (tget d t k))) x

/-- What is learned of an output, with a delta. -/
def Learn.withDelta (a b x : Learn) : Learn :=
  { ons := withChange a.ons b.ons x.ons, onTime := withChange a.onTime b.onTime x.onTime
    count := withChange a.count b.count x.count, total := withChange a.total b.total x.total
    n := withChange a.n b.n x.n, learned := withChange a.learned b.learned x.learned
    last16 := withChange a.last16 b.last16 x.last16, drift := withChange a.drift b.drift x.drift }

/-- What is learned of a brake, with a delta. -/
def BrakeLearn.withDelta (a b x : BrakeLearn) : BrakeLearn :=
  { pullIns := withChange a.pullIns b.pullIns x.pullIns, dips := withChange a.dips b.dips x.dips
    base := withChange a.base b.base x.base, initial := withChange a.initial b.initial x.initial
    n := withChange a.n b.n x.n, sigFails := withChange a.sigFails b.sigFails x.sigFails
    passed := withChange a.passed b.passed x.passed, failed := withChange a.failed b.failed x.failed
    lastPass := withChange a.lastPass b.lastPass x.lastPass }

/-- A recovery window, with a delta. -/
def ClassSt.withDelta (a b x : ClassSt) : ClassSt :=
  { counter := withChange a.counter b.counter x.counter, times := withChange a.times b.times x.times
    last := withChange a.last b.last x.last }

/-- A set with a delta page applied: the values that have changed since the set that the delta follows (R451). -/
def Backup.apply (d : Delta) (x : Backup) : Backup :=
  let a := d.base
  let b := d.now
  { x with
    overlay := withChange a.overlay b.overlay x.overlay
    learn := withTable {} Learn.withDelta a.learn b.learn x.learn
    brakeLearn := withTable {} BrakeLearn.withDelta a.brakeLearn b.brakeLearn x.brakeLearn
    doors := withTable (0, 0) (fun a b x => (withChange a.1 b.1 x.1, withChange a.2 b.2 x.2)) a.doors b.doors x.doors
    classes := withTable {} ClassSt.withDelta a.classes b.classes x.classes
    seeds := withTable 0 withChange a.seeds b.seeds x.seeds
    opNs := withChange a.opNs b.opNs x.opNs
    timeout := withChange a.timeout b.timeout x.timeout }

/-- The set that a mount applies: the newest valid one with the delta page after it; none where no set is valid
(R451). -/
def backupFound (r : MountReport) (s : State) : Option Backup :=
  let good := fun (g : Nat) => decide (g ≠ 0) && !r.backupBad.contains g
  let l := [s.led.backup, s.led.older].filter (fun b => good b.generation)
  let set := l.foldl (fun m b => match m with
    | none => some b
    | some x => if x.generation < b.generation then some b else some x) none
  set.map (fun b => match s.led.delta with
    | some d => if good d.generation && decide (b.generation < d.generation) then Backup.apply d b else b
    | none => b)

/-- A parameter set is applied (R451, R463). Operating time is added to the count and to every interval start taken
before. -/
def restoreBackup (b : Backup) (s : State) : State :=
  let s := { s with
    time := { s.time with opNs := s.time.opNs + b.opNs }
    cfg := { s.cfg with overlay := b.overlay }
    col := { s.col with
      classes := b.classes
      records := s.col.records.map (fun r => { r with goneAt := r.goneAt + b.opNs })
      pending := s.col.pending.map (fun p => { p with goneAt := p.goneAt + b.opNs }) }
    outs := { s.outs with learn := b.learn, brakeLearn := b.brakeLearn }
    test := { s.test with calFrom := s.test.calFrom + b.opNs }
    net := { s.net with switches := s.net.switches.map (fun x =>
      (x.1, { x.2 with icmp := x.2.icmp.map (· + b.opNs) })) }
    dict := { s.dict with
      session := { s.dict.session with
        timeout := b.timeout, lastRequest := s.dict.session.lastRequest + b.opNs
        lockout := s.dict.session.lockout.map (· + b.opNs) }
      subs := s.dict.subs.map (fun x => (x.1, { x.2 with since := x.2.since + b.opNs, sentAt := x.2.sentAt + b.opNs }))
      kept := s.dict.kept.map (fun k => { k with time := k.time + b.opNs })
      sdo := s.dict.sdo.map (fun x => (x.1, { x.2 with at_ := x.2.at_ + b.opNs })) } }
  let s := b.doors.foldl (fun a d => { a with pairs := tmod {} a.pairs d.1 (fun p => { p with
    cycles := d.2.1, egress := d.2.2 }) }) s
  let s := (upto 12).foldl (fun a n => modItem n (fun i =>
    if i.passed = 0 then i else { i with ageFrom := i.ageFrom + b.opNs }) a) s
  b.seeds.foldl (fun a d => modItem d.1 (fun i => { i with seed := d.2 }) a) s

/-- A page that fails its CRC: its last byte reads wrong. -/
def spoilPage (b : List Byte) : List Byte := b.dropLast ++ (b.getLast?.map (~~~ ·)).toList

/-- What the mount reads of an image slot: 1 A, 2 B (R452, R453). -/
def ImageSlot.read (r : MountReport) (n : Nat) (x : ImageSlot) : ImageSlot :=
  { x with
    header := if r.headerBad.contains n then spoilPage x.header else x.header
    validity := if r.validityBad.contains n then spoilPage x.validity else x.validity }

/-- The image slots as the mount reads them. -/
def mountSlots (r : MountReport) (s : State) : State :=
  modLed (fun l => { l with slotA := l.slotA.read r 1, slotB := l.slotB.read r 2 }) s

/-- A successful mount. -/
def mount (r : MountReport) (s : State) : State :=
  let s := mountSlots r (mountTables r (usePart r s))
  match backupFound r s with
  | some b => mountRing r (restoreBackup b s)
  | none => faultOnce 0x0D0D 0x0770 (mountRing r
      (modLed (fun l => { l with dirty := true, dirtySince := s.time.now }) s))

/-! ### Format (R438) -/

/-- A write of 0x464D to 0x2A04:01: refused while the Ledger is mounted, and while it flushes, stands still until
the next reset or formats already. -/
def formatWrite (s : State) : Nat × State :=
  if s.led.state = 0 then (0, modLed (fun l => { l with state := 4 }) s) else (0x08000022, s)

/-- Whether a mark is that of a bad block (R435). -/
def markBad (m : BlockMark) : Bool := decide (m.first ≠ 0xFF) || decide (m.second ≠ 0xFF) || decide (m.last ≠ 0xFF)

/-- FORMAT_COMPLETE (R438): every mark is read, every table is built anew, and the Ledger mounts. A part that the mount
would refuse stays unformatted. -/
def execFormatComplete (r : MountReport) (marks : List BlockMark) (s : State) : Host.Outcome State Fault Refusal :=
  .next (if s.led.state = 4 then
    let r : MountReport := { ce0 := r.ce0, ce1 := r.ce1, badTable := (marks.filter markBad).map (·.block) }
    let t := modLed (fun l => { l with
      ring := [], segment := 0, nextRec := 0, anchor := 0, hash := [], nextPage := 0, block := 0, blockPages := 0
      tables := {}, control := [], pinBlock := 0, pinPages := 0, paramPages := 0, slotA := {}, slotB := {}
      backup := {}, older := {}, delta := none, pins := [], openRecs := [], flushed := false, flushCode := 0
      torn := false }) s
    if mountFailure r t = 0 then mount r t else modLed (fun l => { l with state := 0, result := mountFailure r t }) s
  else s)

/-! ### The parameter backup (R451, R463) -/

/-- PARAMETER_SET_WRITE (R445, R451). -/
def execParameterSetWrite (s : State) : Host.Outcome State Fault Refusal :=
  .next (if s.led.state = 1 ∧ paramMay s ∧ s.led.dirty then persist s else countDeferred s)

/-- OPERATING_TIME_PERSIST (R445, R463): a complete set is written. -/
def execOperatingTimePersist (s : State) : Host.Outcome State Fault Refusal :=
  .next (if s.led.state = 1 ∧ paramMay s then persist s else countDeferred s)

/-! ### Scrub and wear (R436, R454) -/

/-- The erased blocks of the ring: they hold no page, and none is being written. -/
def erasedRing (s : State) : List Nat :=
  let used := ringPlace s s.led.block :: (s.led.ring.map (fun p => ringPlace s p.blk) ++ s.led.tables.given)
  ((upto s.led.tables.ringFormatted).filter (fun b => !used.contains b)).map (ringBase s + ·)

/-- The erased blocks of the pinned region. -/
def erasedPin (s : State) : List Nat :=
  let used := pinnedBlocks s
  ((upto s.led.tables.pinBlocks).filter (fun b => !used.contains b && decide (b + 1 ≠ s.led.pinBlock))).map (pinBase s + ·)

/-- The erased block that takes the content of another: one of its partition, else the last of the spare pool (R454). -/
def erasedFor (s : State) (b : Nat) : Option Nat :=
  let own := if ringBase s ≤ b then erasedRing s else if pinBase s ≤ b then erasedPin s else []
  own.head?.or (if s.led.tables.spares = 0 then none else some (spareBase s + (s.led.tables.spares - 1)))

/-- A weak block is rewritten into an erased one, which takes its logical number; the block given up is erased and takes
the other's place (R454, log entry 107). -/
def rewriteBlock (b : Nat) (s : State) : State :=
  match erasedFor s b with
  | none => s
  | some w =>
    let old := physOf s b
    let new := physOf s w
    blockNote 2 b old new (modLed (fun l => { l with rewritten := inc32 l.rewritten })
      (eraseBlocks [w] (swapBlocks b w s)))

/-- A sector with 4 or more corrected bits: the scrub interval falls to 1 day (R454). -/
def weakSector (bits : Nat) (s : State) : State :=
  if 4 ≤ bits ∧ bits ≤ 8 then
    faultOnce 0x0D06 0x0770 (modLed (fun l => { l with tables := { l.tables with scrubDays := 1 } }) s)
  else s

/-- SCRUB_PASS (R454): a pass that is complete one scrub interval after the last, with the logical blocks that show corrected
bits, the most that a sector of each shows, and the uncorrectable pages found. -/
def execScrubPass (blocks bits : List Nat) (bad : Nat) (s : State) : Host.Outcome State Fault Refusal :=
  let sectors := blocks.zip bits
  let worst := (sectors.map (·.2)).foldl max 0
  .next (if s.led.state = 1 ∧ moveMay s then
    let s := advance (s.time.now + (s.led.tables.scrubFrom + s.led.tables.scrubDays * 86400 * second - s.time.opNs)) s
    let weak := (sectors.filter (fun e => decide (6 ≤ e.2))).map (·.1)
    let s := nandDo (.pageRead :: (if weak = [] then [] else [.pageProgram, .blockErase, .readStatus])) s
    let s := modLed (fun l => { l with
      scrubTime := s.time.dev, worst := min 8 worst, uncorrectable := inc32 l.uncorrectable bad }) s
    let s := modTables (fun c => { c with scrubDays := if 4 ≤ worst then 1 else 7, scrubFrom := s.time.opNs }) s
    let s := weak.foldl (fun a b => rewriteBlock b a) (weakSector (min 8 worst) s)
    if bad = 0 then s else faultOnce 0x0D05 0x0770 s
  else s)

/-- The mean erase count of the ring. -/
def ringMean (s : State) : Nat :=
  (((upto s.led.tables.ringFormatted).filter (fun b => !s.led.tables.given.contains b)).map
    (fun b => tget 0 s.led.tables.erases (ringBase s + b))).foldl (· + ·) 0 / max 1 (ringBlocks s)

/-- The most-worn ring block that is erased. -/
def mostWorn (s : State) : Option Nat :=
  (erasedRing s).foldl (fun m b => match m with
    | none => some b
    | some x => if tget 0 s.led.tables.erases x < tget 0 s.led.tables.erases b then some b else some x) none

/-- Whether a logical block holds static content: an image slot, the parameter backup, an unused spare or a pinned block
(R436). -/
def staticBlock (s : State) (b : Nat) : Bool :=
  if b < 8 then false
  else if b < slotBase s 2 then decide (s.led.slotA.header ≠ [])
  else if b < paramBase s then decide (s.led.slotB.header ≠ [])
  else if b < spareBase s then decide (b - paramBase s < s.led.paramPages)
  else if b < pinBase s then decide (b - spareBase s < s.led.tables.spares)
  else decide (b < ringBase s) && (pinnedBlocks s).contains (b - pinBase s)

/-- WEAR_LEVELLING_MOVE (R436, R445): static content of a block with an erase count 100 or more below the ring's mean moves
to the most-worn erased ring block, and the less-worn block, erased, joins the ring. -/
def execWearLevellingMove (b : Nat) (s : State) : Host.Outcome State Fault Refusal :=
  .next (match mostWorn s with
    | some w =>
      if s.led.state = 1 ∧ moveMay s ∧ staticBlock s b ∧ tget 0 s.led.tables.erases b + 100 ≤ ringMean s then
        blockNote 3 b (physOf s b) (physOf s w) (nandDo [.pageRead, .pageProgram, .blockErase, .readStatus]
          (eraseBlocks [w] (swapBlocks b w s)))
      else s
    | none => s)

/-! ### Pins (R455, R456) -/

/-- A pin request by 0x2A0C:04. -/
def pinRequestWrite (r : Requester) (s : State) : Nat × State :=
  if !transportOk s r then (0x08000022, s)
  else if s.led.state ≠ 1 then (0x08000022, s)
  else (0, pinOpen s.led.pinTime (s.led.pinBefore * second) (s.led.pinAfter * second) false s)

/-- PIN_COPY_START (R445, R455): once device time has passed the window's end, or, for an automatic pin, after the next
mount, the copy of the ring's pages of the window begins; with nothing to copy the pin is held at once. -/
def execPinCopyStart (n : Nat) (s : State) : Host.Outcome State Fault Refusal :=
  let p := tget {} s.led.pins n
  .next (if s.led.state = 1 ∧ pinMay s ∧ p.state = 1 ∧ (p.auto ∨ p.stop < s.time.dev) then
    pinSettle n (modLed (fun l => { l with pins := tset {} l.pins n { p with state := 2 } }) s)
  else s)

/-- The block of the pinned region that is being written is given up where no pin has a page in it any more: it is erased
before it is used again (R456). -/
def pinFree (s : State) : State :=
  if s.led.pinBlock ≠ 0 ∧ !(pinnedBlocks s).contains (s.led.pinBlock - 1) then
    modLed (fun l => { l with pinBlock := 0, pinPages := 0 }) s
  else s

/-- A write of 0x2A0C:07: the pin's entry and pages are free again. -/
def pinRelease (n : Nat) (s : State) : Nat × State :=
  let p := tget {} s.led.pins n
  if p.state = 0 then (0x06090030, s)
  else (0, pinNote 5 n p.start p.stop (pinFree (modLed (fun l => { l with pins := tset {} l.pins n {} }) s)))

/-! ### Reading out (R457) -/

/-- The status of a page that is found, by its worst sector: 0 read, 1 read corrected, 3 uncorrectable. -/
def pageCode (bits : Option Nat) : Nat :=
  match bits with
  | none => 3
  | some n => if n < 4 then 0 else 1

/-- A page is read from the NAND part, through ECC: its status, its data, nothing where it is uncorrectable, and what its
worst sector brings about. -/
def pageOut (errors : Nat) (p : Page) (s : State) : Nat × List Byte × State :=
  let b := pageBits s.led.part.pageSize errors p
  let s := weakSector (b.getD 0) (nandDo [.pageRead] s)
  (pageCode b, if b.isNone then [] else pageBytes s.led.part.pageSize p, s)

/-- What a page read leaves in 0x2A08:02 and :03. -/
def setPage (data : List Byte) (st : Nat) (s : State) : State :=
  let s := if data = s.led.pageData then s else bump 0x2A08 2 s
  modLed (fun l => { l with pageData := data, pageStatus := st }) s

/-- What a page read leaves in 0x2A09:03 and :04. -/
def setPinned (data : List Byte) (st : Nat) (s : State) : State :=
  let s := if data = s.led.pinData then s else bump 0x2A09 3 s
  modLed (fun l => { l with pinData := data, pinStatus := st }) s

/-- The ring page named in 0x2A08:01 is read. -/
def readRing (errors : Nat) (s : State) : State :=
  match s.led.ring.find? (fun p => decide (p.seq = s.led.readPage)) with
  | some p =>
    if s.led.state = 1 then
      let (st, data, s) := pageOut errors p s
      setPage data st s
    else setPage [] 2 s
  | none =>
    let waits := s.led.queued.any (fun p => decide (p.seq = s.led.readPage))
      || (decide (s.led.openRecs ≠ []) && decide (s.led.readPage = s.led.nextPage))
    setPage [] (if waits then 4 else 2) s

/-- The pinned page named in 0x2A09:01 and :02 is read. -/
def readPinned (errors : Nat) (s : State) : State :=
  match (tget {} s.led.pins s.led.readPin).pages[s.led.pinIndex]? with
  | some p =>
    if s.led.state = 1 then
      let (st, data, s) := pageOut errors p s
      setPinned data st s
    else setPinned [] 2 s
  | none => setPinned [] 2 s

end Sys2Proof.Machine
end

