-- ==== Sys2Proof/Machine/Ports.lean ====
section
/-! DEFINITION. The commands of the network ports: Ethernet with PRP and HSR, CAN FD, and Genxon links
(R382 to R397). The PTP messages are in Clocks. -/

namespace Sys2Proof.Machine

/-! ### Port state (R382, R388) -/

/-- The link of a port takes a state; a half-duplex link is held down. A change between up and down is a
network record, and may change the redundancy state. -/
def setPort (p : Nat) (up : Bool) (speed : Nat) (half : Bool) (s : State) : State :=
  if !portEnabled s p then s
  else
    let now := up && !half
    let old := (ethPort s p).up
    let f := fun (s : State) =>
      modPort p (fun x => { x with up := now, speed := if up then speed % 4 else 0, half := up && half }) s
    if now = old then f s
    else
      let st := b2n now + 2 * (if up then speed % 4 else 0) + 8 * b2n (up && half)
      netNote (if now then 1 else 2) (0x0710 + p) st (withRedundancy (p / 4) f s)

/-- PHY_STATUS_POLL (R382): the status of each PHY as MDIO reads it. -/
def execPhyStatusPoll (l : List PhyStatus) (s : State) : Host.Outcome State Fault Refusal :=
  .next (l.foldl (fun a x => setPort x.port x.up x.speed x.half a) s)

/-- PORT_LINK_CHANGE (R388). -/
def execPortLinkChange (p : Nat) (up : Bool) (speed : Nat) (half : Bool) (s : State) :
    Host.Outcome State Fault Refusal :=
  .next (setPort p up speed half s)

/-! ### Frames for the station (R384) -/

/-- The table without a key. -/
def tdrop {α : Type} (t : Table α) (k : Nat) : Table α := t.filter (fun e => decide (e.1 ≠ k))

/-- An ARP message at a station: its sender enters the cache, which has 64 entries, when it asks for this
station or is known already; a request for this station is answered (log entry 32). -/
def arpIn (w : Nat) (request : Bool) (ip mac target : Nat) (s : State) : State :=
  if stationIp s w = 0 then s
  else
    let mine := decide (target = stationIp s w)
    let known := (tfind (switch s w).arp ip).isSome
    let s := if known || (mine && decide ((switch s w).arp.length < 64)) then
        modSwitch w (fun x => { x with arp := tput x.arp ip mac, arpAt := tset 0 x.arpAt ip (s.time.now + 1) }) s else s
    if request && mine then
      stationSend w 0 { dst := mac, src := stationMac s w, content := .arp false (stationIp s w) (stationMac s w) ip } s
    else s

/-- The ICMP replies of a station within the last second of operating time (R384, R463). -/
def icmpRecent (s : State) (w : Nat) : List Nat :=
  (switch s w).icmp.filter (fun t => decide (s.time.opNs < t + second))

/-- An ICMP echo request at a station: at most 10 replies in any second. -/
def echoIn (w ip : Nat) (s : State) : State :=
  if stationIp s w = 0 then s
  else
    let l := icmpRecent s w
    if l.length < 10 then
      stationSend w 0 { dst := destMac s w ip, src := stationMac s w, content := .icmpEcho (stationIp s w) }
        (modSwitch w (fun x => { x with icmp := l ++ [s.time.opNs] }) s)
    else modSwitch w (fun x => { x with icmp := l }) s

/-- A supervision frame on a port of the redundant pair (R388). -/
def supIn (p : Nat) (s : State) : State :=
  if p % 4 < 2 ∧ switchMode s (p / 4) ≠ 0 ∧ portUp s p then
    withRedundancy (p / 4) (modPort p (fun x => { x with supLost := false, supAt := s.time.now + 1 })) s
  else s

/-- A KDP datagram (R134, R135): a bad frame is discarded and counted, a good one waits for the dictionary. -/
def kdpIn (p ip port : Nat) (fragment : Bool) (bs : List Byte) (s : State) : State :=
  if fragment ∨ 1064 < bs.length then s
  else if kdpFrameOk bs then
    let r : Requester := { code := 4, ip := ip, port := port }
    touch r { s with dict := { s.dict with udp := s.dict.udp ++ [⟨r, bs, s.time.now⟩] } }
  else modPort p (fun x => { x with kdpDiscards := inc32 x.kdpDiscards }) s

/-- A frame is handed to the station by port `p`. A protocol that Table NW-1 does not list is counted as
dropped when it is addressed to the station. -/
def stationIn (p : Nat) (fr : EthFrame) (s : State) : State :=
  let w := p / 4
  let drop := if fr.dst = stationMac s w then modPort p (fun x => { x with dropped := inc32 x.dropped }) s else s
  if stationIp s w = 0 then s
  else match fr.content with
    | .arp rq ip mac tgt => arpIn w rq ip mac tgt s
    | .icmpEcho ip => echoIn w ip s
    | .kdp ip port dst frag bs => if dst = 38417 then kdpIn p ip port frag bs s else drop
    | .genxon bs => telegramIn w bs s
    | .ptp _ => s
    | .supervision => s
    | .other => drop

/-! ### The switches (R383, R387) -/

/-- The queue of a forwarded frame (R386). -/
def fwdQueue (fr : EthFrame) : Nat :=
  if fr.pcp = some 6 ∨ fr.pcp = some 7 then 3 else if (ptpOf fr).isSome then 2 else 0

/-- A frame as a port takes it: stamped with its receipt; the residence time that the port holds of a Delay_Req which left
by it enters the Delay_Resp (R389). -/
def portTakes (p : Nat) (fr : EthFrame) (s : State) : EthFrame × State :=
  let fr := { fr with arrived := s.time.now + 1 }
  match ptpOf fr with
  | some m =>
    if m.kind = .delayResp then
      let x := (ethPort s p).correct m
      ({ fr with content := .ptp x.1 }, modPort p (fun y => { y with residences := x.2.residences }) s)
    else (fr, s)
  | none => (fr, s)

/-- A switch learns the port of a source address; a full table learns no new one. -/
def learnMac (w p mac : Nat) (s : State) : State :=
  if isGroup mac then s
  else if (tfind (switch s w).macs mac).isSome || decide ((switch s w).macs.length < 1024) then
    modSwitch w (fun x => { x with macs := tput x.macs mac p, macsAt := tset 0 x.macsAt mac (s.time.now + 1) }) s
  else s

/-- Whether a copy with this mark was seen before, and the mark remembered: at most 256 source addresses are
tracked. `way` tells the station's copies from those forwarded by a port (log entry 33). -/
def dupSeen (w : Nat) (fr : EthFrame) (way : Nat) (s : State) : Bool × State :=
  match fr.redSeq with
  | none => (false, s)
  | some q =>
    let d := (switch s w).dups
    let mark := (fr.src, q + 65536 * way)
    let addrs := d.foldl (fun l e => if l.contains e.1 then l else e.1 :: l) []
    if d.contains mark then (true, s)
    else if addrs.contains fr.src || decide (addrs.length < 256) then
      (false, modSwitch w (fun x => { x with dups := mark :: x.dups, dupsAt := (s.time.now + 1) :: x.dupsAt }) s)
    else (false, s)

/-- Bridge a frame among some ports of a switch, the station apart: by the learned port, or by every other. -/
def bridge (w p : Nat) (among : List Nat) (fr : EthFrame) (s : State) : State :=
  let others := among.filter (· ≠ p)
  match tfind (switch s w).macs fr.dst with
  | some q => if q = p ∨ !among.contains q then s else sendPort q (fwdQueue fr) fr s
  | none => sendPorts others (fwdQueue fr) fr s

/-- A frame on a port of the redundant pair: duplicates are discarded and counted; in HSR a frame that others
originated goes on around the ring, once by each port. -/
def pairIn (p : Nat) (fr : EthFrame) (s : State) : State :=
  let w := p / 4
  let mine := decide (fr.dst = stationMac s w)
  let s := if fr.content = .supervision then supIn p s else s
  if fr.src = stationMac s w then s
  else
    let s := if switchMode s w = 2 ∧ !mine ∧ fr.redSeq.isSome then
        let r := dupSeen w fr (1 + p % 2) s
        if r.1 then r.2 else sendPort (4 * w + (1 - p % 2)) (fwdQueue fr) fr r.2
      else s
    let r := dupSeen w fr 0 s
    if r.1 then modSwitch w (fun x => { x with dupCount := inc32 x.dupCount }) r.2
    else if mine || isGroup fr.dst then stationIn p fr r.2 else r.2

/-- ETHERNET_FRAME_RECEIVED (R382, R383, R387). -/
def execEthernetFrameReceived (p : Nat) (fr : EthFrame) (s : State) : Host.Outcome State Fault Refusal :=
  .next (if !portUp s p then s
  else if !fr.crcOk ∨ 1522 < fr.length then modPort p (fun x => { x with dropped := inc32 x.dropped }) s
  else
    let w := p / 4
    let (fr, s) := portTakes p fr (modPort p (fun x => { x with rx := inc32 x.rx }) s)
    if switchMode s w ≠ 0 ∧ p % 4 < 2 then pairIn p fr s
    else
      let s := learnMac w p fr.src s
      let among := if switchMode s w = 0 then portsOf w else [4 * w + 2, 4 * w + 3]
      if fr.dst = stationMac s w then stationIn p fr s
      else if isGroup fr.dst then stationIn p fr (sendPorts (among.filter (· ≠ p)) (fwdQueue fr) fr s)
      else bridge w p among fr s)

/-- FRAME_TRANSMIT_COMPLETE (R386): the frame is counted and the port takes the next one. -/
def execFrameTransmitComplete (p : Nat) (s : State) : Host.Outcome State Fault Refusal :=
  .next (if portUp s p ∧ (ethPort s p).sending.isSome then
    modPort p (fun x => { x with tx := inc32 x.tx }.next s.time.now) s else s)

/-- ADDRESS_ENTRY_AGEING (R383): 300 s after the address was last learned. -/
def execAddressEntryAgeing (w mac : Nat) (s : State) : Host.Outcome State Fault Refusal :=
  let s := if (tfind (switch s w).macs mac).isSome then afterStamp (tget 0 (switch s w).macsAt mac) (300 * second) s else s
  .next (modSwitch w (fun x => { x with macs := tdrop x.macs mac, macsAt := tdrop x.macsAt mac }) s)

/-- The marks of a source address and sequence number, with when each was made. -/
def dupMarks (s : State) (w mac seq : Nat) : List ((Nat × Nat) × Nat) :=
  ((switch s w).dups.zip (switch s w).dupsAt).filter (fun e => decide (e.1.1 = mac) && decide (e.1.2 % 65536 = seq))

/-- DUPLICATE_ENTRY_FORGET (R387): the entry forget time after the last of its marks. -/
def execDuplicateEntryForget (w mac seq : Nat) (s : State) : Host.Outcome State Fault Refusal :=
  let s := afterStamp (((dupMarks s w mac seq).map (·.2)).foldl max 0) (capNum s 4 6 400 * 1000000) s
  let keep := fun (e : Nat × Nat) => decide (e.1 ≠ mac) || decide (e.2 % 65536 ≠ seq)
  .next (modSwitch w (fun x => { x with
    dups := x.dups.filter keep, dupsAt := ((x.dups.zip x.dupsAt).filter (fun e => keep e.1)).map (·.2) }) s)

/-- ARP_REQUEST (R384). -/
def execArpRequest (w : Nat) (request : Bool) (ip mac target : Nat) (s : State) : Host.Outcome State Fault Refusal :=
  .next (if netOn s then arpIn w request ip mac target s else s)

/-- ARP_ENTRY_EXPIRY (R384): 300 s after the entry was made. -/
def execArpEntryExpiry (w ip : Nat) (s : State) : Host.Outcome State Fault Refusal :=
  let s := if (tfind (switch s w).arp ip).isSome then afterStamp (tget 0 (switch s w).arpAt ip) (300 * second) s else s
  .next (modSwitch w (fun x => { x with arp := tdrop x.arp ip, arpAt := tdrop x.arpAt ip }) s)

/-- ICMP_ECHO_REQUEST (R384). -/
def execIcmpEchoRequest (w ip : Nat) (s : State) : Host.Outcome State Fault Refusal :=
  .next (if netOn s then echoIn w ip s else s)

/-- SUPERVISION_FRAME_SEND (R387): on both ports of the pair, every 2,000 ms. -/
def execSupervisionFrameSend (w : Nat) (s : State) : Host.Outcome State Fault Refusal :=
  .next (if netOn s ∧ switchMode s w ≠ 0 then
    let s := afterStamp (switch s w).supSent (2 * second) s
    let n := (switch s w).redSeq
    sendPorts [4 * w, 4 * w + 1] 0
      (tagged w { dst := 0x01154E000100, src := stationMac s w, redSeq := some n, content := .supervision } s)
      (modSwitch w (fun x => { x with redSeq := (n + 1) % 65536, supSent := s.time.now + 1 }) s)
  else s)

/-- SUPERVISION_FRAME_RECEIVED (R387, R388). -/
def execSupervisionFrameReceived (p : Nat) (s : State) : Host.Outcome State Fault Refusal := .next (supIn p s)

/-- SUPERVISION_LOSS (R388): 6,000 ms without a supervision frame on a redundant port. -/
def execSupervisionLoss (p : Nat) (s : State) : Host.Outcome State Fault Refusal :=
  .next (if p % 4 < 2 ∧ switchMode s (p / 4) ≠ 0 ∧ portUp s p then
    withRedundancy (p / 4) (modPort p (fun x => { x with supLost := true }))
      (afterStamp (ethPort s p).supAt (6 * second) s)
  else s)

/-! ### CAN (R390 to R393) -/

/-- BUS_OFF (R390): the transmit error count has passed 255. -/
def execBusOff (n : Nat) (s : State) : Host.Outcome State Fault Refusal :=
  .next (if canRuns s n ∧ (canPort s n).bus ≤ 1 then setBus n 2 (modCan n (fun x => { x with tec := 255 }) s) else s)

/-- BUS_OFF_RECOVERY (R390): the controller rejoins and counts the event. -/
def execBusOffRecovery (n : Nat) (s : State) : Host.Outcome State Fault Refusal :=
  .next (if canRuns s n ∧ (canPort s n).bus = 2 then
    setBus n 0 (modCan n (fun x => { x with tec := 0, recv := 0, offs := inc32 x.offs }) s) else s)

/-- NMT_START (R391). -/
def execNmtStart (n node : Nat) (s : State) : Host.Outcome State Fault Refusal := .next (nmt n 1 node s)
/-- NMT_STOP (R391). -/
def execNmtStop (n node : Nat) (s : State) : Host.Outcome State Fault Refusal := .next (nmt n 2 node s)
/-- NMT_ENTER_PRE_OPERATIONAL (R391). -/
def execNmtEnterPreOperational (n node : Nat) (s : State) : Host.Outcome State Fault Refusal := .next (nmt n 128 node s)
/-- NMT_RESET_COMMUNICATION (R391, R392). -/
def execNmtResetCommunication (n node : Nat) (s : State) : Host.Outcome State Fault Refusal := .next (nmt n 130 node s)
/-- NMT_RESET_NODE (R391): it acts as reset communication. -/
def execNmtResetNode (n node : Nat) (s : State) : Host.Outcome State Fault Refusal := .next (nmt n 129 node s)

/-- One port's heartbeat. -/
def beat (n : Nat) (s : State) : State := canSend n { id := 0x700 + canNode s n, data := le 1 (canPort s n).nmt } s

/-- HEARTBEAT (R392): on both ports, in HALT on CN0 alone, once in each heartbeat time. -/
def execHeartbeat (s : State) : Host.Outcome State Fault Refusal :=
  .next (if s.dict.heartbeat = 0 then s
  else
    let s := afterStamp s.net.beatAt (s.dict.heartbeat * 1000000) s
    beat 1 (beat 0 { s with net := { s.net with beatAt := s.time.now + 1 } }))

/-! ### Genxon links (R395 to R397) -/

/-- COMMA_ALIGNMENT (R396): a link that is down starts syncing. -/
def execCommaAlignment (l : Nat) (s : State) : Host.Outcome State Fault Refusal :=
  .next (if linkOn s l ∧ (link s l).state = 0 then setLink l 1 s else s)

/-- LINK_SYNCED (R396): hellos start. -/
def execLinkSynced (l : Nat) (s : State) : Host.Outcome State Fault Refusal :=
  .next (if linkOn s l ∧ (link s l).state = 1 then modLink l (fun x => { x with synced := true }) s else s)

/-- The symbols of a link that are no valid ones are counted: how many 100 µs without a valid symbol, or a gap inside a
frame, hold is free (Table NW-9; log entry 105). -/
def countViolations (l : Nat) (s : State) : State :=
  let (n, s) := draw s
  modLink l (fun x => { x with violations := inc32 x.violations (Config.freeViolations n) }) s

/-- LINK_SYMBOL_LOSS (R396). -/
def execLinkSymbolLoss (l : Nat) (s : State) : Host.Outcome State Fault Refusal :=
  .next (if linkOn s l ∧ (link s l).state ≠ 0 then setLink l 0 (countViolations l s) else s)

/-- HELLO_SEND (R396): every 1,000 µs. -/
def execHelloSend (l : Nat) (s : State) : Host.Outcome State Fault Refusal :=
  .next (if linkOn s l ∧ (link s l).synced then
    let s := afterStamp (link s l).helloAt 1000000 s
    linkSend l (linkFrame 2 (be 4 (domainId s) ++ be 2 (deviceNum s) ++ be 1 l ++ be 8 (serialNo s)))
      (modLink l (fun x => { x with helloAt := s.time.now + 1 }) s)
  else s)

/-- Whether a hello matches the expected peer and peer link (Table NW-9). -/
def helloMatches (c : Conf) (l : Nat) (h : Hello) : Bool :=
  let p := cnum c (0x2B20 + l) 2 0xFFFF
  let q := cnum c (0x2B20 + l) 3 0xFF
  (decide (p = 0xFFFF) || decide (p = h.device)) && (decide (q = 0xFF) || decide (q = h.link))

/-- A hello on a link that has synced: the link goes up, or into peer mismatch with 0x0C10. -/
def helloIn (l : Nat) (h : Hello) (s : State) : State :=
  let s := modLink l (fun x => { x with
    rx := inc32 x.rx, heardAt := s.time.now + 1, peer := (h.device % 65536) * 256 + h.link % 256, serial := h.serial }) s
  if helloMatches (confOf s) l h then goneIf 0x0C10 (0x0720 + l) (setLink l 2 s)
  else faultNew 0x0C10 (0x0720 + l) (setLink l 3 s)

/-- HELLO_RECEIVED (R396). -/
def execHelloReceived (l : Nat) (h : Hello) (s : State) : Host.Outcome State Fault Refusal :=
  .next (if linkOn s l ∧ (link s l).synced then helloIn l h s else s)

/-- HELLO_TIMEOUT (R396): 5,000 µs without a valid hello. -/
def execHelloTimeout (l : Nat) (s : State) : Host.Outcome State Fault Refusal :=
  .next (if linkOn s l ∧ (link s l).state = 2 then setLink l 0 (afterStamp (link s l).heardAt 5000000 s) else s)

/-- Whether the content of a link frame passes R395. -/
def linkFrameOk (bs : List Byte) : Bool :=
  let ty := unle (bs.take 1)
  let n := unle ((bs.drop 1).take 1)
  decide (bs.length = n + 4) && decide (n ≤ 124) && (decide (ty = 1) || (decide (ty = 2) && decide (n = 15)))
    && decide (unbe (bs.drop (n + 2)) = linkCrc (bs.take (n + 2)))

/-- The hello in a link frame. -/
def helloOf (bs : List Byte) : Hello :=
  { domain := unbe ((bs.drop 2).take 4), device := unbe ((bs.drop 6).take 2), link := unbe ((bs.drop 8).take 1)
    serial := unbe ((bs.drop 9).take 8) }

/-- LINK_FRAME_RECEIVED (R395, R396): a bad frame is counted. In peer mismatch only hellos are taken, and a
telegram needs a link that is up; one that is discarded is counted too (Table NW-9). -/
def execLinkFrameReceived (l : Nat) (bs : List Byte) (s : State) : Host.Outcome State Fault Refusal :=
  .next (if linkOn s l ∧ (link s l).synced then
    if !linkFrameOk bs then modLink l (fun x => { x with discarded := inc32 x.discarded }) s
    else if unle (bs.take 1) = 2 then helloIn l (helloOf bs) s
    else if (link s l).state = 2 then
      telegramIn (4 + l) ((bs.drop 2).take (bs.length - 4)) (modLink l (fun x => { x with rx := inc32 x.rx }) s)
    else modLink l (fun x => { x with discarded := inc32 x.discarded }) s
  else s)

/-- FRAME_INTERRUPTED (R397). -/
def execFrameInterrupted (l : Nat) (s : State) : Host.Outcome State Fault Refusal :=
  .next (if linkOn s l ∧ (link s l).state ≠ 0 then
    countViolations l (modLink l (fun x => { x with interrupted := inc32 x.interrupted }) s)
  else s)

end Sys2Proof.Machine
end

