-- ==== Sys2Proof/Machine/Serial.lean ====
section
/-! DEFINITION. The auxiliary serial ports: SPI channels, UARTs and the two I2C ports (R419 to R424). -/

namespace Sys2Proof.Machine

/-! ### SPI (R420) -/

/-- SPI channel `j`. -/
def spi (s : State) (j : Nat) : Spi := tget {} s.net.spis j
/-- Change a channel. -/
def modSpi (j : Nat) (g : Spi → Spi) (s : State) : State :=
  { s with net := { s.net with spis := tmod {} s.net.spis j g } }

/-- Whether a channel is in use. -/
def spiUsed (s : State) (j : Nat) : Bool := configured s && decide (cnum (confOf s) (0x2B30 + j) 1 0 ≠ 0)

/-- The slot of a channel (Table NW-15). -/
def spiSlot (s : State) (j : Nat) : List Byte :=
  match spiUsed s j, (spi s j).received with
  | true, some b => padTo 64 b ++ [1] ++ le 1 b.length ++ [0, 0] ++ le 4 (spi s j).done
  | _, _ => zeros 64 ++ [0, 0, 0, 0] ++ le 4 (spi s j).done

/-- What a channel shifts out: the first L bytes of its transmit pattern (R420). -/
def spiPattern (s : State) (j : Nat) : List Byte :=
  padTo (cnum (confOf s) (0x2B30 + j) 4 1) (cstr (confOf s) (0x2B30 + j) 5 [])

/-- The slots are placed at a boundary, and the next transfers begin: a transfer still under way is abandoned and
counted. A channel of a port starts when the one before it has ended (log entry 34). -/
def spiTurn (j : Nat) (s : State) : State :=
  if spiUsed s j then
    let wait := if j % 2 = 1 then spiTime (confOf s) (j - 1) * 5 else 0
    modSpi j (fun x => { x with
      last := match x.received with
        | some b => padTo 64 b
        | none => []
      mosi := spiPattern s j
      abandoned := if x.busy then inc32 x.abandoned else x.abandoned
      begins := s.time.now + wait, start := devAt s (s.time.now + wait), busy := true, received := none }) s
  else modSpi j (fun x => { x with busy := false, received := none, last := [] }) s

/-- SPI_TRANSFER_COMPLETE (R420): the stated time after its start. -/
def execSpiTransferComplete (j : Nat) (bs : List Byte) (s : State) : Host.Outcome State Fault Refusal :=
  .next (if evaluating s ∧ spiUsed s j ∧ (spi s j).busy then
    let n := cnum (confOf s) (0x2B30 + j) 4 1
    let s := advance ((spi s j).begins + spiTime (confOf s) j * 5) s
    modSpi j (fun x => { x with done := inc32 x.done, busy := false, received := some (padTo n bs) }) s
  else s)

/-- Whether the port of SPI master `m` is enabled by the configuration in force (R419, R420). -/
def spiOn (s : State) (m : Nat) : Bool :=
  (match s.ctl.st with
    | .reset | .fuseSense | .startupTest | .configLoad | .halt => false
    | .safe | .run | .configure | .maintenance => true)
  && (spiUsed s (2 * m) || spiUsed s (2 * m + 1))

/-- The chip select of a channel (SM0_CS0_N to SM1_CS1_N): low during its own transfer only, which waits for the channel
before it, and high from RESET until the port is enabled and in HALT (R419, R420). -/
def chipSelect (s : State) (j : Nat) : Bool :=
  !(spiOn s (j / 2) && evaluating s && spiUsed s j && (spi s j).busy && decide ((spi s j).begins ≤ s.time.now))

/-- The SCK and MOSI lands of SPI master `m`: low from RESET until the port is enabled and in HALT (R419); none where the
channels in use decide them. -/
def spiLand (s : State) (m : Nat) : Option Bool := if spiOn s m then none else some false

/-! ### UARTs (R422) -/

/-- UART `u`. -/
def uart (s : State) (u : Nat) : Uart := tget {} s.net.uarts u
/-- Change a UART. -/
def modUart (u : Nat) (g : Uart → Uart) (s : State) : State :=
  { s with net := { s.net with uarts := tmod {} s.net.uarts u g } }

/-- The mode that a UART runs in; off outside SAFE, RUN, CONFIGURE and MAINTENANCE, and without an image. -/
def uartMode (s : State) (u : Nat) : Nat :=
  match s.ctl.st with
  | .safe | .run | .configure | .maintenance =>
    if configured s ∧ u < 4 then cnum (confOf s) (0x2B38 + u) 1 0 else 0
  | .reset | .fuseSense | .startupTest | .configLoad | .halt => 0

/-- The TX and DE lands of a UART: TX high and DE low from RESET until the port is enabled and in HALT (R419), and
between frames; none while a frame is under way. -/
def uartLands (s : State) (u : Nat) (sending : Bool) : Option (Bool × Bool) :=
  if uartMode s u ≠ 0 ∧ sending then none else some (true, false)

/-- The bytes of frame content between the delimiters. -/
def stuff : List Byte → List Byte
  | [] => []
  | b :: bs => (if b = 0x7E ∨ b = 0x7D then [0x7D, b ^^^ 0x20] else [b]) ++ stuff bs

/-- A frame as it is sent. -/
def uartFrame (ty : Nat) (payload : List Byte) : List Byte :=
  let c := le 1 ty ++ le 2 payload.length ++ payload
  (0x7E : Byte) :: (stuff (c ++ le 4 (crc32 c)) ++ [0x7E])

/-- A UART sends a frame. -/
def uartSend (u ty : Nat) (payload : List Byte) (s : State) : State :=
  modUart u (fun x => { x with frames := inc32 x.frames, line := uartFrame ty payload }) s

/-- The page at which a stream starts: the one set, or the newest where it is 0 or not in the ring. -/
def streamPage (s : State) (start : Nat) : Nat :=
  if start ≠ 0 ∧ s.led.ring.any (fun p => decide (p.seq = start)) then start
  else match s.led.ring.getLast? with
    | some p => p.seq
    | none => 0

/-- A write of 0x2B38 + u:04 restarts the stream. -/
def streamStart (u v : Nat) (s : State) : State :=
  modUart u (fun x => { x with start := v, next := streamPage s v }) s

/-- The page that a stream sends next: before its first frame the one at which it starts (Table NW-18). -/
def uartNext (s : State) (u : Nat) : Nat :=
  if (uart s u).next ≠ 0 then (uart s u).next
  else if uartMode s u = 1 then streamPage s (uart s u).start else 0

/-- UART_LEDGER_PAGE (R422): the oldest page present from the next one on goes out, through ECC as any readout; where it is not
the next one, that has left the ring, and a gap frame names what is missing. A page that is uncorrectable goes out without
data (R457; log entry 106). -/
def execUartLedgerPage (u : Nat) (s : State) : Host.Outcome State Fault Refusal :=
  .next (if uartMode s u = 1 ∧ !(uart s u).held ∧ s.led.state = 1 then
    let n := uartNext s u
    match s.led.ring.find? (fun p => decide (n ≤ p.seq)) with
    | none => s
    | some p =>
      if n < p.seq then
        uartSend u 2 (le 8 n ++ le 8 (p.seq - 1))
          (modUart u (fun x => { x with next := p.seq, gaps := inc32 x.gaps }) s)
      else
        let (k, s) := draw s
        let (_, data, s) := pageOut (Config.freeBits k) p s
        uartSend u 1 (le 8 n ++ data) (modUart u (fun x => { x with next := n + 1 }) s)
  else s)

/-- The code of the first-fault record, 0 without one. -/
def firstCode (s : State) : Nat :=
  match s.col.first.bind (recOf s.col.records) with
  | some r => r.code
  | none => 0

/-- The door entries in use, ascending. -/
def doorEntries (c : Conf) : List Nat := (usedEntries c).filter (fun e => decide (pairKind c e = 4))

/-- The status payload (Table NW-17). -/
def statusPayload (s : State) : List Byte :=
  let d := (doorEntries (confOf s)).take 32
  le 8 s.time.dev ++ le 1 s.ctl.st.code ++ le 1 (highestLevel s)
    ++ le 1 (b2n (faultNLow s) + 2 * b2n (decide (s.led.state = 1))) ++ zeros 1 ++ le 2 (firstCode s)
    ++ le 2 (unclearedCount s)
    ++ le 4 (bitsOf (fun k => match d[k]? with
      | some e => (pair s e).a.closed
      | none => false) 32) ++ zeros 4

/-- UART_STATUS_FRAME (R422): one in each status period. -/
def execUartStatusFrame (u : Nat) (s : State) : Host.Outcome State Fault Refusal :=
  .next (if uartMode s u = 2 then
    let s := afterStamp (uart s u).statusAt (cnum (confOf s) (0x2B38 + u) 3 1000 * 1000000) s
    uartSend u 3 (statusPayload s) (modUart u (fun x => { x with statusAt := s.time.now + 1 }) s)
  else s)

/-- UART_XOFF (R422). -/
def execUartXoff (u : Nat) (s : State) : Host.Outcome State Fault Refusal :=
  .next (if uartMode s u = 1 then modUart u (fun x => { x with held := true }) s else s)

/-- UART_XON (R422). -/
def execUartXon (u : Nat) (s : State) : Host.Outcome State Fault Refusal :=
  .next (if uartMode s u = 1 then modUart u (fun x => { x with held := false }) s else s)

/-! ### I2C (R423) -/

/-- Temperature sensor `n`. -/
def sensor (s : State) (n : Nat) : Sensor := tget {} s.net.sensors n
/-- Change a sensor. -/
def modSensor (n : Nat) (g : Sensor → Sensor) (s : State) : State :=
  { s with net := { s.net with sensors := tmod {} s.net.sensors n g } }

/-- Whether a sensor is configured. -/
def sensorUsed (s : State) (n : Nat) : Bool :=
  configured s && decide (n < 4) && decide (cnum (confOf s) (0x2B40) (2 + n) 0xFF ≠ 0xFF)

/-- The warning threshold of a sensor. -/
def sensorLimit (s : State) (n : Nat) : Int := untwos 2 (cnum (confOf s) 0x2B40 (6 + n) 850)

/-- The 16 bits that a sensor sends, in 1/256 °C (R423). -/
def sensorRaw (raw : Int) : Int := untwos 2 (twos 2 raw)

/-- The temperature of a board sensor in 0.1 °C, from 1/256 °C, rounded down (log entry 35). -/
def deciOf (raw : Int) : Int := (raw * 10).fdiv 256

/-- Whether a reading in 1/256 °C lies above a threshold in 0.1 °C. -/
def above (lim raw : Int) : Bool := decide (lim * 256 < raw * 10)

/-- One sensor is read: a good read, or a failed transaction. -/
def sensorRead (n : Nat) (r : Option Int) (s : State) : State :=
  if !sensorUsed s n then s
  else match r with
    | none =>
      let b := (sensor s n).bad + 1
      let s := modSensor n (fun x => { x with bad := min 3 b }) { s with net := { s.net with i2cFails := inc32 s.net.i2cFails } }
      if b = 3 then raise (report s 0x0B0B 0x07FF 0xFFFF n) s else s
    | some raw =>
      let raw := sensorRaw raw
      let lim := sensorLimit s n
      let old := (sensor s n).high
      let h := if above lim raw then min 2 (old + 1) else if old = 2 ∧ above (lim - 20) raw then 2 else 0
      let s := modSensor n (fun x => { x with value := deciOf raw, bad := 0, high := h }) s
      let s := if h = 2 ∧ old ≠ 2 then raise (report s 0x0B0A 0x07FF 0xFFFF n) s else s
      let s := if (upto 4).any (fun k => decide ((sensor s k).high = 2)) then s else goneIf 0x0B0A 0x07FF s
      if (upto 4).any (fun k => decide ((sensor s k).bad = 3)) then s else goneIf 0x0B0B 0x07FF s

/-- TEMPERATURE_SENSOR_POLL (R423): every 1,000 ms. -/
def execTemperatureSensorPoll (l : List (Nat × Option Int)) (s : State) : Host.Outcome State Fault Refusal :=
  .next (match s.ctl.st with
    | .safe | .run | .configure | .maintenance =>
      let s := afterStamp s.net.pollAt second s
      l.foldl (fun a x => sensorRead x.1 x.2 a) { s with net := { s.net with pollAt := s.time.now + 1 } }
    | .reset | .fuseSense | .startupTest | .configLoad | .halt => s)

/-- The identity memory is read (R423): a read that fails raises 0x0B0C. -/
def identityRead (r : Option (List Byte)) (s : State) : State :=
  match r with
  | some b => { s with net := { s.net with identity := padTo 128 b, identityResult := 1 } }
  | none => raise (momentary (report s 0x0B0C 0x07FF 0xFFFF 0xFF)) { s with net := { s.net with identityResult := 2 } }

/-- The identity memory is read where the command that ends a CONFIG_LOAD or a commit does not say what the read returns:
its outcome is free (log entry 97). -/
def identityAgain (s : State) : State :=
  let (n, s) := draw s
  identityRead (Config.freeIdentity n) s

end Sys2Proof.Machine
end

