-- ==== Sys2Proof/Machine/Clocks.lean ====
section
/-! DEFINITION. Clock monitors, device time and the hairspring, PTP and PPS, the alignment of the F dies and
the power domains (R389, R460 to R471). -/

namespace Sys2Proof.Machine

/-- Change the time registers. -/
def modTime (g : Time → Time) (s : State) : State := { s with time := g s.time }

/-! ### Clock monitors (Table CK-1) -/

/-- The limit of a clock domain of Table CK-1, in table order, in 0.01 %; none for LINK and HOST. -/
def clockLimit (n : Nat) : Option Nat :=
  if n = 0 ∨ n = 1 ∨ n = 9 then some 400 else if n = 7 then some 300 else if n = 8 then some 1000
  else if n = 5 ∨ 10 ≤ n then none else some 100

/-- The fault of a clock domain, and its source. ESC has one oscillator on each die, the C die being 7. -/
def clockFault (n f : Nat) : Nat × Nat :=
  if n = 0 ∨ n = 1 ∨ n = 9 then (0x0A01, 0x0750)
  else if n = 7 then (0x0A03, dieSrc f)
  else if n = 8 then (if f = 7 then (0x0A06, 0x0750) else (0x0A05, dieSrc f))
  else (0x0A02, 0x0750)

/-- Change the alignment of a site. -/
def modAlign (f : Nat) (g : Align → Align) (s : State) : State :=
  modPower (fun p => { p with align := tmod {} p.align f g }) s

/-- Whether a domain that shares the fault of domain `n` stands outside its limit: CORE, SYS and FUSE share one, and
ETH, CAN, NAND and TIME (Table CK-1). -/
def sharedBad (n : Nat) (s : State) : Bool :=
  (if n = 0 ∨ n = 1 ∨ n = 9 then [0, 1, 9] else if n = 7 ∨ n = 8 then [] else [2, 3, 4, 6]).any
    (fun m => bit s.power.clockStatus m)

/-- A monitor's deviation enters the registers of Table CK-7. -/
def clockReading (n f : Nat) (dev : Int) (s : State) : State :=
  if n = 7 then modAlign f (fun a => { a with ratio := clamp (-300) 300 dev }) s
  else if n = 8 then (if f = 7 then s else modAlign f (fun a => { a with esc := dev }) s)
  else if n = 0 ∨ n = 1 ∨ n = 9 then modPower (fun p => { p with pllA := dev }) s
  else modPower (fun p => { p with pllB := dev }) s

/-- The status bit of a clock domain: for FIELD and ESC, of which every die has one, set while one of them stands outside
its limit (Table CK-7). -/
def clockMark (n f : Nat) (bad : Bool) (s : State) : State :=
  modPower (fun p =>
    let p := if n = 7 then { p with fieldBad := setBit p.fieldBad f bad }
      else if n = 8 then { p with escBad := setBit p.escBad f bad } else p
    let on := if n = 7 then decide (p.fieldBad ≠ 0) else if n = 8 then decide (p.escBad ≠ 0) else bad
    { p with clockStatus := setBit p.clockStatus n on }) s

/-- CLOCK_MONITOR_FAULT (R460): outside its limit, a domain raises its fault; found within it again, the
condition is gone (log entry 36). In STARTUP_TEST a clock of the C die that fails holds the startup. -/
def execClockMonitorFault (n f : Nat) (dev : Int) (s : State) : Host.Outcome State Fault Refusal :=
  .next (match clockLimit n with
    | none => s
    | some lim =>
      if fromStartup s ∧ (n ≠ 7 ∨ populated s f) ∧ (n ≠ 8 ∨ f = 7 ∨ populated s f) then
        let bad := decide ((lim : Int) < dev) || decide (dev < -(lim : Int))
        let s := clockMark n f bad (clockReading n f dev s)
        let c := clockFault n f
        if s.ctl.st = .startupTest ∧ clocksBad s then holdAt 0xB s
        else if bad then settleAll (faultNew c.1 c.2 s) else if sharedBad n s then s else goneIf c.1 c.2 s
      else s)

/-! ### Steps of device time (R465) -/

/-- Device time is stepped by `d` ns: counted, and 0x0A0A. What times a reaction runs on PLL A and does not move (R465); the
offset of every source moves with device time. -/
def stepTime (d : Int) (s : State) : State :=
  let s := modTime (fun t => { t with
    dev := (((t.dev : Int) + d) % 2 ^ 64).toNat, steps := inc32 t.steps
    offs := [1, 2, 3, 4].foldl (fun o n => tmod 0 o n (· + d)) t.offs }) s
  raise (momentary (report s 0x0A0A 0x0750 0xFFFF (twos 8 d))) s

/-- A write of 0x2300:09 (Table CK-6): only in FREE_RUN, under the transport rule of R44. -/
def setTimeWrite (r : Requester) (ns : Nat) (s : State) : Nat × State :=
  if !transportOk s r ∨ s.time.spring ≠ 0 then (0x08000022, s)
  else (0, stepTime ((ns : Int) - s.time.dev) s)

/-- A write of 0x2302:06 (Table CK-6). -/
def nextSecondWrite (ns : Nat) (s : State) : State := modTime (fun t => { t with second := some ns }) s

/-! ### The hairspring (R464) -/

/-- The source priority: 0x1200 without an image (R472). -/
def priority (s : State) : Nat := if configured s then cnum (confOf s) 0x2300 4 0x1200 else 0x1200

/-- The sources of the priority, highest first. -/
def sources (s : State) : List Nat :=
  ([12, 8, 4, 0].map (fun b => field (priority s) b 4)).filter (fun n => decide (1 ≤ n) && decide (n ≤ 4))

/-- The update interval of a source in ns: that of its master's Sync messages for PTP, 1 s for PPS (R464, R467). -/
def interval (s : State) (n : Nat) : Nat := if n ≤ 2 then (switch s (n - 1)).syncInterval else second

/-- Whether a source is usable (R464): enabled in the priority, with 3 updates within 3 update intervals, and the last of
them not longer ago (log entry 37). -/
def usable (s : State) (n : Nat) : Bool :=
  (sources s).contains n && match tget [] s.time.updates n with
    | [c, _, a] => decide (c ≤ a + 3 * interval s n) && decide (s.time.now ≤ c + 3 * interval s n)
    | _ => false

/-- A source delivers an update with its offset. -/
def noteUpdate (n : Nat) (o : Int) (s : State) : State :=
  modTime (fun t => { t with
    updates := tset [] t.updates n ((t.now :: tget [] t.updates n).take 3), offs := tset 0 t.offs n o }) s

/-- The usable source of highest priority. -/
def bestSource (s : State) : Option Nat := (sources s).find? (usable s)

/-- The step threshold in ns. -/
def stepThreshold (s : State) : Nat := if configured s then cnum (confOf s) 0x2300 7 10000 else 10000

/-- The hairspring enters a state; what the state before it raised is gone (R471). -/
def setSpring (st : Nat) (s : State) : State :=
  if s.time.spring = st then s
  else
    let old := s.time.spring
    let s := modTime (fun t => { t with spring := st, close := 0, far := 0, heldSince := t.now }) s
    let s := if old = 3 ∨ old = 1 then goneIf 0x0A08 0x0750 s else s
    if old = 0 then goneIf 0x0A09 0x0750 s else s

/-- The frequency adjustment of an update: a free value within ±500 ppm (R462, R464). -/
def slew (s : State) : State :=
  let (n, s) := draw s
  modTime (fun t => { t with adjust := clamp (-500000) 500000 (Config.freeAdjustment n) }) s

/-- An update of the source in use, with its offset (R464, R465). -/
def springUpdate (o : Int) (s : State) : State :=
  let near := decide (o.natAbs ≤ 1000)
  let above := decide (stepThreshold s < o.natAbs)
  if s.time.spring = 1 then
    if above then modTime (fun t => { t with close := 0 }) (stepTime (-o) s)
    else
      let n := if near then s.time.close + 1 else 0
      let s := slew (modTime (fun t => { t with close := n }) s)
      if 16 ≤ n then setSpring 2 s else s
  else if s.time.spring = 2 then
    let n := if above then s.time.far + 1 else 0
    let s := slew (modTime (fun t => { t with far := n }) s)
    if 4 ≤ n then setSpring 1 s else s
  else s

/-- An offset from a source (R464): the source counts its update, and the usable one of highest priority
steers. A source that comes into use brings ACQUIRING, unless the state can stay. -/
def offsetFrom (n : Nat) (o : Int) (s : State) : State :=
  if !(sources s).contains n then s
  else
    let s := noteUpdate n o s
    if bestSource s ≠ some n then s
    else
      let known := decide (s.time.source = n) && !s.time.fresh
      let s := modTime (fun t => { t with
        source := n, fresh := false, offset := clamp (-2147483648) 2147483647 o }) s
      if s.time.spring = 0 ∨ s.time.spring = 3 then setSpring 1 s
      else if s.time.spring = 1 ∨ known ∨ o.natAbs ≤ 1000 then springUpdate o s
      else setSpring 1 s

/-- A source is lost (R464). When it was in use 0x0A08 is raised; the usable source of highest priority comes into use in
its place, and where there is none LOCKED becomes HOLDOVER (log entry 38). -/
def sourceLost (n : Nat) (s : State) : State :=
  let s := modTime (fun t => { t with updates := tset [] t.updates n [] }) s
  if s.time.source ≠ n then s
  else
    let s := modTime (fun t => { t with source := (bestSource s).getD 0, fresh := (bestSource s).isSome }) s
    if (bestSource s).isSome then raise (momentary (report s 0x0A08 0x0750)) s
    else if s.time.spring = 2 then faultNew 0x0A08 0x0750 (setSpring 3 s)
    else if s.time.spring = 1 then faultNew 0x0A08 0x0750 s
    else s

/-- TIME_SOURCE_LOST (R464): three update intervals without an update of the source in use. A PTP station's role
is decided anew. -/
def execTimeSourceLost (s : State) : Host.Outcome State Fault Refusal :=
  .next (if fromStartup s ∧ s.time.source ≠ 0 then
    let n := s.time.source
    let s := match tget [] s.time.updates n with
      | last :: _ => advance (last + 3 * interval s n) s
      | [] => s
    sourceLost n (if n ≤ 2 then modSwitch (n - 1) (fun x => { x with role := 0 }) s else s)
  else s)

/-- The holdover limit in ns (Table CK-6). -/
def holdoverLimit (s : State) : Nat := second * (if configured s then cnum (confOf s) 0x2300 8 60 else 60)

/-- HOLDOVER_LIMIT (R464): the limit after the entry into HOLDOVER. -/
def execHoldoverLimit (s : State) : Host.Outcome State Fault Refusal :=
  .next (if s.time.spring = 3 then
    faultNew 0x0A09 0x0750 (setSpring 0 (advance (s.time.heldSince + holdoverLimit s) s))
  else s)

/-! ### PTP (R389) -/

/-- The role of a station: disabled without an address, else as the best master clock algorithm decides; a
decision stays until its source is lost (log entry 39). -/
def withRole (w : Nat) (s : State) : State :=
  if stationIp s w = 0 ∨ !netOn s then modSwitch w (fun x => { x with role := 0 }) s
  else if (switch s w).role ≠ 0 then s
  else
    let (n, s) := draw s
    modSwitch w (fun x => { x with role := (Config.freePortRole n).val }) s

/-- The PTP domain of the stations, 0x2301:01. -/
def ptpDomain (s : State) : Nat := if configured s then cnum (confOf s) 0x2301 1 0 else 0

/-- The delays of a port's PHY in ns, ingress and egress (0x2301:06, Table CK-6). -/
def phyDelays (s : State) (p : Nat) : Nat × Nat :=
  let b := if configured s then padTo 32 (cstr (confOf s) 0x2301 6 []) else zeros 32
  (unle ((b.drop (4 * p)).take 2), unle ((b.drop (4 * p + 2)).take 2))

/-- The timestamp of a message received at `t` by a port: device time at its RGMII pins at 8 ns resolution, less the ingress
delay of the PHY before them (R389, R472). -/
def stampIn (s : State) (p t : Nat) : Int := (stamp8 (devAt s t) : Int) - (phyDelays s p).1

/-- The timestamp of a message sent at `t` by a port: more by the egress delay of the PHY after the pins. -/
def stampOut (s : State) (p t : Nat) : Int := (stamp8 (devAt s t) : Int) + (phyDelays s p).2

/-- The identity of a station's PTP port: the clock identity that IEEE 1588 makes of its MAC address, and port number 1
(PRESUMED, log entry 106). -/
def portIdentity (s : State) (w : Nat) : Nat :=
  let m := stationMac s w
  ((m / 2 ^ 24 * 65536 + 0xFFFE) * 2 ^ 24 + m % 2 ^ 24) * 65536 + 1

/-- A station sends a PTP message in its domain. -/
def ptpSend (w : Nat) (kind : PtpKind) (source seq time : Nat) (s : State) : State :=
  stationSend w 2 {
    dst := 0x011B19000000, src := stationMac s w
    content := .ptp { kind := kind, domain := ptpDomain s, source := source, seq := seq, time := time } } s

/-- PTP_SYNC (R389): a slave keeps the time of receipt for the Follow_Up; a master sends the Sync and its
Follow_Up, two-step. A message of another domain is ignored. -/
def execPtpSync (p : Nat) (d : Dir) (h : PtpHeader) (t : Nat) (s : State) : Host.Outcome State Fault Refusal :=
  let w := p / 4
  let s := withRole w (advance t s)
  .next (match d with
    | .received => if (switch s w).role = 2 ∧ h.domain = ptpDomain s then
        modSwitch w (fun x => { x with syncSeq := h.seq, syncTime := (stampIn s p t).toNat }) s else s
    | .sent => if (switch s w).role = 1 then
        let at_ := (stampOut s p t).toNat
        let s := modSwitch w (fun x => { x with syncSeq := h.seq, syncTime := at_ }) s
        ptpSend w .followUp (portIdentity s w) h.seq at_ (ptpSend w .sync (portIdentity s w) h.seq 0 s)
      else s)

/-- The interval that a PTP message gives as a power of two of a second. -/
def logNs (n : Int) : Nat :=
  if 0 ≤ n then second * 2 ^ (min n.toNat 16) else second / 2 ^ (min n.natAbs 16)

/-- PTP_FOLLOW_UP (R389, R464): the offset is the time of receipt less origin, correction and path delay. -/
def execPtpFollowUp (w : Nat) (h : PtpHeader) (origin : Nat) (logInterval : Int) (s : State) :
    Host.Outcome State Fault Refusal :=
  let s := withRole w s
  let x := switch s w
  .next (if x.role = 2 ∧ h.domain = ptpDomain s ∧ x.syncTime ≠ 0 ∧ x.syncSeq = h.seq then
    let d := (x.syncTime : Int) - origin - h.correction
    offsetFrom (1 + w) (d - x.pathDelay)
      (modSwitch w (fun y => { y with syncTime := 0, down := d, syncInterval := logNs logInterval }) s)
  else s)

/-- PTP_DELAY_REQ (R389): a slave sends it and keeps its time; a master answers one with the time of its receipt to
the port that asks. -/
def execPtpDelayReq (p : Nat) (d : Dir) (h : PtpHeader) (t : Nat) (s : State) : Host.Outcome State Fault Refusal :=
  let w := p / 4
  let s := withRole w (advance t s)
  .next (if switchMode s w = 2 then s
  else match d with
    | .sent => if (switch s w).role = 2 then
        let at_ := (stampOut s p t).toNat
        ptpSend w .delayReq (portIdentity s w) h.seq 0
          (modSwitch w (fun x => { x with delaySeq := h.seq, delayTime := at_ }) s)
      else s
    | .received => if (switch s w).role = 1 ∧ h.domain = ptpDomain s then
        ptpSend w .delayResp h.source h.seq (stampIn s p t).toNat s else s)

/-- PTP_DELAY_RESP (R389): the mean of the two directions is the path delay. -/
def execPtpDelayResp (w : Nat) (h : PtpHeader) (received : Nat) (s : State) : Host.Outcome State Fault Refusal :=
  let s := withRole w s
  let x := switch s w
  .next (if switchMode s w ≠ 2 ∧ x.role = 2 ∧ h.domain = ptpDomain s ∧ x.delayTime ≠ 0 ∧ x.delaySeq = h.seq then
    modSwitch w (fun y => { y with
      delayTime := 0, pathDelay := (y.down + ((received : Int) - h.correction - y.delayTime)).fdiv 2 }) s
  else s)

/-- PTP_PEER_DELAY (R389): in HSR, the path delay of a peer exchange: the request went out at `t1` and the response came
in at `t4`; the peer gives when the one came to it and the other left it. -/
def execPtpPeerDelay (p dom t1 : Nat) (peer : Nat × Nat) (t4 : Nat) (s : State) : Host.Outcome State Fault Refusal :=
  let w := p / 4
  let s := withRole w (advance t4 s)
  .next (if switchMode s w = 2 ∧ (switch s w).role ≠ 0 ∧ dom = ptpDomain s then
    modSwitch w (fun y => { y with
      pathDelay := ((stampIn s p t4 - stampOut s p t1) - ((peer.2 : Int) - peer.1)).fdiv 2 }) s
  else s)

/-! ### PPS (R467) -/

/-- Whether a PPS input is enabled. -/
def ppsOn (s : State) (p : Nat) : Bool := fromStartup s && configured s && decide (p < 2) && bit (cnum (confOf s) 0x2302 1 0) p

/-- The PTP source that gives the seconds: the usable one of highest priority. -/
def ptpSource (s : State) : Option Nat := (sources s).find? (fun n => decide (n ≤ 2) && usable s n)

/-- The second that an edge at the device time `t` marks: the nearest of PTP's time, which is device time less the offset of
the PTP source, where PTP is usable; else the one written, which is then used. -/
def secondOf (s : State) (t : Nat) : Option Nat :=
  match ptpSource s with
  | some n => some (((t : Int) - tget 0 s.time.offs n + second / 2) / second * second).toNat
  | none => s.time.second

/-- PPS_EDGE (R467): the rising edge of a pulse. -/
def execPpsEdge (p : Nat) (pulse : PpsPulse) (s : State) : Host.Outcome State Fault Refusal :=
  .next (
    let t := pulse.t
    let s := advance t s
    let raw := tick10 t
    let prev := tget 0 s.time.rawEdges p
    if !ppsOn s p ∨ pulse.width < 1000 ∨ (prev ≠ 0 ∧ raw < prev + second / 2) then s
    else
      let at_ := tick10 (devAt s t) - cnum (confOf s) 0x2302 (2 + p) 0
      let s := modTime (fun x => { x with
        edges := tset 0 x.edges p at_, rawEdges := tset 0 x.rawEdges p raw, ppsLost := setBit x.ppsLost p false }) s
      match secondOf s at_ with
      | none => s
      | some v =>
        let s := if (ptpSource s).isSome then s else modTime (fun x => { x with second := none }) s
        let s := offsetFrom (3 + p) ((at_ : Int) - v) s
        modTime (fun x => { x with ppsUsable := setBit x.ppsUsable p (usable s (3 + p)) }) s)

/-- PPS_LOST (R467): no edge for 1,500 ms. -/
def execPpsLost (p : Nat) (s : State) : Host.Outcome State Fault Refusal :=
  .next (if ppsOn s p then
    let last := tget 0 s.time.rawEdges p
    let s := if last = 0 then s else advance (last + 3 * second / 2) s
    sourceLost (3 + p) (modTime (fun x => { x with
      ppsLost := setBit x.ppsLost p true, ppsUsable := setBit x.ppsUsable p false }) s)
  else s)

/-- PPSO_SECOND (R467): device time comes to its next whole second, unless it stands at one, and PPSO rises where it is
enabled and not gated. -/
def execPpsoSecond (s : State) : Host.Outcome State Fault Refusal :=
  .next (
    let s := runToDev (dueMultiple second 0 s.time.dev) s
    let v := cnum (confOf s) 0x2302 1 0
    modTime (fun t => { t with
      ppso := fromStartup s && configured s && bit v 2 && (!bit v 3 || synchronised s) }) s)

/-- The level of PPSO: high for 100 ms from the second on, and with the gating bit only while device time is synchronised
(R467). -/
def ppsoHigh (s : State) : Bool :=
  s.time.ppso && decide (s.time.dev % second < 100000000) && (!bit (cnum (confOf s) 0x2302 1 0) 3 || synchronised s)

/-! ### Alignment (R468, R469) -/

/-- ALIGNMENT_FRAME: the offset of the die's count and the divider deviation it needs. The die moves its count by at most
one sample tick, and after a step at once. Three frames in a row more
than 5 µs off, steps apart, raise 0x0A04; a ratio beyond 3 % raises 0x0A03. -/
def execAlignmentFrame (f : Nat) (off ratio : Int) (afterStep : Bool) (s : State) :
    Host.Outcome State Fault Refusal :=
  .next (if fromStartup s ∧ populated s f then
    let far := decide (5000 < off.natAbs) && !afterStep
    let n := if far then (tget {} s.power.align f).off + 1 else 0
    let s := modAlign f (fun a => { a with
      ratio := clamp (-300) 300 ratio, offset := off, off := n
      rest := if afterStep then 0 else off - clamp (-1000) 1000 off }) s
    let s := clockMark 7 f (decide (300 < ratio.natAbs)) s
    let s := if 3 ≤ n then faultNew 0x0A04 (dieSrc f) s else if far then s else goneIf 0x0A04 (dieSrc f) s
    let s := if 300 < ratio.natAbs then faultNew 0x0A03 (dieSrc f) s else goneIf 0x0A03 (dieSrc f) s
    settleAll s
  else s)

/-! ### Power domains (R470) -/

/-- Whether the device has a domain of Table CK-4. -/
def domainExists (s : State) (n : Nat) : Bool :=
  decide (n < 8) || (decide (0x10 ≤ n) && decide (n < 0x2C) && populated s ((n - 0x10) / 4))

/-- The source that a domain names (R470, R471). -/
def domainSrc (n : Nat) : Nat := if n < 4 then 0x0700 + n else if n < 8 then 0x07FF else dieSrc ((n - 0x10) / 4)

/-- Whether some element of a site's domain `k` is in use: 0 G0, 1 G1, 2 TP, 3 BK. -/
def domainUsed (s : State) (f k : Nat) : Bool :=
  let c := confOf s
  configured s && (if k = 2 then (siteSources f).any (fun j => decide (srcMode c j ≠ 0))
    else if k = 3 then hasCap s 2 && (siteBrakes f).any (fun b => decide (elMode c b ≠ 0))
    else (siteOutputs f).any (fun q => decide (elMode c q ≠ 0) && decide (groupSupply q = elemAt f (0x70 + k))))

/-- Whether a domain is on (Table CK-4). FUSEPROG is on only while a word is programmed, which no command divides. -/
def domainOn (s : State) (n : Nat) : Bool :=
  let halt := decide (s.ctl.st = .halt)
  domainExists s n && fromStartup s && !bit s.power.domainsFailed n
    && (if n < 4 then !halt && decide ((core s n).bist ≠ 3)
      else if n = 4 then (upto 8).any (portEnabled s)
      else if n = 5 then (upto 8).any (linkOn s)
      else if n = 6 then decide (s.led.state ≠ 3)
      else if n = 7 then false
      else !halt && decide (s.ctl.st ≠ .configure) && domainUsed s ((n - 0x10) / 4) ((n - 0x10) % 4))

/-- POWER_GOOD_TIMEOUT (R470): the domain is switched off and 0x0B31 raised. Without its domain the Ledger
stops, and ports and links go down. -/
def execPowerGoodTimeout (n : Nat) (s : State) : Host.Outcome State Fault Refusal :=
  .next (if fromStartup s ∧ domainExists s n then
    let s := modPower (fun p => { p with domainsFailed := setBit p.domainsFailed n true }) s
    let s := settleAll (raise (report s 0x0B31 (domainSrc n) 0xFFFF n) s)
    portsSettle (if n = 6 then ledgerStop s else s)
  else s)

end Sys2Proof.Machine
end

