-- ==== Sys2Proof/Machine/Processor.lean ====
section
/-! DEFINITION. Checkpoints, mismatches, the scrub, handovers and the escapement of the processor lane
(R290, R296 to R306, R312). -/

namespace Sys2Proof.Machine

/-- Whether a core runs a partition, its cycle ended or not. -/
def runsPart (s : State) (k : Nat) : Bool :=
  let c := core s k
  decide (c.role = .active) && decide (c.part < 3) && !c.trapped && evaluating s && s.proc.running

/-- Whether one of the four cases of R298 asks for a checkpoint: the end of the cycle's work, a full journal, or 50 µs
since the last checkpoint or restore, by the core's cycles or by PLL A's count (log entry 83). -/
def checkpointDue (s : State) (k : Nat) : Bool :=
  let c := core s k
  (c.ended && !(part s c.part).cycleDone) || decide (512 ≤ (tcm s c.set).journal.length)
    || decide (c.ckptCycles + 20000 ≤ c.perf.cycles) || decide (c.ckptTime + 50000 ≤ s.time.now)

/-- CHECKPOINT (R298, R302), where one is due: a chime injection that went unseen takes the core out, a difference of any
state word is the latent mismatch 0x0602, and otherwise the checkpoint is confirmed. A record of a missed injection
carries the checker's number, and 0x0701 the lane after it (R333; log entry 64). -/
def execCheckpoint (k : Nat) (seen : ChimeSeen) (s : State) : Host.Outcome State Fault Refusal :=
  .next (if runsPart s k && checkpointDue s k then
    let s := checkpointTime k s
    let c := core s k
    if !seen.comparator then raise (report s 0x0701 (0x0700 + k) 0xFFFF (0x0700 + k + 2 ^ 16 * c.chime)) s
    else if !seen.skew then raise (report s 0x0704 (0x0700 + k) 0xFFFF (0x0704 + k)) s
    else if c.shad.inv.words ≠ c.prim.words then mismatch k 0x0602 s
    else confirmCheckpoint k s
  else s)

/-- BUS_MISMATCH (R300, R301). -/
def execBusMismatch (k t : Nat) (s : State) : Host.Outcome State Fault Refusal :=
  .next (if runsPart s k then mismatch k 0x0601 (advance t s) else advance t s)

/-- SKEW_PARITY_ERROR (R297, R300, R301). -/
def execSkewParityError (k t : Nat) (s : State) : Host.Outcome State Fault Refusal :=
  .next (if runsPart s k then mismatch k 0x0702 (advance t s) else advance t s)

/-- COMPARATOR_RAIL_FAULT: 0x0703 removes the core, whatever its role (R296, R303). -/
def execComparatorRailFault (k : Nat) (s : State) : Host.Outcome State Fault Refusal :=
  .next (if (core s k).role = .active ∨ (core s k).role = .standby then faultOnce 0x0703 (0x0700 + k) s else s)

/-- ROLLBACK_WINDOW_EXPIRY: fewer than four rollbacks of the core lie in the last 1,000 ms (R301). -/
def execRollbackWindowExpiry (k : Nat) (s : State) : Host.Outcome State Fault Refusal :=
  let recent := (core s k).rolls.filter (fun t => decide (s.time.opNs < t + second))
  let s := modCore k (fun c => { c with rolls := recent }) s
  .next (if recent.length < 4 then gone 0x0604 (0x0700 + k) s else s)

/-- What the scrub found of one word: the memory, the address and the finding (R290, R333). -/
def scrubFound (e : Nat × Nat × Ecc) (s : State) : State :=
  match e.2.2 with
  | .clean => s
  | .corrected => faultOnce 0x0801 e.1 s
  | .uncorrectable => raise (report s 0x0802 e.1 0xFFFF (e.2.1 % 2 ^ 32)) s

/-- The scrub reads a word whose error stands already. One of a journal that cannot be corrected is left to the rollback
rules (R290). -/
def scrubPlace (pl : Place) (s : State) : State :=
  if shows s pl = .uncorrectable then
    (match pl with
    | .journal _ _ => s
    | .tcm _ _ | .shared _ | .slot _ _ => raise (report s 0x0802 (placeMem pl) 0xFFFF (placeAddr pl)) s)
  else mend pl s

/-- MEMORY_SCRUB (R290): the pass reads every word. Its `later` are the errors that strike words after the pass (log entry
82): the next read of each finds it. -/
def execMemoryScrub (r : ScrubPass) (s : State) :
    Host.Outcome State Fault Refusal :=
  let s := (s.proc.upsets.map Prod.fst).foldl (fun a pl => scrubPlace pl a) s
  let s := r.found.foldl (fun a e => scrubFound e a) s
  .next { s with proc := { s.proc with upsets := r.later ++ s.proc.upsets } }

/-- The core with role standby and no test under way. -/
def freeStandby (s : State) : Option Nat :=
  (upto 4).find? (fun k => decide ((core s k).role = .standby))

/-- PLANNED_HANDOVER (R304) of the partition that the scheduler has asked for: after its cycle checkpoint,
with at least 10 µs left before the
boundary, the standby core loads the slot and begins the next cycle; the old core becomes under test. Meanwhile the
partition waits for the boundary, so the load is Idle (R475). A slot with no sound copy raises 0x0804 and moves nothing
(DESIGN CHOICE, log entry 82). Otherwise, and while the memory test holds TS3 (R372), the handover waits. -/
def execPlannedHandover (p : Nat) (s : State) : Host.Outcome State Fault Refusal :=
  .next (match coreOfPart s p, freeStandby s with
    | some k, some j =>
      if evaluating s ∧ s.proc.running ∧ s.test.handover = some p ∧ (part s p).cycleDone
          ∧ s.time.now + 10000 ≤ s.proc.boundary + cycleNs s ∧ (item s 0x0B).state ≠ 2 then
        let s := readSlot p s
        if !(part s p).slotOk then raise (report s 0x0804 (0x0708 + p)) s
        else
        let c := core s k
        let s := modCore j (fun d =>
          { d.load (part s p).slot true with
            role := .active, part := p, set := c.set, chime := c.chime, retried := false
            perf := eventAdd 0x0F 1 d.perf }) s
        let s := modCore k (fun d => { d with
          role := .underTest, part := 0xF, set := 0xF, posted := [], ended := false, retried := false }) s
        let s := startTest k s
        let s := { s with
          proc := { s.proc with handovers := inc32 s.proc.handovers }
          test := { s.test with handover := none, untested := s.test.untested.filter (· ≠ k) } }
        startInterval j s
      else s
    | _, _ => s)

/-- ESCAPEMENT_WINDOW_MISSED (R35, R312): no service of the last cycle has been released by g after the boundary. The
Curfew pattern stops and 0x0A07 is recorded. -/
def execEscapementWindowMissed (p : Nat) (s : State) : Host.Outcome State Fault Refusal :=
  .next (if s.proc.escapement && (part s p).owed.isSome && evaluating s && s.proc.running then
    escapementFail p (advance (s.proc.boundary + escGuard s) (modPart p (fun q => { q with owed := none }) s))
  else s)

end Sys2Proof.Machine
end

