-- ==== Sys2Proof/Machine/SelfTest.lean ====
section
/-! DEFINITION. Built-in self-test: the scheduler's items, the rotation of the cores, logic and memory BIST,
and calibration (R364 to R380). -/

namespace Sys2Proof.Machine

/-! ### Items (R376) -/

/-- Whether the device has an item: the array items are those of populated sites. -/
def itemExists (s : State) (n : Nat) : Bool :=
  decide (n < 4) || decide (n = 11) || (decide (n < 11) && populated s (n - 4))

/-- An item's diagnostic interval in ns. -/
def itemInterval (s : State) (n : Nat) : Nat :=
  cnum (confOf s) 0x2800 (if n < 4 then 1 else if n < 11 then 2 else 3) 3600 * second

/-- An item's age in ns of operating time. -/
def itemAge (s : State) (n : Nat) : Nat := s.time.opNs - (item s n).ageFrom

/-- The order of a rotation round: the core that stands by, then those that run P0, P1 and P2 (Table ST-2). -/
def roundOrder (s : State) : List Nat :=
  (freeStandby s).toList ++ (upto 3).filterMap (coreOfPart s)

/-- An item becomes eligible; a core item starts a rotation round, or joins the one under way (R376, R379). -/
def makeEligible (n : Nat) (s : State) : State :=
  if (item s n).state ≠ 0 ∧ (item s n).state ≠ 3 then s
  else if n < 4 then
    let l := if s.test.untested = [] ∧ s.test.step = 0 then roundOrder s else s.test.untested
    let l := if l.contains n then l else l ++ [n]
    let s := { s with test := { s.test with untested := l } }
    l.foldl (fun a k => modItem k (fun i => if i.state = 0 ∨ k = n then { i with state := 1 } else i) a) s
  else modItem n (fun i => { i with state := 1 }) s

/-- Whether the scheduler works: where tests run, and through CONFIGURE, where ages keep counting (R376). -/
def scheduling (s : State) : Bool := evaluating s || decide (s.ctl.st = .configure)

/-- ITEM_ELIGIBLE (R376): the age has reached 90 % of the interval. -/
def execItemEligible (n : Nat) (s : State) : Host.Outcome State Fault Refusal :=
  .next (if scheduling s ∧ itemExists s n ∧ itemInterval s n * 9 ≤ itemAge s n * 10 then makeEligible n s else s)

/-- A write of 0x2801:01 (R379, Table ST-5). -/
def testReqWrite (r : Requester) (n : Nat) (s : State) : Nat × State :=
  if !itemExists s n then (0x06090030, s)
  else if !transportOk s r then (0x08000022, s)
  else (0, makeEligible n s)

/-- An item passes: its age starts anew and its overdue conditions are gone (R376, R377). -/
def itemPass (n : Nat) (s : State) : State :=
  let s := modItem n (fun i => { i with
    state := 0, result := 1, passed := s.time.dev, ageFrom := s.time.opNs, passes := inc32 i.passes, copy := [] }) s
  let s := { s with test := { s.test with passed := inc32 s.test.passed } }
  goneIf 0x0E16 (itemSrc n) (goneIf 0x0E15 (itemSrc n) s)

/-- An item fails with a result of 0x2804 + n:02, and is left in a state. -/
def itemFail (n result st : Nat) (s : State) : State :=
  let s := modItem n (fun i => { i with state := st, result := result, copy := [] }) s
  { s with test := { s.test with failed := inc32 s.test.failed } }

/-- The signature of a test: the MISR with the pattern count folded into it (R364). -/
def bistSignature (r : BistResult) : BitVec 64 := Config.bistFold r.misr (BitVec.ofNat 16 r.patterns)

/-- The expected signature of an engine for the seed of its test: that of sound logic after 8,192 patterns (R364). -/
def bistExpected (n seed : Nat) : BitVec 64 := Config.bistFold (Config.bistMisr (engineOf n) seed) 8192

/-- What an engine reports enters its item, and the next test takes the next seed (R365, R366). -/
def itemReport (n : Nat) (r : BistResult) (s : State) : State :=
  markDirty (modItem n (fun i => { i with
    signature := (bistSignature r).toNat, patterns := min 8192 r.patterns, duration := min 65535 r.duration
    seed := (i.seed + 1) % 32 }) s)

/-- The judgement of R365 on the test of an item, with the duration bounds of Table ST-1: 1 passed, 2 signature, 3 count,
4 duration. -/
def bistJudge (n : Nat) (r : BistResult) (s : State) : Nat :=
  let b : Nat × Nat := if n < 4 then (450, 550) else (820, 980)
  if r.patterns ≠ 8192 then 3 else if r.duration < b.1 ∨ b.2 < r.duration then 4
  else if bistSignature r = bistExpected n (item s n).seed then 1 else 2

/-! ### Cores (R370, R371, R305) -/

/-- Whether some core test or handover is under way. -/
def coreTesting (s : State) : Bool :=
  (upto 4).any (fun k => decide ((item s k).state = 2)) || s.test.handover.isSome

/-- Leave out of a round the cores that can no longer be tested in it. -/
def liveRound (s : State) : List Nat :=
  s.test.untested.filter (fun k => decide ((core s k).role = .standby)
    || (decide ((core s k).role = .active) && decide ((core s k).part < 3)))

/-- Whether a step of the rotation may begin: at a safety-cycle boundary, whose pulse comes within the guard, after the
previous step has ended (R312, R370). -/
def stepMay (s : State) : Bool :=
  decide (s.proc.boundary ≤ s.time.now) && decide (s.time.now ≤ s.proc.boundary + escGuard s)
    && decide (s.test.stepEnd ≤ s.proc.boundary)

/-- ROTATION_STEP (R370, R371): at a boundary with the previous step ended; the test of a core that the step has handed over
from goes with its step. The core that stands by is tested; for
one that runs a partition a handover is requested. Without a standby core, and while the memory test runs
(R372), nothing happens. A round without untested cores has ended. -/
def execRotationStep (s : State) : Host.Outcome State Fault Refusal :=
  .next (if !(evaluating s && s.proc.running) ∨ coreTesting s then s
  else
    let l := liveRound s
    let s := { s with test := { s.test with untested := l } }
    match l with
    | [] => { s with test := { s.test with step := 0 } }
    | k :: rest =>
      let n := 4 - min 3 rest.length
      if (freeStandby s).isNone ∨ (item s 0x0B).state = 2
          ∨ !(stepMay s || (decide (s.test.step = n) && decide ((core s k).role = .standby))) then s
      else
        let s := { s with test := { s.test with step := n } }
        if (core s k).role = .standby then
          startTest k
            (modCore k (fun c => { c with role := .underTest }) { s with test := { s.test with untested := rest } })
        else { s with test := { s.test with handover := some (core s k).part } })

/-- CORE_BIST_COMPLETE (R364, R365, R370, R305): a periodic test ends its step, and makes the core, reset, standby again or
removes it; the test of a removed core lets it return once its fault is cleared, or switches it off until the next reset. -/
def execCoreBistComplete (k : Nat) (r : BistResult) (s : State) : Host.Outcome State Fault Refusal :=
  .next (
    let j := bistJudge k r s
    let code := if j = 2 then 0x0E10 else 0x0E11
    let src := 0x0700 + k
    if (core s k).role = .underTest ∧ (item s k).state = 2 then
      let s := itemReport k r s
      let s := { s with test := { s.test with stepEnd := s.time.now + 1, step := 0 } }
      if j = 1 then itemPass k (modCore k (fun c => { c.restart with role := .standby }) s)
      else
        let s := fault code src (itemFail k j 3 s)
        modCore k (fun c => { c with bist := 3 }) { s with test := { s.test with untested := [] } }
    else if (core s k).role = .removed ∧ (core s k).bist = 1 then
      let s := itemReport k r s
      if j = 1 then coreBack (itemPass k (modCore k (fun c => { c.restart with bist := 2 }) s))
      else fault code src (itemFail k j 3 (modCore k (fun c => { c with bist := 3 }) s))
    else s)

/-! ### Slot arrays (R236, R365, R368, R369) -/

/-- Whether a dark-test or light-test pulse of a site is under way. -/
def sitePulse (s : State) (f : Nat) : Bool := (siteElems f).any (fun e => decide ((elem s e).test ≠ 0))

/-- Whether the array of a site may be tested now. -/
def arrayMay (s : State) (f : Nat) : Bool :=
  populated s f && decide ((item s (4 + f)).state = 1) && !sitePulse s f
    && (decide ((fba s f).state = 1) || decide ((fba s f).state = 3))

/-- A site held for a test shows the snapshot of its last commit, with the array state of Table FB-7 that says so (R368,
log entry 47). -/
def heldSnap (f : Nat) (s : State) : State :=
  modSnap f (fun x => { x with array := { x.array with fba := tmod {} x.array.fba f (fun a => { a with state := 2 }) } }) s

/-- ARRAY_BIST_START (R368, R376): the array whose item is the oldest of those that may start is held, with a copy
of its block states. -/
def execArrayBistStart (f : Nat) (s : State) : Host.Outcome State Fault Refusal :=
  .next (if evaluating s ∧ arrayMay s f ∧ (upto 7).all (fun g => decide ((item s (4 + g)).state ≠ 2)
      && (!arrayMay s g || decide (itemAge s (4 + g) ≤ itemAge s (4 + f)))) then
    heldSnap f (modFba f (fun a => { a with state := 2, heldFrom := s.time.now })
      (modItem (4 + f) (fun i => { i with copy := (fba s f).blocks }) (startTest (4 + f) s)))
  else s)

/-- The slot logic of a site is loaded from its locked netlist: every block state as after a load (R217, R369). -/
def reloadArray (f : Nat) (s : State) : State :=
  modFba f (fun a => { a with slots := netlist (confOf s) f, outs := [], blocks := [], outsC := [], blocksC := [] }) s

/-- The dark tests of a die that fell due while its array was held run in the first frame after it (R256). -/
def oweTests (f : Nat) (s : State) : State :=
  let c := confOf s
  let a := alignedUs s f (fba s f).heldFrom
  let b := alignedUs s f s.time.now
  let due := fun (el : Nat) => decide (dtInterval c el ≠ 0) && (upto (b / 32000 + 1 - a / 32000)).any (fun n =>
    let k := a / 32000 + n
    decide (k % dtInterval c el = 0) && decide (a ≤ k * 32000 + testSlot c el * 1000 + 100)
      && decide (k * 32000 + testSlot c el * 1000 + 100 ≤ b))
  ((siteElems f).filter (fun el => elUsed s el && decide (setLow c el = el) && due el)).foldl
    (fun x el => modElem el (fun y => { y with owed := true }) x) s

/-- ARRAY_BIST_END (R236, R365, R369): the result is judged; the netlist is reloaded and the block states restored
from the copy. A failed test or restore stops the array until its record has been cleared, and its item is eligible at
once. -/
def execArrayBistEnd (f tick : Nat) (r : BistResult) (restoreOk : Bool) (s : State) :
    Host.Outcome State Fault Refusal :=
  .next (
    let s := advance (10000 * tick) s
    let n := 4 + f
    let d := dieSrc f
    if (item s n).state = 2 ∧ (fba s f).state = 2 then
      let j := bistJudge n r s
      let copy := (item s n).copy
      let st := if arrayStopped s f then 3 else 1
      let s := oweTests f (itemReport n r s)
      let s := if j = 1 then itemPass n s else itemFail n j 1 s
      let s := if j = 1 ∧ restoreOk then
          let s := modFba f (fun a => { a with
            state := st, slots := netlist (confOf s) f, blocks := copy, blocksC := copy, outsC := a.outs
            resumed := 10 * tick + 10 }) s
          goneIf 0x0E17 d (goneIf 0x0E13 d (goneIf 0x0E12 d s))
        else
          modItem n (fun i => { i with state := 1 }) (modFba f (fun a => { a with state := 3 }) (reloadArray f s))
      let s := if j = 1 then s else faultNew (if j = 2 then 0x0E12 else 0x0E13) d s
      let s := if restoreOk then s else faultNew 0x0E17 d s
      settleSite f s
    else s)

/-! ### Memory BIST of TS3 (R372) -/

/-- TS3_MEMORY_BIST_START: with a standby core, and no core test or handover under way. -/
def execTs3MemoryBistStart (s : State) : Host.Outcome State Fault Refusal :=
  .next (if evaluating s ∧ (item s 0x0B).state = 1 ∧ (freeStandby s).isSome ∧ !coreTesting s then
    startTest 0x0B s else s)

/-- TS3_MEMORY_BIST_COMPLETE: a failure raises 0x0E14 and takes TS3 out of use (log entry 40). -/
def execTs3MemoryBistComplete (pass : Bool) (s : State) : Host.Outcome State Fault Refusal :=
  .next (if (item s 0x0B).state = 2 then
    if pass then itemPass 0x0B s else faultNew 0x0E14 0x0733 (itemFail 0x0B 2 4 s)
  else s)

/-- TEST_OVERDUE (R376, R377): 0x0E15 from the interval on, and 0x0E16 from twice the interval on. -/
def execTestOverdue (n : Nat) (s : State) : Host.Outcome State Fault Refusal :=
  .next (if scheduling s ∧ itemExists s n ∧ itemInterval s n ≤ itemAge s n then
    let s := faultNew 0x0E15 (itemSrc n) s
    if 2 * itemInterval s n ≤ itemAge s n then settleAll (faultNew 0x0E16 (itemSrc n) s) else s
  else s)

/-! ### Calibration (R374, R375) -/

/-- Whether an element is in a permitted moment of R374, where its path current reads `ma`: off in both lanes, or inside its
own dark test at 20 mA or less; a brake in APPLIED. -/
def calMay (s : State) (el ma : Nat) : Bool :=
  fromStartup s && srcExists s el && (if isBrake el then decide (brakeCode s el = 0)
    else elOff s el || (decide ((elem s el).test = 1) && decide (ma ≤ 20)))

/-- When an element was last calibrated in operating time, and before its first calibration since when that counts. -/
def calSince (s : State) (el : Nat) : Nat := if (elem s el).calAt = 0 then s.test.calFrom else (elem s el).calAt - 1

/-- Whether the calibration of an element is due: once per calibration interval (R374, Table ST-5). -/
def calDue (s : State) (el : Nat) : Bool :=
  decide ((elem s el).calAt = 0) || decide (calSince s el + cnum (confOf s) 0x2800 4 60 * second ≤ s.time.opNs)

/-- CALIBRATION (R374, R375): a correction out of tolerance keeps the previous one and marks the readback invalid. -/
def execCalibration (el : Nat) (r : Calibrated) (s : State) : Host.Outcome State Fault Refusal :=
  .next (if calMay s el r.ma ∧ calDue s el then
    let s := modElem el (fun x => { x with calAt := s.time.opNs + 1 }) s
    if r.ok then
      goneIf 0x0E18 el (goneIf 0x0E19 el (modElem el (fun x => { x with calBad := false, calLate := false }) s))
    else faultNew 0x0E19 el (modElem el (fun x => { x with calBad := true }) s)
  else s)

/-- CALIBRATION_OVERDUE (R375): no permitted moment for 86,400 s, so that the last calibration lies as long ago at least. -/
def execCalibrationOverdue (el : Nat) (s : State) : Host.Outcome State Fault Refusal :=
  .next (if fromStartup s ∧ srcExists s el ∧ !calMay s el 0 ∧ calSince s el + 86400 * second ≤ s.time.opNs then
    faultNew 0x0E18 el (modElem el (fun x => { x with calLate := true }) s) else s)

end Sys2Proof.Machine
end

