-- ==== Sys2Proof/Machine/Boundary.lean ====
section
/-! DEFINITION. The safety cycle: the start of the lanes and of the boundaries at the entry into SAFE, and what
happens at a boundary (R39, R193, R217, R287, R303, R307 to R312, R316, R475, R480). -/

namespace Sys2Proof.Machine

/-- The sites that the image in force configures. -/
def confSites (s : State) : List Nat :=
  match s.cfg.image with
  | some i => (popSites s).filter (bit i.sites)
  | none => []

/-! ### The input image (Table PL-5) -/

/-- The filtered states of lane A of a site. -/
def filteredA (s : State) (f : Nat) : Nat := bitsOf (fun i => (laneIn s .a (elemAt f i)).on) 32

/-- The faulty inputs of a site. -/
def faultyWord (s : State) (f : Nat) : Nat := bitsOf (fun i => inputFaulty s (elemAt f i)) 32

/-- The nibble of an entry in the pair image (0x5003): pair signal, release, closed-and-locked, and held. -/
def pairNibble (x : PairShow) : Nat :=
  b2n (decide (x.code = 2)) + 2 * b2n x.release + 4 * b2n x.closed
    + 8 * b2n (decide (4 ≤ x.code) && decide (x.code ≤ 6))

/-- The pair image of lane A, by byte. -/
def pairImageNow (s : State) : Table Nat :=
  (usedEntries (confOf s)).foldl (fun t e =>
    tmod 0 t (e / 2) (· + pairNibble (laneShown s .a e) * (if e % 2 = 0 then 1 else 16))) []

/-- Copy the bytes of a memory from an address on into another. -/
def copyRange (src : Mem) (lo n dst : Nat) (m : Mem) : Mem :=
  (src.filter (fun e => decide (lo ≤ e.1) && decide (e.1 < lo + n))).foldl (fun a e => wrByte a (dst + (e.1 - lo)) e.2) m

/-- The input image of the present boundary (R307). -/
def buildImage (s : State) : Mem :=
  let m := (confSites s).foldl (fun a f => wrBytes a (0x10 * f) (le 4 (filteredA s f) ++ le 4 (faultyWord s f))) []
  let m := s.proc.pairImage.foldl (fun a e => wrByte a (0x80 + e.1) (BitVec.ofNat 8 e.2)) m
  let m := wrBytes m 0x100 (le 8 s.proc.cycle ++ le 8 s.proc.boundaryAt ++ le 1 s.ctl.st.code)
  let m := (upto 4).foldl (fun a j => wrBytes a (0x200 + 0x48 * j) (spiSlot s j)) m
  let m := ((usedConns (confOf s)).filter (receives s)).foldl
    (fun a k => wrBytes a (0x1000 + 0x48 * k) (connSlot s k)) m
  (upto 3).foldl (fun a p => copyRange (part s p).confirmedRegion 0x9000 0x1000 (0xA000 + 0x1000 * p) a) m

/-- The words of the exchange areas that hold an error: the partition and the address. -/
def areaUpsets (s : State) : List (Nat × Nat) :=
  s.proc.upsets.filterMap (fun e => match e.1 with
    | .shared a => ((upto 3).find? (fun p => decide (regionBase p + 0x9000 ≤ a) && decide (a < regionBase p + 0xA000))).map
        (fun p => (p, a))
    | .tcm _ _ | .journal _ _ | .slot _ _ => none)

/-- The capture reads the exchange areas (R290): a word that cannot be corrected raises 0x0802, and its copy in the input
image cannot be corrected either (DEDUCED, log entry 82). -/
def readAreas (s : State) : State :=
  (areaUpsets s).foldl (fun a e =>
    let pl := Place.shared e.2
    if shows a pl = .uncorrectable then
      let copy := Place.shared (0x2000A000 + 0x1000 * e.1 + (e.2 - regionBase e.1 - 0x9000))
      let a := raise (report a 0x0802 (placeMem pl) 0xFFFF (placeAddr pl)) a
      { a with proc := { a.proc with upsets := (copy, .uncorrectable) :: a.proc.upsets } }
    else mend pl a) s

/-- Whether a word lies in the window of the input image. -/
def inImage : Place → Bool
  | .shared a => decide (0x20000000 ≤ a) && decide (a < 0x20010000)
  | .tcm _ _ | .journal _ _ | .slot _ _ => false

/-- The capture at a boundary: the two banks of the input image alternate (R289). -/
def capture (s : State) : State :=
  let s := { s with proc := { s.proc with
    capturedA := (confSites s).foldl (fun t f => tset 0 t f (filteredA s f)) []
    capturedF := (confSites s).foldl (fun t f => tset 0 t f (faultyWord s f)) []
    pairImage := pairImageNow s } }
  let s := readAreas (clearUpsets inImage s)
  { s with proc := { s.proc with
    image := buildImage s
    lastImage := s.proc.image
    bank := 1 - s.proc.bank
    published := ⟨s.proc.rollbacks, s.proc.takeovers, s.proc.handovers, s.proc.cores, s.proc.parts⟩ } }

/-! ### The output stage (R309, R311) -/

/-- The lane A word of a site: for each switch the bit of the partition that owns it, where its demands are
published. -/
def publishWord (s : State) (ok : Nat → Bool) (f : Nat) : Nat :=
  bitsOf (fun b => (upto 3).any (fun p =>
    ok p && bit ((partOf (confOf s) p).owned.getD f 0) b && bit (tget 0 (part s p).demands f) b)) 26

/-- The word of the shared SRAM that holds the demands of partition `p` for a site. -/
def demandPlace (p f : Nat) : Place := .shared (regionBase p + 4 * f)

/-- The demand words that the output stage reads where `ok` partitions publish. -/
def demandPlaces (s : State) (ok : Nat → Bool) : List Place :=
  ((upto 3).filter ok).flatMap (fun p => (popSites s).map (demandPlace p))

/-- The output stage reads the demand words: one that cannot be corrected raises 0x0802 (R290). -/
def readDemands (ok : Nat → Bool) (s : State) : State :=
  (demandPlaces s ok).foldl (fun a pl =>
    if shows a pl = .uncorrectable then raise (report a 0x0802 (placeMem pl) 0xFFFF (placeAddr pl)) a else mend pl a) s

/-- The words of every site are published. The hand-over to the enable link lies between 20.5 and 52 µs after the
boundary (Table PL-6); its time within that is a free value. A demand word that could not be read demands nothing (DESIGN CHOICE, log entry 82). -/
def publish (ok : Nat → Bool) (s : State) : State :=
  let (n, s) := draw (readDemands ok s)
  let t := s.proc.boundary + 20500 + Config.freePublish n % 31501
  { s with outs := { s.outs with
    publishedA := (popSites s).foldl (fun a f => tset 0 a f
      (publishWord s (fun p => ok p && decide (shows s (demandPlace p f) ≠ .uncorrectable)) f)) []
    publishTime := (popSites s).foldl (fun a f => tset 0 a f (devAt s t)) [] } }

/-! ### Counters at a boundary (R475, R480) -/

/-- The core cycles of the cycle that ends reach every core's count, and the slots that no other category took are
idle. `n` is the number of core cycles of the cycle. -/
def cycleEnd (n : Nat) (s : State) : State :=
  let base := (part s 0).startCycles
  let top := (upto 4).foldl (fun m k => max m (core s k).perf.cycles) (base + n)
  let s := (upto 4).foldl (fun a k => modPerf k (fun p =>
    { idleTo base top p with counted := 0, odd := 0 }) a) s
  (upto 3).foldl (fun a p => modPart p (fun q => { q with startCycles := top }) a) s

/-- The safety cycles stop: the slots of the one under way are counted, and from now on every slot is idle (R307, R475). -/
def lanesStop (s : State) : State :=
  let s := if s.proc.running then cycleEnd ((s.time.now - s.proc.boundary) / 5 * 2) s else s
  { s with proc := { s.proc with running := false, countedTo := s.time.now } }

/-- The execution statistics are reset (R480). -/
def statsReset (s : State) : State :=
  let s := (upto 3).foldl (fun a p => modPart p (fun q => { q with
    measured := 0, shortest := 0, longest := 0, longestRb := 0, recent := [], withRb := 0, longestCycle := 0
    wcetBad := false }) a) s
  { s with proc := { s.proc with statsReset := s.time.dev } }

/-! ### The boundary -/

/-- What every boundary does, its first included: the grid goes on at time `b` with cycle number `m`, the
image is captured, each partition gets its challenge and resumes, the SPI channels turn and the telegrams due
go out. -/
def boundaryWork (m b : Nat) (s : State) : State :=
  let s := { s with proc := { s.proc with cycle := m, boundary := b, boundaryAt := devAt s b } }
  let s := capture s
  let s := (upto 3).foldl (fun a p =>
    let (n, a) := draw a
    modPart p (fun q => { q with
      challenge := Config.freeChallenge n, responses := 0, wrong := false, cycleDone := false, rolled := false }) a) s
  let s := (upto 4).foldl (fun a k => modCore k (fun c => { c with ended := false }) a) s
  sendAll m ((upto 4).foldl (fun a j => spiTurn j a) s)

/-- The partitions whose cycle checkpoint has not been confirmed: each is an overrun (R311). -/
def overruns (s : State) : List Nat := (upto 3).filter (fun p => !(part s p).cycleDone)

/-- The time at which the cycle timer gives its next boundary: the last one and the safety cycle (R307). -/
def nextBoundary (s : State) : Nat := s.proc.boundary + cycleNs s

/-- Whether a boundary pulse at a time is out of the guard of the escapement's measurement (R312). -/
def offGrid (s : State) (t : Nat) : Bool :=
  decide (t + escGuard s < nextBoundary s) || decide (nextBoundary s + escGuard s < t)

/-- The time of a boundary that comes at `t`: the grid's own, which the command names within the guard, and `t` where the
cycle timer is out of it (DESIGN CHOICE, log entry 84). -/
def boundaryTime (s : State) (t : Nat) : Nat := if offGrid s t then t else nextBoundary s

/-- Stop the Curfew pattern for the partitions of a list, where the escapement is in service (R312). -/
def missWindows (l : List Nat) (s : State) : State :=
  l.foldl (fun a p => if s.proc.escapement then escapementFail p a else a) s

/-- SAFETY_CYCLE_BOUNDARY (R307 to R312) at `t`. An interval out of the guard counts as a missed window of every
partition, and a service of the cycle before last that has not come is missed by now (R312). -/
def execSafetyCycleBoundary (t : Nat) (s : State) : Host.Outcome State Fault Refusal :=
  let s := advance t s
  .next (if evaluating s && s.proc.running && configured s then
    let b := boundaryTime s s.time.now
    let s := missWindows (if offGrid s s.time.now then upto 3 else (upto 3).filter (fun p => (part s p).owed.isSome)) s
    let s := advance b s
    let l := overruns s
    let s := l.foldl (fun a p => fault 0x0606 (0x0708 + p) a) s
    let s := (upto 3).foldl (fun a p => modPart p (fun q => { q with
      served := decide (q.responses = 1) && !q.wrong, confirmed := q.cycleDone
      owed := if q.responses = 0 then some q.challenge else none }) a) s
    let s := cycleEnd (safetyCycle (confOf s) * 400) s
    let s := boundaryWork (s.proc.cycle + 1) b s
    publish (fun p => !l.contains p) s
  else s)

/-! ### Loading the program (R287, R303) -/

/-- Whether a memory, by its source number, has passed its last test at a commit, and is loaded (R372). -/
def memoryPassed (s : State) (m : Nat) : Bool := decide (s.dict.staging.badMemory ≠ some m)

/-- What is loaded into a memory: nothing into one that has not passed its test, which then reads 0 (log entry 96). -/
def loaded (s : State) (m : Nat) (l : List Byte) : List Byte := if memoryPassed s m then l else []

/-- Whether a word lies in a set or its journal. -/
def inSet (i : Nat) : Place → Bool
  | .tcm j _ | .journal j _ => decide (j = i)
  | .shared _ | .slot _ _ => false

/-- Partition `p` is loaded into its set, whose words are written anew, and the core that runs it starts at the entry
point. The work of an interval that the load cuts off is Wasted (R476; DEDUCED, log entry 104). -/
def loadPart (p : Nat) (s : State) : State :=
  let c := confOf s
  let d := partOf c p
  let b := progBytes c
  let w : Ctx := { pc := BitVec.ofNat 32 d.entry }
  let s := if memoryPassed s (0x0730 + p) then clearUpsets (inSet p) s else s
  let s := modTcm p (fun _ => {
    imem := wrBytes [] 0 (loaded s (0x0730 + p) ((b.drop d.codeOff).take d.codeLen))
    dmem := wrBytes [] 0 (loaded s (0x0730 + p) ((b.drop d.dataOff).take d.dataLen)) }) s
  let s := ship p w (modPart p (fun q => { q with demands := [] }) s)
  match coreOfPart s p with
  | some k => startInterval k (modCore k (fun x => { x.load w false with
      chime := 0, retried := false, perf := wasteInterval x.perf }) s)
  | none => s

/-- K0, K1 and K2 run P0, P1 and P2 and K3 stands by (R303). Where partitions run already, their cores keep them. -/
def assignRoles (s : State) : State :=
  if (upto 4).any (fun k => decide ((core s k).role = .active)) then s
  else
    let l := (upto 4).filter (fun k => decide ((core s k).role = .standby))
    ((upto 3).zip l).foldl (fun a x => modCore x.2 (fun c => { c with role := .active, part := x.1, set := x.1 }) a) s

/-! ### The start of the lanes (R193, R217, R307) -/

/-- One lane of an input starts from OFF. -/
def LaneIn.restart (x : LaneIn) : LaneIn :=
  { x with on := false, raw := false, first := none, frozen := 0, masked := false, past := [], inside := false }

/-- Every input and source of a site starts: the filters from OFF, and the sources on, off for a fault, or off for
their supply. -/
def startField (f : Nat) (s : State) : State :=
  let c := confOf s
  let s := (siteInputs f).foldl (fun a i => modInput i (fun x => { x with a := x.a.restart, b := x.b.restart }) a) s
  (siteSources f).foldl (fun a j => modSource j (fun x => { x with
    status := if srcMode c j = 0 ∨ !siteNamed s f then 0 else if faultActive s 0x0201 j then 3
      else if supplyOk s (elemAt f 0x72) then srcOn c j else 4
    pulse := false, retry := false, taus := [], width := if srcPulses c j then nextWidth c j [] else 0 }) a) s

/-- One lane of an entry starts HELD, for the sampling start only (R193). An egress latch stays as CONFIGURE found it,
although the pair signal was not evaluated there, unless the configuration has been loaded anew, which clears it
(DESIGN CHOICE, log entry 99). -/
def PairLane.restart (fresh : Bool) (x : PairLane) : PairLane :=
  { x with
    code := 6, starting := true, soft := true, release := false, closed := false, press := none, valid := none, due := none
    judged := none, mark := 0, discard := false, need := true, tr := none, latch := x.latch && !fresh, zero := none }

/-- The door records of an entry whose lane goes from `old` to its present evaluation at a stop or start (R209). -/
def doorNotes (l : Lane) (e : Nat) (old : PairLane) (s : State) : State :=
  let c := confOf s
  let x := pairLane s l e
  let te := tickEnd s.time.now
  let s := if pairKind c e = 4 ∧ old.closed ≠ x.closed then doorNote l te 1 e (b2n x.closed) s else s
  let s := if pairKind c e = 4 ∧ old.latch ≠ x.latch then doorNote l te (if x.latch then 2 else 3) e (b2n x.latch) s else s
  if old.code ≠ x.code then (doorsOf c e).foldl (fun a d => doorNote l te 4 d x.code a) s else s

/-- Change both lanes of an entry at a stop or start, with the door records. -/
def turnEntry (g : PairLane → PairLane) (h : PairSt → PairSt) (e : Nat) (s : State) : State :=
  let old := pair s e
  let s := modPair e (fun p => h { p with a := g p.a, b := g p.b }) s
  doorNotes .a e old.a (doorNotes .b e old.b s)

/-- The entries are not evaluated any more: CONFIGURE samples nothing (R213). -/
def stopPairs (s : State) : State :=
  (usedEntries (confOf s)).foldl (fun a e => turnEntry (fun x => { x with
    code := 0xF, release := false, closed := false, press := none, starting := false
    due := none, judged := none, mark := 0 }) (fun p => { p with last := a.time.dev, lastMark := 0 }) e a) s

/-- Every entry starts: those in use HELD, the others not evaluated. -/
def startPairs (fresh : Bool) (s : State) : State :=
  let used := usedEntries (confOf s)
  let s := { s with pairs := s.pairs.filterMap (fun p =>
    if used.contains p.1 then some p
    else
      let x : PairSt := { cycles := p.2.cycles, egress := p.2.egress }
      if x = {} then none else some (p.1, x)) }
  used.foldl (fun a e => turnEntry (PairLane.restart fresh)
    (fun p => { p with last := a.time.dev, lastMark := 0, agree := 0, apart := 0, signal2 := false }) e a) s

/-- The array of a site starts: with its netlist loaded anew after a load, and with no demand. An array that a
failed test has stopped stays stopped (R369). -/
def startArray (fresh : Bool) (f : Nat) (s : State) : State :=
  let st := if arrayStopped s f then 3 else 1
  let s := if fresh then
      modFba f (fun a => { a with
        slots := if memoryPassed s (dieSrc f) then netlist (confOf s) f else [], outs := [], blocks := [], outsC := [], blocksC := [], segments := [], good := [], fails := []
        published := 0, scan := 0, doubt := false }) (goneIf 0x0502 (dieSrc f) s)
    else s
  modFba f (fun a => { a with state := st, demands := 0, wasRun := false }) s

/-- The lanes start at an entry into SAFE from CONFIG_LOAD or CONFIGURE. `fresh` says that an image or values have
just been loaded. Without an image nothing evaluates. -/
def startLanes (fresh : Bool) (s : State) : State :=
  if !configured s then s
  else
    let s := (confSites s).foldl (fun a f => startArray fresh f (startField f a)) (startPairs fresh s)
    let s := assignRoles (settleIdle s)
    let s := if fresh then statsReset ((upto 3).foldl (fun a p => loadPart p a) s) else s
    let s := { s with proc := { s.proc with
      running := true, escapement := !(actives s).any (fun a => decide (a.code = 0x0A07)) } }
    let s := (upto 3).foldl (fun a p => modPart p (fun q => { q with owed := none }) a) s
    let s := boundaryWork 0 s.time.now (cycleEnd 0 s)
    publish (fun _ => false) s

/-- An entry into SAFE from a state in which the lanes stood: the locks are set (R39), the Genxon Safe connections
start (R404, R410), and the lanes start. -/
def enterSafe (cause who : Nat) (fresh : Bool) (s : State) : State :=
  let s := moveTo .safe cause who s
  startLanes fresh (connsStart { s with ctl := { s.ctl with locked := true } })

end Sys2Proof.Machine
end

