-- ==== Sys2Proof/Machine/Requests.lean ====
section
/-! DEFINITION. Requests for a change of the device state, and the entries into RUN, CONFIGURE and MAINTENANCE (R39,
R42 to R46, R198, R200, R307, R358, R378, R417). -/

namespace Sys2Proof.Machine

/-- Whether paired packages agree closely enough for RUN: where pairing is configured, its connection is valid and a
matching check was accepted within the last 2,000 ms (R417). -/
def pairingReady (s : State) : Bool :=
  match pairingConn s with
  | none => true
  | some k => connValid s k && decide (s.net.pairing.checked ≠ 0)
      && decide (s.time.now + 1 ≤ s.net.pairing.checked + 2 * second)

/-- The cores with role active. -/
def activeCores (s : State) : Nat := ((upto 4).filter (fun k => decide ((core s k).role = .active))).length

/-- The condition of SAFE to RUN (Table AR-7). -/
def runReady (s : State) : Bool :=
  configured s && s.ctl.locked && decide (3 ≤ activeCores s) && s.proc.escapement && !blocksRun s && pairingReady s

/-- Every release as an entry into RUN leaves it: 0, but for the automatic mode, where it equals the pair signal
(R200). The doors follow. -/
def runRelease (l : Lane) (e : Nat) (s : State) : State :=
  let c := confOf s
  if pairKind c e = 1 ∨ pairKind c e = 2 then
    modLane l e (fun x => if pairMode c e = 0 then { x with release := decide (x.code = 2) }
      else { x with release := false, need := true }) s
  else s

/-- The entry into RUN. -/
def enterRun (cause who : Nat) (s : State) : State :=
  let s := moveTo .run cause who s
  let s := { s with ctl := { s.ctl with runSince := s.time.now } }
  let es := usedEntries (confOf s)
  let s := es.foldl (fun a e => runRelease .b e (runRelease .a e a)) s
  let doors := es.filter (fun e => decide (pairKind (confOf s) e = 4))
  doors.foldl (fun a e => doorSettle .b a.time.now e (doorSettle .a a.time.now e a)) s

/-- A state in which the switches of every site are off has been entered: they move at once. -/
def allOff (s : State) : State :=
  let s := (popSites s).foldl (fun a f => (siteElems f).foldl (fun b el => dropTest el b) a) s
  settleAll s

/-- The entry into CONFIGURE: the boundaries stop, tests are abandoned, pulses and sampling stop, the arrays stop and
the locks open (R39, R307, R378). -/
def enterConfigure (who : Nat) (s : State) : State :=
  let s := moveTo .configure 2 who (abandonAll s)
  let s := lanesStop { s with ctl := { s.ctl with locked := false } }
  let s := (popSites s).foldl (fun a f =>
    let a := (siteSources f).foldl (fun b j => modSource j (fun x => { x with status := 0, pulse := false, retry := false }) b) a
    modFba f (fun x => { x with state := 0, demands := 0 }) a) (stopPairs s)
  allOff s

/-- The adaptive widths start again at an entry into SAFE (R165). -/
def restartWidths (s : State) : State :=
  (popSites s).foldl (fun a f => (siteSources f).foldl (fun b j => modSource j (fun x => { x with
    taus := [], width := if srcPulses (confOf b) j then nextWidth (confOf b) j [] else 0 }) b) a) s

/-- The step out of RUN or MAINTENANCE into SAFE: outputs go off; a manual fault injection ends (R358); the sources'
widths start again (R165), and so do the connections (R407, R410, R429). -/
def backToSafe (cause who : Nat) (s : State) : State :=
  connsAgain (allOff (restartWidths (moveTo .safe cause who (endInjection s))))

/-- The narrowing of 0x2100:02 that precedes its value: the transport rule for SAFE and RUN (R44). -/
def requestTransport (r : Requester) (v : Nat) (s : State) : Bool :=
  decide (v = 0x40) || decide (v = 0x50) || transportOk s r

/-- Whether a request that arrived at `t` is beaten in its own time tick (R45): one has been accepted that arrived in it.
Accesses of one time tick reach this point in the order of their transports (R120), so that one came from a
lower-numbered transport. A request that is itself not permitted by R42 or R44 beats none (DEDUCED, log entry 75). -/
def requestBeaten (t : Nat) (s : State) : Bool := decide (s.ctl.reqTick = some (tick10 t))

/-- A write of a target to 0x2100:02 that is not beaten in its time tick. -/
def requestAlone (r : Requester) (v : Nat) (s : State) : Nat × State :=
  if s.ctl.request.isSome ∨ !requestTransport r v s then (0x08000022, s)
  else if v = 0x20 then
    (if s.ctl.st = .run ∨ s.ctl.st = .maintenance then (0, backToSafe 2 r.code s) else (0x08000022, s))
  else if v = 0x30 then
    (if s.ctl.st = .safe ∧ runReady s then (0, { s with ctl := { s.ctl with request := some (0x30, r.code) } })
    else (0x08000022, s))
  else if v = 0x40 then
    (if s.ctl.st = .safe ∧ holdsKind s r 1 then (0, enterConfigure r.code s) else (0x08000022, s))
  else if v = 0x50 then
    (if s.ctl.st = .safe ∧ holdsKind s r 2 then (0, moveTo .maintenance 2 r.code s) else (0x08000022, s))
  else (0x06090030, s)

/-- A write of a target to 0x2100:02 that arrived at `t` (R42, R44, R45): the abort code, 0 where it is accepted, and the
state after. -/
def requestWrite (t : Nat) (r : Requester) (v : Nat) (s : State) : Nat × State :=
  if requestBeaten t s then (0x08000022, s)
  else
    let x := requestAlone r v s
    if x.1 = 0 then (0, { x.2 with ctl := { x.2.ctl with reqTick := some (tick10 t) } }) else x

/-- RUN_ENTRY (R42): at the boundary after the acceptance of a request for RUN, or of the autostart. A request whose
conditions no longer hold ends without an entry. -/
def execRunEntry (s : State) : Host.Outcome State Fault Refusal :=
  .next (match s.ctl.request with
    | some (0x30, who) =>
      if s.ctl.st = .safe ∧ s.proc.running then
        if runReady s then enterRun (if who = 0 then 7 else 2) who s
        else { s with ctl := { s.ctl with request := none } }
      else s
    | _ => s)

end Sys2Proof.Machine
end

