-- ==== Sys2Proof/Machine/Session.lean ====
section
/-! DEFINITION. Sessions: challenge, answer, closing, the timers and the trailer of KDP on UDP (R99, R140 to R145). -/

namespace Sys2Proof.Machine

/-- Whether a challenge or session is a requester's. -/
def Session.heldBy (x : Session) (r : Requester) : Bool :=
  match x.holder with
  | some h => sameRequester h r
  | none => false

/-- Change the staging registers. -/
def modStaging (g : Staging → Staging) (s : State) : State :=
  { s with dict := { s.dict with staging := g s.dict.staging } }

/-- Neither challenge nor session. The wrong answers in a row, the counts, the timeout and a held nonce stay. -/
def Session.clear (x : Session) : Session :=
  { x with state := 0, kind := 0, holder := none, deviceNonce := [], clientNonce := [], counter := 0 }

/-- A session may be opened in SAFE or RUN (R140). -/
def mayOpen (s : State) : Bool := decide (s.ctl.st = .safe) || decide (s.ctl.st = .run)

/-- A challenge request with its nonce (R99, R141 to R143). -/
def challenge (r : Requester) (kind : Nat) (nonce : Option (List Byte)) (s : State) : Nat × State :=
  if retired s || decide (s.dict.session.state = 4) then (0x08000022, s)
  else if s.dict.session.state ≠ 0 then (0x08000021, s)
  else if !mayOpen s then (0x08000022, s)
  else match nonce with
    | none => (0x08000024, s)
    | some n =>
      let (k, s) := draw s
      (0, modSession (fun x => { x with
        state := 1, kind := kind, holder := some r, clientNonce := padTo 16 n, counter := 0
        deviceNonce := le 16 (Config.freeRandom k).toNat, lastRequest := s.time.opNs }) s)

/-- A challenge request by 0x2110:02: it takes the nonce that the same requester wrote after its own last one
(R143). -/
def challengeWrite (r : Requester) (kind : Nat) (s : State) : Nat × State :=
  match s.dict.session.nonceStore with
  | some (w, n) =>
    if sameRequester w r then challenge r kind (some n) (modSession (fun x => { x with nonceStore := none }) s)
    else challenge r kind none s
  | none => challenge r kind none s

/-- The message that an answer authenticates (R141). -/
def answerMsg (s : State) (r : Requester) : List Byte :=
  padTo 16 s.dict.session.deviceNonce ++ padTo 16 s.dict.session.clientNonce ++ le 1 s.dict.session.kind
    ++ serialBytes s ++ le 1 r.code

/-- A wrong answer ends the challenge; the fifth in a row locks out (R142). -/
def wrongAnswer (r : Requester) (s : State) : State :=
  let k := s.dict.session.kind
  let row := s.dict.session.wrongRow + 1
  let s := sessionNote 4 k r.code (modSession (fun x => { x.clear with
    wrongRow := row, failures := inc16 x.failures }) s)
  if 5 ≤ row then
    sessionNote 5 k r.code (modSession (fun x => { x with
      state := 4, wrongRow := 0, lockout := some (s.time.opNs + 600 * second) }) s)
  else s

/-- An answer (R141, R142). -/
def answer (r : Requester) (mac : List Byte) (s : State) : Nat × State :=
  let x := s.dict.session
  if x.state ≠ 1 ∨ !mayOpen s then (0x08000022, s)
  else match x.holder with
    | none => (0x08000022, s)
    | some h =>
      if !sameRequester h r then (0x08000021, s)
      else if mac = hmac (sessionKey s) (answerMsg s r) then
        (0, sessionNote 1 x.kind r.code (modSession (fun y => { y with
          state := y.kind + 1, wrongRow := 0, counter := 0, lastRequest := s.time.opNs }) s))
      else (0x06090030, wrongAnswer r s)

/-- Nothing staged (R144, R147). The commit result stays. -/
def Staging.drop (x : Staging) : Staging :=
  { x with kind := 0, bytes := [], extents := [], nums := [], strs := [] }

/-- What is staged is dropped; the content that its holder saw of a staged DOMAIN changes (R122). -/
def dropStaging (s : State) : State :=
  modStaging Staging.drop (s.dict.staging.strs.foldl (fun a e => bump (e.1 / 256) (e.1 % 256) a) s)

/-- A session ends: the device leaves CONFIGURE or MAINTENANCE for SAFE, and anything staged is discarded (R144). -/
def endSession (cause who : Nat) (fresh : Bool) (s : State) : State :=
  let s := dropStaging (modSession Session.clear s)
  match s.ctl.st with
  | .configure => enterSafe cause who fresh s
  | .maintenance => backToSafe cause who s
  | .reset | .fuseSense | .startupTest | .configLoad | .safe | .run | .halt => s

/-- A close by its holder, or the withdrawal of an unanswered challenge (R144). While a commit runs, the close takes
effect at its end (R45). -/
def closeSession (r : Requester) (s : State) : Nat × State :=
  let x := s.dict.session
  if holdsSession s r then
    let s := sessionNote 2 x.kind r.code s
    if s.dict.staging.running ≠ 0 then (0, modStaging (fun y => { y with closing := true }) s)
    else (0, endSession 5 r.code false s)
  else if x.state = 1 ∧ x.heldBy r then (0, modSession Session.clear s)
  else (0x08000021, s)

/-- CHALLENGE_EXPIRY (R141): 10 s after it was issued. -/
def execChallengeExpiry (s : State) : Host.Outcome State Fault Refusal :=
  .next (if s.dict.session.state = 1 ∧ s.dict.session.lastRequest + 10 * second ≤ s.time.opNs then
    modSession Session.clear s else s)

/-- LOCKOUT_END (R142): 600 s after the fifth wrong answer. -/
def execLockoutEnd (s : State) : Host.Outcome State Fault Refusal :=
  .next (match s.dict.session.lockout with
    | some e =>
      if s.dict.session.state = 4 ∧ e ≤ s.time.opNs then
        modSession (fun x => { x with state := 0, lockout := none }) s else s
    | none => s)

/-- SESSION_TIMEOUT (R144, R45): no request from the holder for the time of 0x2110:06. -/
def execSessionTimeout (s : State) : Host.Outcome State Fault Refusal :=
  let x := s.dict.session
  .next (if (x.state = 2 ∨ x.state = 3) ∧ x.lastRequest + x.timeout * second ≤ s.time.opNs
      ∧ !s.dict.staging.closing then
    let s := sessionNote 3 x.kind ((x.holder.map (·.code)).getD 0) s
    if s.dict.staging.running ≠ 0 then modStaging (fun y => { y with closing := true }) s
    else endSession 6 0 false s
  else s)

/-! ### The trailer of KDP on UDP (R145) -/

/-- The trailer key K_s. -/
def trailerKey (s : State) : List Byte :=
  hmac (sessionKey s) ([0x4B, 0x44, 0x50, 0x2D, 0x53] ++ padTo 16 s.dict.session.deviceNonce
    ++ padTo 16 s.dict.session.clientNonce)

/-- Whether a request needs a trailer: the session holder's over UDP. -/
def needsTrailer (s : State) (r : Requester) : Bool := decide (r.code = 4) && holdsSession s r

/-- The counter that a trailer is accepted with: one above the last and at most 64 above it whose HMAC matches. -/
def trailerCounter (s : State) (frame trailer : List Byte) : Option Nat :=
  ((upto 64).map (fun i => s.dict.session.counter + 1 + i)).find? (fun n =>
    decide (n < 2 ^ 32) && decide (trailer = (hmac (trailerKey s) (be 4 n ++ frame)).take 16))

end Sys2Proof.Machine
end

