-- ==== Sys2Proof/Machine/Image.lean ====
section
/-! DEFINITION. Configuration images: the verification of R108, the choice between the two slots at CONFIG_LOAD, the
parameter overlay, and the fuse requests (R5, R32, R43, R89, R100, R101, R104 to R109, R148, R360, R452, R453). -/

namespace Sys2Proof.Machine

/-! ### Verification (R108) -/

/-- A failed check: the result of the slot (0x09 signature, 0x0A CRC), the code of Table FC-14, and the object that
failed it, 0 and 0 where there is no single one. -/
structure Bad where
  result : Nat
  code : Nat := 0x0F20
  idx : Nat := 0
  sub : Nat := 0
deriving DecidableEq, Repr, Inhabited

/-- The class 0x0F fault of a failed check, for slot 1 A, 2 B, or 0 staging (R360). -/
def confFault (b : Bad) (slot : Nat) (s : State) : State :=
  raise (momentary (report s b.code 0x0778 0xFFFF (b.idx + 2 ^ 16 * b.sub + 2 ^ 24 * slot))) s

/-- The digest that is signed. -/
def Image.digest (i : Image) : List Byte := sha256 i.signed

/-- Step 1: the header. -/
def headerOk (i : Image) : Bool :=
  i.headerOk && decide (i.format = 0x0100) && decide (1 ≤ i.length) && decide (i.length ≤ 1048576)

/-- Step 2: the site mask (R5). -/
def sitesOk (s : State) (i : Image) : Bool := decide (i.sites &&& popMask s = i.sites)

/-- Step 4: the usable key slot that holds the digest of the image's key (R100). -/
def keySlotOf (s : State) (i : Image) : Option Nat :=
  (upto 4).find? (fun k => slotUsable s k && decide (slotDigest s k = sha256 i.pubKey))

/-- A configured site whose netlist receives shared signals on a device without a ring, which R32 refuses under R5. -/
def recvAlone (s : State) (i : Image) : Option Nat :=
  if 1 < (popSites s).length then none
  else ((upto 7).filter (bit i.sites)).find? (fun f =>
    (netlist { nums := i.nums, strs := i.strs } f).any (fun x => decide (x.ty = 0x21)))

/-- Steps 1 to 3: what is decided while the image streams in. -/
def checkStream (s : State) (i : Image) : Option Bad :=
  if !headerOk i then some { result := 0x0A }
  else if !sitesOk s i then some { result := 0x0A, code := 0x0F01, idx := 0x3F01, sub := 4 }
  else match recvAlone s i with
    | some f => some { result := 0x0A, code := 0x0F01, idx := 0x3081 + 0x200 * f, sub := 1 }
    | none => if !i.sections.all id then some { result := 0x0A } else none

/-- Steps 4 to 6; `key` is the slot of step 4 (log entry 41 for the object of a failure). -/
def checkSigned (s : State) (key : Option Nat) (i : Image) : Option Bad :=
  if key.isNone then some { result := 0x09, idx := 0x3F01, sub := 6 }
  else if i.security < securityFloor s then some { result := 0x09, idx := 0x3F01, sub := 3 }
  else if !ecdsaVerify i.pubKey (Image.digest i) i.sigR i.sigS then some { result := 0x09 }
  else none

/-- What the checks of step 7 run on. -/
def planOf (s : State) (c : Conf) (sites : Nat) : Plan :=
  { c := c, sites := (upto 7).filter (bit sites), caps := s.fuses.caps }

/-- Step 7 on a set of values. -/
def checkConf (p : Plan) : Option Bad :=
  (configCheck p).map (fun x => { result := 0x0A, code := x.1, idx := x.2.1, sub := x.2.2 })

/-- The values of an image. -/
def Image.conf (i : Image) : Conf := { nums := i.nums, strs := i.strs }

/-! ### The image in force -/

/-- The DOMAIN objects among the srw objects: the program and the netlists. -/
def srwDomains : List (Nat × Nat) := (0x3F00, 1) :: (upto 7).map (fun f => (0x3081 + 0x200 * f, 1))

/-- Values come into force, and the DOMAINs among them that change take a new generation number (R122). -/
def setValues (c : Conf) (s : State) : State :=
  let old := confOf s
  let s := srwDomains.foldl (fun a d => if cstr old d.1 d.2 [] = cstr c d.1 d.2 [] then a else bump d.1 d.2 a) s
  { s with cfg := { s.cfg with nums := c.nums, strs := c.strs } }

/-- An image comes into force with its own values. -/
def setImage (i : Image) (seq key slot : Nat) (s : State) : State :=
  let s := setValues (Image.conf i) s
  { s with cfg := { s.cfg with
    image := some i, sequence := seq, keySlot := key, digest := Image.digest i, slot := slot
    trying := 0, loading := none } }

/-- The result of a slot: 1 A, 2 B. -/
def setResult (slot r : Nat) (s : State) : State :=
  if slot = 1 then { s with cfg := { s.cfg with resultA := r } } else { s with cfg := { s.cfg with resultB := r } }

/-! ### The overlay (R148) -/

/-- The bytes of an overlay that its seal covers. -/
def Overlay.bytes (o : Overlay) : List Byte :=
  o.digest ++ o.nums.flatMap (fun e => le 3 e.1 ++ le 8 e.2)
    ++ o.strs.flatMap (fun e => le 3 e.1 ++ le 3 e.2.length ++ e.2)

/-- The seal of an overlay. -/
def overlaySeal (s : State) (o : Overlay) : List Byte := hmac (sessionKey s) (Overlay.bytes o)

/-- The overlay is discarded, in the backup too. -/
def dropOverlay (s : State) : State :=
  if s.cfg.overlay.isSome then markDirty { s with cfg := { s.cfg with overlay := none } } else s

/-- The overlay is applied where its seal and digest hold; otherwise it is discarded. A retired part can check no
seal (R99). -/
def applyOverlay (s : State) : State :=
  match s.cfg.overlay with
  | none => s
  | some o =>
    if o.digest = s.cfg.digest ∧ !retired s ∧ o.mac = overlaySeal s o then
      setValues { nums := tmerge s.cfg.nums o.nums, strs := tmerge s.cfg.strs o.strs } s
    else
      confFault { result := 0x0A, code := 0x0F31 } 0 (dropOverlay s)

/-! ### CONFIG_LOAD: the two slots (R43, R89, R107, R453) -/

/-- The commit sequence of a slot's header, 0 where it has none. -/
def slotSeq (s : State) (n : Nat) : Nat := (nandSlot s n).seq.getD 0

/-- The slot that is tried next: of those not tried the one with the higher sequence, A first. -/
def nextSlot (s : State) : Option Nat :=
  let order := if slotSeq s 1 < slotSeq s 2 then [2, 1] else [1, 2]
  order.find? (fun n => decide ((if n = 1 then s.cfg.resultA else s.cfg.resultB) = 0xFF))

/-- A slot fails: its result and its fault. -/
def slotFail (n : Nat) (b : Bad) (s : State) : State :=
  let s := setResult n b.result s
  confFault b n { s with cfg := { s.cfg with
    sigFailed := s.cfg.sigFailed || decide (b.result = 0x09), trying := 0, loading := none } }

/-- Neither slot holds an acceptable image: SAFE unconfigured, with the identity memory read by `read` (R423). -/
def noImage (read : State → State) (s : State) : State :=
  enterSafe 1 0 false (read { s with ctl := { s.ctl with step := .none, boot := if s.cfg.sigFailed then 0x9 else 0xA } })

/-- The next slot is tried; one without a header fails without being read. -/
def tryNext (read : State → State) : Nat → State → State
  | 0, s => noImage read s
  | n + 1, s =>
    match nextSlot s with
    | none => noImage read s
    | some k =>
      if (nandSlot s k).seq.isNone then tryNext read n (slotFail k { result := 0x0A } s)
      else { s with
        ctl := { s.ctl with step := .imageRead }
        cfg := { s.cfg with trying := k, triedBoth := decide (s.cfg.resultA ≠ 0xFF) || decide (s.cfg.resultB ≠ 0xFF) } }

/-- The slot under trial fails, and the other is tried once; `read` reads the identity memory where CONFIG_LOAD ends. -/
def loadFailRead (read : State → State) (b : Bad) (s : State) : State := tryNext read 2 (slotFail s.cfg.trying b s)

/-- The same where the command does not say what the read of the identity memory returns. -/
def loadFail (b : Bad) (s : State) : State := loadFailRead identityAgain b s

/-- The load starts with neither slot tried. -/
def loadStart (s : State) : State :=
  tryNext identityAgain 2 { s with cfg := { s.cfg with resultA := 0xFF, resultB := 0xFF, slot := 0, sigFailed := false } }

/-- Whether the validity page of a slot matches its header and image (R453). -/
def validityOk (s : State) (n : Nat) (i : Image) : Bool :=
  decide ((nandSlot s n).valid = some (slotSeq s n, Image.digest i))

/-! ### Fuse requests (R98, R104, Table SU-6) -/

/-- One 8-byte fuse request of an image (R104). -/
structure FuseReq where
  word     : Nat
  op       : Nat
  flag     : Nat
  reserved : Nat
  value    : Word
deriving DecidableEq, Repr, Inhabited

/-- The entry that 8 bytes spell; the value is least significant byte first (DESIGN CHOICE, log entry 68). -/
def fuseReqOf (b : List Byte) : FuseReq :=
  { word := num b 0 1, op := num b 1 1, flag := num b 2 1, reserved := num b 3 1, value := BitVec.ofNat 32 (num b 4 4) }

/-- The entries of a byte string, `n` at most. Bytes short of an entry are an entry that no row of Table SU-6 permits. -/
def fuseReqs : Nat → List Byte → List FuseReq
  | 0, _ => []
  | _, [] => []
  | n + 1, b => (if b.length < 8 then { fuseReqOf [] with reserved := 1 } else fuseReqOf (b.take 8)) :: fuseReqs n (b.drop 8)

/-- The fuse requests of an image, in image order. -/
def fuseList (i : Image) : List FuseReq := fuseReqs i.fuseBytes.length i.fuseBytes

/-- Whether a request may follow the ones before it. `s` is the device as the earlier requests leave it, `s0` as it
was; `key` is the slot that signs the image. -/
def fuseReqOk (s0 s : State) (i : Image) (key : Nat) (last : Bool) (q : FuseReq) : Bool :=
  let w := q.word
  if q.reserved ≠ 0 then false
  else if q.op = 1 then
    (if 48 ≤ w ∧ w ≤ 79 then
      let k := (w - 48) / 8
      !regionLocked s 2 && !slotProgrammed s0 k
        && (upto 8).all (fun j => decide (((fuseList i).filter (fun x =>
          decide (x.op = 1) && decide (x.word = 48 + 8 * k + j))).length = 1))
    else decide (176 ≤ w) && decide (w ≤ 238) && !regionLocked s 4 && decide (shadowWord s w = 0))
  else if q.op = 2 then
    (if w = 80 then
      decide (q.flag < 4) && decide (q.flag ≠ key)
        && (upto 4).any (fun j => decide (j ≠ q.flag) && slotUsable s j)
    else if 81 ≤ w ∧ w ≤ 88 then
      decide (q.flag < 16)
        && decide (securityFloor s + b2n (!flagSet (shadowWord s w) q.flag) ≤ i.security)
    else if w = 240 then decide (q.flag < 3)
    else if w = 242 then
      (decide (q.flag = 2) && regionLocked s 2) || (decide (q.flag = 3) && !debugOpen s) || (decide (q.flag = 4) && last)
    else false)
  else if q.op = 3 then
    decide (w = 241) && (decide (q.flag = 2) || decide (q.flag = 4))
      && lockSound s (regions.getD q.flag default)
  else false

/-- A word of the array is programmed: bits can only be added (R90). The word is sensed again, and its shadow takes
what is sensed (log entry 42). -/
def programWord (w : Nat) (v : Word) (s : State) : State :=
  let flags := flagWords.contains w
  let y := (tget {} s.fuses.array w).blow flags v
  { s with fuses := { s.fuses with
    array := tset {} s.fuses.array w y
    shadow := tset {} s.fuses.shadow w (y.sensed flags) } }

/-- The bits of a dual-rail flag. -/
def flagBits (k : Nat) : Word := BitVec.ofNat 32 (2 ^ k + 2 ^ (k + 16))

/-- The bits that a request blows. -/
def FuseReq.bits (q : FuseReq) : Word := if q.op = 1 then q.value else flagBits q.flag

/-- A request is executed. -/
def applyReq (q : FuseReq) (s : State) : State := programWord q.word q.bits s

/-- The word of the first request that Table SU-6 does not permit. -/
def badReq (s0 : State) (i : Image) (key : Nat) : List FuseReq → State → Option Nat
  | [], _ => none
  | q :: l, s => if fuseReqOk s0 s i key (decide (l = [])) q then badReq s0 i key l (applyReq q s) else some q.word

/-- A part in SHIPPED with no programmed key slot (R104). -/
def unkeyed (s : State) : Bool := decide (prodState s = 2) && (upto 4).all (fun k => !slotProgrammed s k)

/-- Whether the image's first fuse request programs slot 0 with the digest of its own key. -/
def keysItself (i : Image) : Bool :=
  (match fuseList i with
    | q :: _ => decide (q.op = 1) && decide (48 ≤ q.word) && decide (q.word ≤ 55)
    | [] => false)
  && (upto 8).all (fun j => (fuseList i).any (fun q => decide (q.op = 1) && decide (q.word = 48 + j)
    && decide (be 4 q.value.toNat = ((sha256 i.pubKey).drop (4 * j)).take 4)))

/-- The key slot that an image under commit verifies against. -/
def commitKey (s : State) (i : Image) : Option Nat :=
  if unkeyed s then (if keysItself i then some 0 else none) else keySlotOf s i

end Sys2Proof.Machine
end

