-- ==== Sys2Proof/Machine/Commit.lean ====
section
/-! DEFINITION. Staging and commits (R104 to R108, R147 to R149, R372, R452). -/

namespace Sys2Proof.Machine

/-! ### Staging (R147, R148, R150) -/

/-- The bytes received contiguously, from `n` on; `k` bounds the steps. -/
def reach : Nat → List (Nat × Nat) → Nat → Nat
  | 0, _, n => n
  | k + 1, l, n => match l.find? (fun e => decide (e.1 ≤ n) && decide (n < e.2)) with
    | some e => reach k l e.2
    | none => n

/-- Contiguous bytes received from offset 0. -/
def Staging.contiguous (y : Staging) : Nat := reach y.extents.length y.extents 0

/-- 0x2110:09. -/
def stagingStatus (s : State) : Nat :=
  let y := s.dict.staging
  (if y.kind = 1 then Staging.contiguous y % 2 ^ 24 else 0) + y.kind * 2 ^ 24

/-- A segment of an image is staged. -/
def stageImage (off : Nat) (data : List Byte) (s : State) : Nat × State :=
  if s.dict.staging.kind = 2 then (0x08000020, s)
  else if 1048576 < off + data.length then (0x06090031, s)
  else (0, modStaging (fun y => { y with
    kind := 1, bytes := wrBytes y.bytes off data, extents := y.extents ++ [(off, off + data.length)] }) s)

/-- What the image in force declares for an srw object (R148). It never declares a netlist (R239) or
the processor-lane program (Table PL-8). -/
def declared (s : State) (idx sub : Nat) : Option (Nat × Nat) :=
  if (groupOf idx).map (·.1) = some 0x3081 ∨ idx = 0x3F00 then none
  else s.cfg.image.bind (fun i => (i.bounds.find? (fun b => decide (b.1 = okey idx sub))).map (·.2))

/-- Whether a value lies within a declared bound. A string or DOMAIN has no bound but its declaration. -/
def withinBound (t : Ty) (b : Nat × Nat) (data : List Byte) : Bool :=
  match t.size with
  | none => true
  | some n =>
    let v := fun (x : Nat) => Ty.value t (le n x)
    decide (v b.1 ≤ Ty.value t data) && decide (Ty.value t data ≤ v b.2)

/-- A parameter is staged; strings keep their written length. -/
def stageParam (row : Row) (idx sub : Nat) (data : List Byte) (s : State) : Nat × State :=
  if s.dict.staging.running ≠ 0 then (0x08000022, s)
  else if s.dict.staging.kind = 1 ∨ (declared s idx sub).isNone then (0x08000020, s)
  else (0, modStaging (fun y => if row.ty.size.isSome
    then { y with kind := 2, nums := tput y.nums (okey idx sub) (unle data) }
    else { y with kind := 2, strs := tput y.strs (okey idx sub) data }) s)

/-! ### The end of a commit (R50, R144, R149) -/

/-- The Ledger's record of a commit (Table LG-6). -/
def commitNote (code : Nat) (digest : List Byte) (seq : Nat) (s : State) : State :=
  ledgerNote 0x0C 3 code (padTo 16 digest ++ le 4 seq) s

/-- A commit ends with a result, and the session with it. -/
def commitEnd (code cause : Nat) (fresh : Bool) (s : State) : State :=
  let y := s.dict.staging
  let s := if y.closing then s else sessionNote 2 s.dict.session.kind y.requester s
  let s := modStaging (fun y => { y with result := code, running := 0, image := none, closing := false }) s
  endSession cause y.requester fresh s

/-- The digest and sequence that a commit concerns. -/
def commitOf (s : State) : List Byte × Nat :=
  match s.dict.staging.image with
  | some i => (Image.digest i, s.dict.staging.sequence)
  | none => (s.cfg.digest, s.cfg.sequence)

/-- What 0x3F01:0B or :0C shows of the slot that a failed image commit was to write (R111): a failed signature, or, for
every failure but a refused fuse request, what counts as a CRC failure (DESIGN CHOICE, log entry 69). -/
def failedResult (code : Nat) (s : State) : State :=
  if s.dict.staging.image.isNone ∨ code = 0x82 then s
  else setResult s.dict.staging.slot (if code = 0x80 then 0x09 else 0x0A) s

/-- A commit fails: the previous configuration stays in force, and the identity memory is read with its values (R423).
`fresh` says that memories have been overwritten and take the previous contents again. -/
def commitFailRead (read : State → State) (code : Nat) (fresh : Bool) (s : State) : State :=
  let s := failedResult code s
  let d := commitOf s
  commitEnd code 4 fresh (read (confFault { result := 0, code := 0x0F30 } 0 (commitNote code d.1 d.2 s)))

/-- The same where the command does not say what the read of the identity memory returns. -/
def commitFail (code : Nat) (fresh : Bool) (s : State) : State := commitFailRead identityAgain code fresh s

/-! ### The image commit (R105, R108, R372, R452) -/

/-- The commit sequence of the next slot. -/
def nextCommit (s : State) : Nat := 1 + max (slotSeq s 1) (slotSeq s 2)

/-- The slot that a commit writes: one without a header, else the one with the lower sequence. -/
def commitSlot (s : State) : Nat :=
  if s.led.slotA.seq.isNone then 1 else if s.led.slotB.seq.isNone then 2
  else if slotSeq s 2 < slotSeq s 1 then 2 else 1

/-- Whether a source names a memory that the BIST of a commit covers: TS0 to TS3, and the netlist RAMs of the sites that
the image configures (R372). -/
def bistCovers (s : State) (i : Image) (m : Nat) : Bool :=
  (decide (0x0730 ≤ m) && decide (m < 0x0734)) || ((popSites s).filter (bit i.sites)).any (fun f => decide (m = dieSrc f))

/-- A condition of 0x0E14 is gone for every memory that the test of a commit covers, TS3 out of use apart. -/
def memoriesOk (s : State) : State :=
  (s.col.records.filter (fun x => decide (x.code = 0x0E14)
    && (decide (x.source ≠ 0x0733) || decide ((item s 0x0B).state ≠ 4)))).foldl (fun a x => gone 0x0E14 x.source a) s

/-- A fuse fault (Table SU-9): gone in its own tick. -/
def fuseOnce (code : Nat) (s : State) : State := raise (momentary (report s code 0x0740)) s

/-- Step 1 of an image commit, and the memory BIST; then the write of the slot starts with its erase. `badMemory` is the source of
the memory that fails its test. -/
def beginCommit (r : Requester) (badMemory : Option Nat) (s : State) : State :=
  let y := s.dict.staging
  let i := Config.parseImage (rdBytes y.bytes 0 (Staging.contiguous y))
  let s := modStaging (fun y => { y with
    result := 1, running := 1, requester := r.code, slot := commitSlot s, sequence := nextCommit s
    image := some i }) s
  let key := commitKey s i
  match (checkStream s i).or ((checkSigned s key i).or (checkConf (planOf s (Image.conf i) i.sites))) with
  | some b =>
    let s := if b.code = 0x0F20 then s else confFault b 0 s
    commitFail (if b.result = 0x09 then 0x80 else 0x81) false s
  | none =>
    match badReq s i (key.getD 0) (fuseList i) s with
    | some _ => commitFail 0x82 false (fuseOnce 0x0907 s)
    | none =>
      if 0xFFFFFFFF < nextCommit s ∨ s.led.state ≠ 1 then commitFail 0x85 false s
      else match badMemory.filter (bistCovers s i) with
        | some m => commitFail 0x84 true (faultNew 0x0E14 m (modStaging (fun y => { y with badMemory := some m }) s))
        | none => slotBegin (memoriesOk (modStaging (fun y => { y with badMemory := none }) s))

/-- A lasting fuse fault (Table SU-9). -/
def fuseLasting (code : Nat) (s : State) : State := raise (report s code 0x0740) s

/-- The condition of 0x0905: the key region is unlocked at SHIPPED or later (R97). -/
def keysOpen (s : State) : State :=
  if 2 ≤ prodState s ∧ !regionLocked s 2 then
    (if condPresent s 0x0905 0x0740 then s else fuseLasting 0x0905 s)
  else goneIf 0x0905 0x0740 s

/-- What programmed flags bring about: the condition of an open key region begins with SHIPPED and ends with the lock
(R97), and that of an open debug port ends with the disable flag (R102, R112). -/
def fuseSettle (s : State) : State :=
  let s := keysOpen s
  if debugOpen s then s
  else { goneIf 0x0906 0x0740 s with fuses := { (goneIf 0x0906 0x0740 s).fuses with tapActive := false } }

/-- Whether the sequencer may start a fuse word (R106): its supplies are there, and its domain has not failed (R470). -/
def mayBlow (s : State) : Bool :=
  decide (22000 ≤ s.power.vhold) && s.power.pfailHigh && !bit s.power.domainsFailed 7

/-- A word whose programming failed or was cut short (R105, R106): it senses as marginal, some of the fuses just blown
being in doubt, or as uncorrectable, two of its check fuses being wrong. Which ones is a free value. -/
def FuseCells.spoil (flags marginal : Bool) (doubt : BitVec 39) (v : Word) (x : FuseCells) : FuseCells :=
  let y := x.blow flags v
  let fresh := y.nominal ^^^ x.nominal
  let m := if fresh &&& doubt = 0 then (if fresh = 0 then 1 else fresh) else fresh &&& doubt
  if marginal ∨ flags then { y with weak := y.weak ||| m }
  else
    let i := doubt.toNat % 7
    let j := (i + 1 + doubt.toNat / 7 % 6) % 7
    { y with check := BitVec.ofNat 7 (2 ^ i + 2 ^ j) }

/-- Spoil the word of a request in the array; its shadow stands until it is sensed again. -/
def spoilReq (q : FuseReq) (s : State) : State :=
  let (n, s) := draw s
  let y := (tget {} s.fuses.array q.word).spoil (flagWords.contains q.word) (Config.freeSense n) (Config.freeFuses n) q.bits
  { s with fuses := { s.fuses with array := tset {} s.fuses.array q.word y } }

/-- How step 4 of a commit ends. -/
inductive BlowEnd where
  /-- Every request is executed. -/
  | done
  /-- A word failed its verification (R105). -/
  | failed
  /-- The supplies of R106 are missing before a word, or RESET_N fell during one: nothing more is programmed. -/
  | stopped
deriving DecidableEq, Repr

/-- What the supplies are before a word. -/
def stepSupplies (x : FuseStep) (s : State) : State :=
  { s with power := { s.power with
    vhold := min 40000 (x.vhold.getD s.power.vhold), pfailHigh := s.power.pfailHigh && !x.pfailLow } }

/-- The requests of an image are executed in order, each with what the sequencer meets at it (R105, R106). -/
def blowAll : List FuseReq → List FuseStep → State → BlowEnd × State
  | [], _, s => (.done, s)
  | q :: l, v, s =>
    let x := v.headD {}
    let s := stepSupplies x s
    if !mayBlow s then (.stopped, s)
    else
      let s := modStaging (fun y => { y with blown := y.blown + 1 }) s
      if x.cut then (.stopped, modStaging (fun y => { y with running := 5 }) (spoilReq q s))
      else if x.verified then blowAll l (v.drop 1) (applyReq q s)
      else (.failed, spoilReq q s)

/-- Step 4 of a commit: the fuse requests not executed yet; then the write of the validity page starts. Where the
sequencer stops for its supplies it goes on at the next command (R106). -/
def commitFuses (i : Image) (words : List FuseStep) (s : State) : State :=
  let (e, s) := blowAll ((fuseList i).drop s.dict.staging.blown) words s
  let s := fuseSettle s
  match e with
  | .failed => commitFail 0x83 true (fuseOnce 0x0908 s)
  | .done => modStaging (fun y => { y with running := 2 }) s
  | .stopped => s

/-- IMAGE_SLOT_WRITTEN (R105 steps 2 to 4): the slot is written, the image loaded and read back, and the fuse requests
executed with the FUSEPROG domain powered (`running` 4). A further command of this kind goes on where the sequencer
waits for its supplies (R106). -/
def execImageSlotWritten (writeOk readbackOk : Bool) (words : List FuseStep) (s : State) :
    Host.Outcome State Fault Refusal :=
  let y := s.dict.staging
  .next (match y.image with
    | none => s
    | some i =>
      if y.running = 4 then commitFuses i words s
      else if y.running ≠ 1 ∨ !slotMay s then s
      else if !writeOk ∨ s.led.state ≠ 1 then commitFail 0x85 true (setSlot y.slot {} s)
      else
        let s := slotBegin s
        let s := setSlot y.slot { nandSlot s y.slot with bytes := rdBytes y.bytes 0 (Staging.contiguous y) }
          (nandDo [.pageProgram, .readStatus] s)
        if !readbackOk then commitFail 0x84 true s
        else commitFuses i words (modStaging (fun y => { y with running := 4, blown := 0 }) s))

/-- COMMIT_COMPLETE (R105 steps 5 and 6): the validity page makes the slot valid; the image is in force, an overlay is
discarded, what it makes obsolete is learned anew (R271), the memories lock and the session ends. -/
def execCommitComplete (programOk : Bool) (identity : Option (List Byte)) (s : State) :
    Host.Outcome State Fault Refusal :=
  let y := s.dict.staging
  .next (match y.image with
    | none => s
    | some i =>
      if y.running ≠ 2 ∨ !slotMay s then s
      else if !programOk ∨ s.led.state ≠ 1 then commitFailRead (identityRead identity) 0x85 true s
      else
        let seq := y.sequence
        let s := setSlot y.slot { nandSlot s y.slot with validity := validityPage seq (Image.digest i) }
          (nandDo [.pageProgram, .readStatus] s)
        let s := relearnChanged (confOf s) (Image.conf i) s
        let s := setResult y.slot 0 (setImage i seq ((keySlotOf s i).getD 0) y.slot s)
        let s := netSettle (identityRead identity (dropOverlay s))
        commitEnd 2 3 true (commitNote 2 (Image.digest i) seq s))

/-! ### The parameter commit (R148, R149) -/

/-- The values in force with the staged ones. -/
def stagedConf (s : State) : Conf :=
  { nums := tmerge s.cfg.nums s.dict.staging.nums, strs := tmerge s.cfg.strs s.dict.staging.strs }

/-- Whether a staged number lies within its bound. -/
def stagedOk (s : State) (e : Nat × Nat) : Bool :=
  match declared s (e.1 / 256) (e.1 % 256), groupOf (e.1 / 256) with
  | some b, some g =>
    (match rowOf s g.1 g.2 (e.1 % 256) with
      | some row => withinBound row.ty b (le ((row.ty.size).getD 0) e.2)
      | none => false)
  | _, _ => false

/-- The checks of a parameter commit; then the write of the overlay starts. -/
def beginParam (r : Requester) (s : State) : State :=
  let s := modStaging (fun y => { y with result := 1, running := 3, requester := r.code, image := none }) s
  let sites := ((s.cfg.image).map (·.sites)).getD 0
  if !s.dict.staging.nums.all (stagedOk s) then commitFail 0x86 false s
  else match checkConf (planOf s (stagedConf s) sites) with
    | some b => commitFail 0x86 false (confFault b 0 s)
    | none => if s.led.state ≠ 1 then commitFail 0x85 false s else s

/-- The overlay that a parameter commit writes: the one in force with the staged values, bound and sealed. -/
def newOverlay (s : State) : Overlay :=
  let y := s.dict.staging
  let old : Overlay := match s.cfg.overlay with
    | some o => if o.digest = s.cfg.digest then o else {}
    | none => {}
  let o : Overlay := { nums := tmerge old.nums y.nums, strs := tmerge old.strs y.strs, digest := s.cfg.digest }
  { o with mac := overlaySeal s o }

/-- PARAMETER_COMMIT_COMPLETE (R149). -/
def execParameterCommitComplete (readbackOk : Bool) (s : State) : Host.Outcome State Fault Refusal :=
  .next (if s.dict.staging.running = 3 ∧ paramMay s then
    if !readbackOk then commitFail 0x84 true s
    else if s.led.state ≠ 1 then commitFail 0x85 true s
    else
      let o := newOverlay s
      let s := setValues (stagedConf s) s
      let s := persist { s with cfg := { s.cfg with overlay := some o } }
      commitEnd 2 3 true (commitNote 2 s.cfg.digest s.cfg.sequence (netSettle (identityAgain s)))
  else s)

/-! ### Commit control (0x2110:0A) -/

/-- A write to 0x2110:0A by the session holder. -/
def commitWrite (r : Requester) (v : Nat) (badMemory : Option Nat) (s : State) : Nat × State :=
  if v = 2 then (0, dropStaging s)
  else if s.dict.staging.kind = 0 then (0x08000020, s)
  else if s.dict.staging.kind = 1 then (0, beginCommit r badMemory s)
  else (0, beginParam r s)

end Sys2Proof.Machine
end

