-- ==== Sys2Proof/Machine/Perf.lean ====
section
/-! DEFINITION. Writes to the performance monitors and sampling buffers (R477 to R479, R482). -/

namespace Sys2Proof.Machine

/-- An accepted write to 0x2900 + k (Table PM-4). -/
def perfWrite (k sub v : Nat) (m : SameCycle) (s : State) : State :=
  modPerf k (fun p =>
    if sub = 1 then { p with control := v }
    else if sub < 6 then { p with select := tset 0 p.select (sub - 2) v }
    else if sub < 0xF then
      let p := if m.wrapping then { p with flags := setBit p.flags (sub - 6) true } else p
      if sub < 0xA then { p with events := tset 0 p.events (sub - 6) v }
      else { p with slots := tset 0 p.slots (sub - 0xA) v }
    else { p with flags := m.overflowing % 512 }) s

/-- An accepted write to 0x2910 + k (Table PM-5). A new interval starts anew, with its own jitter where that is on
(R479). -/
def sampleCtlWrite (k sub v : Nat) (s : State) : State :=
  let (n, s) := draw s
  modPerf k (fun p =>
    if sub = 1 then { p with mode := v }
    else if sub = 2 then { p with
      interval := v, toNext := v + (if p.jitter then (Config.freeJitter n).toNat else 0) }
    else if sub = 3 then { p with jitter := decide (v = 1) }
    else { p with samples := [], gen := if p.samples = [] then p.gen else (p.gen + 1) % 65536 }) s

/-- The snapshot of a core's counters, flags and cycles (0x2900 + k:11). -/
def perfSnapshot (p : Perf) : List Byte :=
  (upto 4).flatMap (fun i => le 4 (tget 0 p.events i)) ++ (upto 5).flatMap (fun i => le 4 (tget 0 p.slots i))
    ++ le 4 p.flags ++ le 8 p.cycles

end Sys2Proof.Machine
end

