-- ==== Sys2Proof/Machine/Readout.lean ====
section
/-! DEFINITION. What a read of each object shows (Tables OD-5, OD-7, OD-8, OD-14, OD-17, AR-8, RT-6, SU-7, SU-8, CK-6,
CK-7, FC-9 to FC-11, ST-5, LG-9, NW-8 to NW-11, NW-18, IN-6, OU-11, OU-12, PL-10, DC-6, DC-7, FB-7 and PM-4 to PM-6).
Measured quantities read as the last command brought them. -/

namespace Sys2Proof.Machine

/-- ASCII text. -/
def text (l : List Nat) : List Byte := l.map (BitVec.ofNat 8)

/-- The live status of a site as the end of its last evaluation tick left it (R138, R218). -/
def tickView (s : State) (f : Nat) : State :=
  match s.test.snaps.find? (fun e => decide (e.1 = f)) with
  | some e => { s with field := e.2.field, array := e.2.array, outs := e.2.outs, power := e.2.power, col := e.2.col }
  | none => s

/-- Where an array is under test, its site shows the snapshot of its last commit (R123, R368). -/
def siteView (s : State) (f : Nat) : State := if (fba s f).state ≠ 2 then s else tickView s f

/-- The state that a read of one object shows: of a site's live status and header, as its array permits. -/
def objView (g e : Nat) (s : State) : State :=
  if g = 0x3080 ∨ (0x4000 ≤ g ∧ g < 0x5000) then siteView s (siteOf e) else s

/-- The process image as the last boundary published it (R316). -/
def boundaryView (s : State) : State :=
  let x := s.proc.published
  { s with proc := { s.proc with
    rollbacks := x.rollbacks, takeovers := x.takeovers, handovers := x.handovers, cores := x.cores, parts := x.parts } }

/-- The state that a READ_MULTI of an object shows (R138). -/
def multiView (g e : Nat) (s : State) : State :=
  if 0x4000 ≤ g ∧ g < 0x5000 then tickView s (siteOf e)
  else if 0x5000 ≤ g ∧ g < 0x6000 then boundaryView s
  else objView g e s

/-- The block of R138 in which an object lies; 0 where it lies in none. -/
def blockOf (g e : Nat) : Nat :=
  if 0x4000 ≤ g ∧ g < 0x5000 then 0x4000 + siteOf e
  else if 0x5000 ≤ g ∧ g < 0x6000 then 0x5000
  else if g = 0x2500 ∨ g = 0x2501 then g else 0

/-- The safety configuration in force reads in SAFE, RUN and MAINTENANCE with an image (R213, R241). -/
def confShown (s : State) : Bool := configured s && decide (s.ctl.st ≠ .configure)

/-! ### Device, fuses, sessions -/

/-- 0x1001. -/
def errorRegister (s : State) : Nat :=
  let l := (unclearedRecs s).filter (fun r => decide (1 ≤ r.level))
  let cls := fun (p : Nat → Bool) => l.any (fun r => p (codeClass r.code))
  b2n (decide (l ≠ [])) + 2 * b2n (cls (fun c => decide (c = 3) || decide (c = 4)))
    + 4 * b2n (cls (fun c => decide (c = 0x0B))) + 16 * b2n (cls (fun c => decide (c = 0x0C)))
    + 128 * b2n (cls (fun c => !([3, 4, 0x0B, 0x0C].contains c)))

/-- 0x1003:01 to :20. -/
def errorField (s : State) (n : Nat) : Nat :=
  match (s.col.history[n - 1]?).bind (recOf s.col.records) with
  | some r => r.code * 65536 + 0xFF00 + codeClass r.code
  | none => 0

/-- The digit of the variant: RK-2S, RK-4S, RK-6S or RK-8S has one F die fewer than its number says (R3). -/
def variant (s : State) : Nat := (popSites s).length + 1

/-- 0x2000:02. -/
def securityStatus (s : State) : Nat :=
  b2n (debugOpen s) + 2 * prodState s + 16 * securityFloor s
    + bitsOf (fun k => slotUsable s k && !flagSet (shadowWord s 80) k) 4 * 4096

/-- A region's index by the words of view `n` of R110. -/
def regionAt (n : Nat) : Nat :=
  if n < 2 then 0 else if n < 6 then 1 else if n < 14 then 2 else if n < 22 then 3 else if n < 30 then 4 else 5

/-- 0x2200 + n:0A. -/
def regionStatus (s : State) (n : Nat) : Nat :=
  let k := regionAt n
  let r := regions.getD k default
  let words := (upto (r.last + 1 - r.first)).map (r.first + ·)
  let any := fun x => words.any (fun w => decide ((tget {} s.fuses.shadow w).sense = x))
  b2n (regionLocked s k) + 2 * b2n (crcPresent s r) + 4 * b2n (crcMatches s r)
    + 8 * b2n (regionLocked s k && regionPasses s r) + 16 * b2n (any .marginal) + 32 * b2n (any .corrected)
    + 64 * b2n ((flagWords.filter words.contains).any (fun w => (upto 16).any (flagSplit (shadowWord s w))))

/-- The two status bits of a fuse word. -/
def senseCode : Sense → Nat
  | .accepted => 0
  | .corrected => 1
  | .marginal => 2
  | .uncorrectable => 3

/-- 0x2200 + n. -/
def fuseView (s : State) (n sub : Nat) : Nat :=
  if sub ≤ 8 then
    let w := 8 * n + (sub - 1)
    if (14 ≤ n ∧ n ≤ 21) ∨ !wordAccepted s w ∨ (22 ≤ n ∧ n ≤ 29 ∧ s.fuses.customerBad) then 0 else shadowWord s w
  else if sub = 9 then
    ((upto 8).map (fun i => senseCode (tget {} s.fuses.shadow (8 * n + i)).sense * 4 ^ i)).foldl (· + ·) 0
  else regionStatus s n

/-- 0x2110. The time left in a lockout is rounded up to whole seconds (DESIGN CHOICE, log entry 99). -/
def sessionView (s : State) (sub : Nat) : Nat :=
  let x := s.dict.session
  if sub = 1 then x.state
  else if sub = 6 then x.timeout
  else if sub = 7 then (if x.state = 2 ∨ x.state = 3 then (x.holder.map (·.code)).getD 0xFF else 0xFF)
  else if sub = 9 then stagingStatus s
  else if sub = 0xB then s.dict.staging.result
  else if sub = 0xC then x.failures
  else if sub = 0xD then
    match x.lockout with
    | some e => (e - s.time.opNs + (second - 1)) / second
    | none => 0
  else 0

/-- The security version, length and the other values of the image in force (Table SU-8). -/
def imageView (s : State) (sub : Nat) : Nat :=
  if sub = 0xA then s.cfg.slot else if sub = 0xB then s.cfg.resultA else if sub = 0xC then s.cfg.resultB
  else match s.cfg.image with
    | none => 0
    | some i =>
      if sub = 1 then i.format else if sub = 2 then s.cfg.sequence else if sub = 3 then i.security
      else if sub = 4 then i.sites % 128 else if sub = 5 then i.flags % 8 else if sub = 6 then s.cfg.keySlot
      else if sub = 7 then i.length else 0

/-- A number as an object shows it. -/
def nat (n : Nat) : Option Int := some n

/-- The numbers of Tables OD-5, OD-8, OD-14, OD-17, AR-8, RT-6, SU-7 and SU-8. -/
def devNum (s : State) (g e sub : Nat) : Option Int :=
  if g = 0x1000 then nat 0
  else if g = 0x1001 then nat (errorRegister s)
  else if g = 0x1003 then nat (if sub = 0 then s.col.history.length else errorField s sub)
  else if g = 0x1017 then nat s.dict.heartbeat
  else if g = 0x1018 then nat (if sub = 1 then 0x0A5C else if sub = 2 then 0x8200 + variant s
    else if sub = 3 then Config.revision.toNat else shadowWord s 5)
  else if g = 0x2000 then nat (if sub = 1 then 0x2001 else securityStatus s)
  else if g = 0x2001 ∧ sub < 4 then
    nat (if sub = 1 then s.fuses.caps.getD e 0 else if sub = 2 then 0x0100
      else if e + 1 < s.fuses.caps.length then 0x2002 + e else 0)
  else if g = 0x2100 then nat (if sub = 1 then s.ctl.st.code else (s.ctl.request.map (·.1)).getD 0)
  else if g = 0x2101 then nat (if sub = 1 then s.ctl.transitions else if sub = 2 then s.ctl.lastWord else s.ctl.lastTime)
  else if g = 0x2102 then nat (if sub ≤ 5 then tget 0 s.breach.counts sub else if sub = 6 then s.breach.time else s.breach.rank)
  else if g = 0x2110 then nat (sessionView s sub)
  else if g = 0x2200 then nat (fuseView s e sub)
  else if g = 0x2B18 then
    let h := s.dict.hspi
    nat (if sub = 1 then h.transactions else if sub = 2 then h.executed else if sub = 3 then h.discards
      else if sub = 4 then h.lostCount else h.unknown)
  else if g = 0x3F01 then nat (imageView s sub)
  else none

/-! ### Timebase, monitors, faults, self-test -/

/-- The numbers of Tables CK-6 and CK-7. A switched domain that the device lacks is neither on nor failed. -/
def clockNum (s : State) (g e sub : Nat) : Option Int :=
  let t := s.time
  if g = 0x2300 then
    some (if sub = 1 then (t.dev : Int) else if sub = 2 then t.spring else if sub = 3 then t.source
      else if sub = 5 then clamp (-(2 ^ 31)) (2 ^ 31 - 1) t.offset else if sub = 6 then t.adjust
      else if sub = 0xA then t.steps else if sub = 0xB then opMs s else 0)
  else if g = 0x2301 then
    some (if sub = 4 then ((switch s 0).role + 4 * (switch s 1).role : Nat)
      else if sub = 5 then (if t.source = 1 ∨ t.source = 2 then
        clamp (-(2 ^ 31)) (2 ^ 31 - 1) (switch s (t.source - 1)).pathDelay else 0) else 0)
  else if g = 0x2302 then
    nat (if sub = 4 ∨ sub = 5 then tget 0 t.edges (sub - 4) else if sub = 7 then t.ppsUsable + 4 * t.ppsLost else 0)
  else if g = 0x2400 then
    let p := s.power
    nat (if sub = 1 then p.rails.vddc else if sub = 2 then p.rails.vioc else if sub = 3 then p.rails.vion
      else if sub = 4 then p.rails.vaux else if sub = 5 then p.vhold else b2n p.pfailHigh)
  else if g = 0x2401 then some (if sub = 1 then s.power.clockStatus else if sub = 2 then s.power.pllA else s.power.pllB)
  else if g = 0x2402 then some (tget 0 s.power.temps (if sub = 1 then 7 else sub - 2))
  else if g = 0x2403 then nat (if sub = 1 then bitsOf (domainOn s) 64 else s.power.domainsFailed)
  else if g = 0x2408 then
    let a := tget {} s.power.align e
    some (if sub = 1 then ((tget 0 s.power.vfldL e : Nat) : Int) else if sub = 2 then a.ratio
      else if sub = 3 then a.offset else a.esc)
  else none

/-- The numbers of Tables FC-9 to FC-11. -/
def faultNum (s : State) (g e sub : Nat) : Option Int :=
  let c := s.col
  if g = 0x2500 then nat (if sub = 2 then c.since else b2n c.first.isSome)
  else if g = 0x2502 then nat c.lastAck
  else if g = 0x2600 then
    nat (if sub = 1 then unclearedCount s else if sub = 2 then highestLevel s else if sub = 3 then c.next
      else if sub = 4 then c.total
      else if sub = 5 then ((unclearedRecs s).filter (fun r => !c.history.contains r.seq)).length
      else if sub = 6 then c.highest else if sub = 7 then c.rounds else c.misses)
  else if g = 0x2601 then
    let l := (unclearedRecs s).filter (fun r => decide (codeClass r.code = e))
    let x := tget {} c.classes e
    nat (if sub = 4 then x.counter else if sub = 5 then (windowOf s e).length else if sub = 6 then l.length
      else if sub = 7 then (l.filter (·.permanent)).length else if sub = 8 then x.last else 0)
  else if g = 0x2700 then
    nat (if sub = 1 then c.checker else if sub = 2 then c.mode else if sub = 3 then c.count else if sub = 5 then c.result
      else if sub = 6 then c.made else if sub = 7 then c.seen else 0)
  else none

/-- The numbers of Table ST-5. -/
def testNum (s : State) (g e sub : Nat) : Option Int :=
  let x := s.test
  let els := (popSites s).flatMap siteElems
  if g = 0x2802 then
    nat (if sub = 1 then x.passed else if sub = 2 then x.failed else if sub = 3 then x.abandoned
      else if sub = 4 then bitsOf (fun n => decide ((item s n).state = 2)) 12
      else if sub = 5 then bitsOf (fun n => decide ((item s n).state = 1)) 12 else x.step)
  else if g = 0x2803 then
    nat ((els.filter (fun el => if sub = 1 then faultActive s 0x0E18 el else (elem s el).calBad)).length)
  else if g = 0x2804 then
    let i := item s e
    nat (if sub = 1 then i.state else if sub = 2 then i.result else if sub = 3 then i.passed
      else if sub = 4 then min 172800 (itemAge s e / second) else if sub = 5 then (if e = 11 then 0 else i.signature)
      else if sub = 6 then i.patterns else if sub = 7 then i.duration else if sub = 8 then i.seed else i.passes)
  else none

/-! ### Performance monitors and the Ledger -/

/-- The numbers of Tables PM-4 to PM-6. -/
def perfNum (s : State) (g e sub : Nat) : Option Int :=
  let p := (core (settleIdle s) e).perf
  if g = 0x2900 then
    nat (if sub = 1 then p.control else if sub < 6 then tget 0 p.select (sub - 2)
      else if sub < 0xA then tget 0 p.events (sub - 6) else if sub < 0xF then tget 0 p.slots (sub - 0xA)
      else if sub = 0xF then p.flags else p.cycles)
  else if g = 0x2910 then
    nat (if sub = 1 then p.mode else if sub = 2 then p.interval else if sub = 3 then b2n p.jitter
      else if sub = 4 then p.samples.length else if sub = 5 then p.discarded else if sub = 6 then p.lost else 0)
  else if g = 0x2920 then
    if sub = 2 then nat (bitsOf (fun k => (part s k).wcetBad) 3)
    else if sub = 3 then nat s.proc.statsReset
    else
      let k := sub / 16 - 1
      let q := part s k
      let x := sub % 16
      nat (if x = 0 then q.measured else if x = 1 then q.shortest else if x = 2 then q.longest
        else if x = 3 then q.longestRb else if x = 4 then meanOf q.recent
        else if x = 5 then (partOf (confOf s) k).wcet else if x = 6 then q.withRb else q.longestCycle)
  else none

/-- The numbers of Table LG-9. The part's values read 0 until a part is in use. -/
def ledNum (s : State) (g e sub : Nat) : Option Int :=
  let l := s.led
  let used := decide (l.fill ≠ 0)
  if g = 0x2A00 then
    nat (if sub = 1 then l.state else if sub = 2 then l.result
      else if sub = 3 then (l.ring.head?.map (·.seq)).getD 0 else if sub = 4 then (l.ring.getLast?.map (·.seq)).getD 0
      else if sub = 5 then l.stored else if sub = 6 then l.dropped else if sub = 7 then l.summarised
      else if sub = 8 then l.anchor - 1 else if sub = 9 then l.segment else if sub = 0xA then l.fill else b2n l.holdup)
  else if g = 0x2A01 then
    let m := l.part
    nat (if !used then 0 else if sub = 1 then m.onfi else if sub = 3 then m.pageSize else if sub = 4 then m.spare
      else if sub = 5 then m.pagesPerBlk else if sub = 6 then m.blocks0 else if sub = 7 then m.blocks1
      else if sub = 8 then m.timingMode else if sub = 9 then m.tProg else if sub = 0xA then m.tBers
      else if sub = 0xB then ringBlocks s else if sub = 0xC then l.tables.pinBlocks else l.tables.spares)
  else if g = 0x2A02 then
    let n := l.tables.erases.map (·.2)
    nat (if sub = 1 then l.tables.factory.length else if sub = 2 then l.tables.grown.length
      else if sub = 3 then n.foldl max 0
      else if sub = 4 then n.foldl (· + ·) 0 / max 1 (goodBlocks s) else if sub = 5 then l.tables.scrubDays
      else if sub = 6 then l.scrubTime else if sub = 7 then l.worst else if sub = 8 then l.rewritten else l.uncorrectable)
  else if g = 0x2A04 then nat 0
  else if g = 0x2A08 then nat (if sub = 1 then l.readPage else l.pageStatus)
  else if g = 0x2A09 then nat (if sub = 1 then l.readPin else if sub = 2 then l.pinIndex else l.pinStatus)
  else if g = 0x2A0C then
    nat (if sub = 1 then l.pinTime else if sub = 2 then l.pinBefore else if sub = 3 then l.pinAfter
      else if sub = 5 then l.pinResult else if sub = 6 then l.lastPin else if sub = 8 then pinRoom s else 0)
  else if g = 0x2A10 then
    let p := tget {} l.pins e
    nat (if sub = 1 then p.state else if sub = 2 then p.start else if sub = 3 then p.stop
      else if sub = 4 then p.first else if sub = 5 then p.pages.length else p.time)
  else none

/-! ### Networks -/

/-- The pairing state of Table NW-10. -/
def pairingState (s : State) : Nat :=
  match pairingConn s with
  | none => 0
  | some k => if connFaulty s k then 3 else if (conn s k).state = 2 then 2 else 1

/-- The numbers of Tables NW-8 to NW-11, NW-18, OD-7 and PM-4a. -/
def netNum (s : State) (g e sub : Nat) : Option Int :=
  let c := confOf s
  let n := s.net
  let cap := s.fuses.caps.getD e 0
  if g = 0x2B00 then
    let p := ethPort s e
    nat (if sub = 4 then (if portEnabled s e then b2n p.up + 2 * p.speed + 8 * b2n p.half else 0) else if sub = 5 then p.rx else if sub = 6 then p.tx
      else if sub = 7 then p.dropped else if sub = 8 then p.queueDrops else p.kdpDiscards)
  else if g = 0x2B10 then
    let p := canPort s e
    nat (if sub = 5 then p.bus else if sub = 6 then p.tec * 256 + min 255 p.recv else if sub = 7 then p.offs
      else if sub = 8 then p.rx else if sub = 9 then p.tx else p.nmt)
  else if g = 0x2B20 then
    let l := link s e
    nat (if sub = 4 then (if linkOn s e then l.state else 0) else if sub = 5 then l.peer else if sub = 6 then l.rx else if sub = 7 then l.tx
      else if sub = 8 then l.violations else if sub = 9 then l.interrupted else l.discarded)
  else if g = 0x2B30 then
    let x := spi s e
    nat (if sub = 6 then x.done else if sub = 7 then x.abandoned else x.start)
  else if g = 0x2B38 then
    let u := uart s e
    nat (if sub = 4 then u.start else if sub = 5 then u.frames else if sub = 6 then uartNext s e else if sub = 7 then u.gaps
      else b2n u.held)
  else if g = 0x2B40 then some (if sub = 0xE then (n.i2cFails : Int) else (sensor s (sub - 0xA)).value)
  else if g = 0x2B41 then nat n.identityResult
  else if g = 0x2C00 then
    let x := conn s e
    nat (if sub = 0xF then (if connDir c e = 0 then 0 else connIdent c s.fuses.caps e)
      else if sub = 0x10 then connShown s e else if sub = 0x11 then x.last else if sub = 0x12 then x.stamp
      else if sub = 0x13 then x.accepted else if sub = 0x14 then x.telegrams else if sub = 0x15 then x.crc
      else if sub = 0x16 then x.mac else if sub = 0x17 then x.repeats else if sub = 0x18 then x.aged else x.misses)
  else if g ≠ 0x2001 then none
  else if cap = 1 then nat (if sub = 4 then popMask s else imageView s 4)
  else if cap = 3 then nat (if sub = 6 then (usedConns c).length else if sub = 7 then n.unknownId else n.formatCrc)
  else if cap = 4 then nat (if sub = 7 then redundancy s 0 + 4 * redundancy s 1 else (switch s (sub - 8)).dupCount)
  else if cap = 7 then nat (if sub = 4 then 4 else 256)
  else if cap = 0xA then nat (if sub = 4 then ((usedConns c).filter (connMac c)).length else n.macFails)
  else if cap = 0xB then nat (if sub = 8 then pairingState s else if sub = 9 then n.pairing.lastInput
    else if sub = 0xA then n.pairing.first else n.pairing.second)
  else none

/-! ### Sites, pairs and the process image -/

/-- Whether an element has an active fault of Table OU-6. -/
def elemFaulty (s : State) (el : Nat) : Bool :=
  (actives s).any (fun a => (decide (a.source = el) || decide (a.second = el))
    && (decide (codeClass a.code = 3) || decide (codeClass a.code = 4)))

/-- The status of an output: B+0x50 + q:01. -/
def outputStatus (s : State) (el : Nat) : Nat :=
  if !elUsed s el then 0 else if (elem s el).test = 1 then 5 else if (elem s el).test = 2 then 6
  else if heldA s el || heldB s el then 3 else if !supplied s el then 4 else if elOn s el then 2 else 1

/-- The status of a return: B+0x60 + k:01. -/
def returnStatus (s : State) (el : Nat) : Nat :=
  if !elUsed s el then 0 else if (elem s el).test = 1 then 5 else if heldA s el || heldB s el then 3 else if elOn s el then 2 else 1

/-- Whether the coil current has reached the pull-in setting in the pull-in under way (R273): as the samples of its decision
show it, else not in the tick in which the pull-in starts, and at an unknown time after it. -/
def pulledIn (s : State) (el : Nat) : Bool :=
  (brake s el).reached || match brakeSlot s el with
    | some n => decide ((blk s (siteOf el) n).t0 < 10 * (fba s (siteOf el)).lastTick + 10)
        && decide (Config.freeReading s.draws (0x10000 + el) % 2 = 1)
    | none => false

/-- The duty of the high side of a brake, in 0.1 %: 0 when off, 100 % in PULL_IN until the coil current has reached the
pull-in setting, else within 30 % and 100 % (R273). -/
def brakeDuty (s : State) (el : Nat) : Nat :=
  let open_ := decide ((elem s el).test = 1) && decide ((elem s el).sw = 0)
  if !driveB s el || open_ then 0
  else if brakeCode s el = 1 ∧ !pulledIn s el then 1000
  else if brakeCode s el = 1 ∨ brakeCode s el = 2 then 300 + Config.freeReading s.draws el % 701 else 0

/-- The snapshot time of a site: the end of its last evaluation tick (R183, R218); 0 before the first. -/
def snapTime (s : State) (f : Nat) : Nat := (fba s f).lastAt

/-- The numbers of Tables IN-6 and OU-11 of a site. The field-side voltage stops at the end of its range (DESIGN CHOICE,
log entry 78). -/
def liveNum (s : State) (g e sub : Nat) : Option Int :=
  let f := siteOf e
  let elems := fun (p : Nat → Bool) => bitsOf (fun b => ((siteElems f)[b]?).any p) 26
  if g = 0x4000 then
    let ins := fun (p : Nat → Bool) => bitsOf (fun i => p (elemAt f i)) 32
    nat (if sub = 1 then ins (fun i => (laneIn s .b i).on) else if sub = 2 then ins (fun i => (laneIn s .a i).on)
      else if sub = 3 then ins (fun i => (laneIn s .b i).raw) else if sub = 4 then ins (inputTable3 s)
      else snapTime s f)
  else if g = 0x4001 then
    let q := siteIn s f
    nat (if sub = 1 then q.events.headD 0 else if sub = 2 then q.events.length else q.lost)
  else if g = 0x4010 then
    let x := input s e
    nat (if sub = 1 then x.b.edge else if sub = 2 then x.b.change else if sub = 3 then b2n x.b.on + 2 * b2n x.b.inside
      else if sub = 4 then min 4400 (fieldSide x / 10) else if sub = 5 then x.land else if sub = 6 then x.sink else x.changes)
  else if g = 0x4030 then
    let x := source s e
    nat (if sub = 1 then x.status else if sub = 2 then x.tau else if sub = 3 then x.width else if sub = 4 then x.ma
      else if sub = 5 then x.mv else if sub = 6 then x.startAt else x.pulses)
  else if g = 0x4040 then
    let v := fun k => supply s (elemAt f (0x70 + k))
    nat (if sub = 1 then (fba s f).demands else if sub = 2 then (island s f).word
      else if sub = 3 then elems (fun el => decide (20 < (if isBrake el then (brake s el).ma else (elem s el).ma)))
      else if sub = 4 then elems (elemFaulty s) else if sub < 8 then (v (sub - 5)).mv
      else if sub < 0xA then (tget [] s.outs.sums (groupKey f (sub - 8))).headD 0
      else if sub = 0xA then (v 0).status + 4 * (v 1).status + 16 * (v 2).status else snapTime s f)
  else if g = 0x4050 then
    let x := elem s e
    some (if sub = 1 then (outputStatus s e : Int) else if sub = 2 then x.ma else if sub = 3 then x.land
      else if sub = 4 then x.lastTest else if sub = 5 then x.lastTestTime else if sub = 6 then x.tests
      else (elem s (setLow (confOf s) e)).next)
  else if g = 0x4060 then
    let x := elem s e
    some (if sub = 1 then (returnStatus s e : Int) else if sub = 2 then x.ma else if sub = 3 then x.land
      else if sub = 4 then x.lastTest else x.lastTestTime)
  else if g = 0x4070 then
    let x := brake s e
    nat (if sub = 1 then brakeCode s e + 16 * ((brakeSlot s e).map (fun n => (blk s f n).phase)).getD 0
      else if sub = 2 then x.ma else if sub = 3 then brakeDuty s e else if sub = 4 then x.dip
      else if sub = 5 then x.check else if sub = 6 then x.mech else x.mechTime)
  else none

/-- The state code of a lane: of a one-channel reset whether it is pressed (Table DC-7 :0A). -/
def stateShown (s : State) (l : Lane) (e : Nat) : Nat :=
  let x := laneShown s l e
  if oneReset s e ∧ x.code ≠ 0xF then (if x.pressed then 2 else 0) else x.code

/-- The numbers of Tables DC-6, DC-7 and FB-7. -/
def safetyNum (s : State) (g e sub : Nat) : Option Int :=
  let c := confOf s
  let on := confShown s
  if g = 0x3E00 then nat (if configured s then (usedEntries c).length else 0)
  else if g = 0x3E01 then
    let p := pair s e
    some (if !on then (if sub = 0xA then 0xFF else 0)
      else if sub = 0xA then ((stateShown s .b e + 16 * stateShown s .a e : Nat) : Int)
      else if sub = 0xB then
        let b := laneShown s .b e
        let a := laneShown s .a e
        ((b2n (decide (b.code = 2)) + 2 * b2n b.release + 4 * b2n (decide (a.code = 2)) + 8 * b2n a.release
          + 16 * b2n (awaits s e) + 32 * b2n p.stuck + 64 * b2n (a.latch || b.latch)
          + 128 * b2n b.closed + 256 * b2n a.closed : Nat) : Int)
      else if sub = 0xC then p.diff
      else if sub = 0xD then ((if s.time.now < p.lastMark then p.lastWas else p.last : Nat) : Int) else (max p.a.count p.b.count : Nat))
  else if g = 0x3080 then
    let f := siteOf e
    let a := fba s f
    nat (if !on then 0 else if sub = 1 then (netlist c f).length else if sub = 2 then num (netlistBytes c f) 8 4
      else if sub = 3 then a.state else if sub = 4 then a.ticks else if sub = 5 then a.railFaults
      else if sub = 6 then a.corrected else if sub = 7 then a.published else if sub = 9 then a.differ
      else (siteEntries c f).length)
  else none

/-- The role code of Table PL-10. -/
def Role.code : Role → Nat
  | .active => 0
  | .standby => 1
  | .underTest => 2
  | .removed => 3
  | .halted => 4

/-- The TCM set that a core's status shows: TS3 is attached to the core that stands by (R287). -/
def setShown (s : State) (k : Nat) : Nat := if freeStandby s = some k then 3 else (core s k).set

/-- The numbers of Tables OU-12 and PL-10. -/
def imageNum (s : State) (g e sub : Nat) : Option Int :=
  let p := s.proc
  if 0x5000 ≤ g ∧ g < 0x5400 ∧ !configured s then nat 0
  else if g = 0x5000 then
    nat (if sub = 1 then safetyCycle (confOf s) else if sub = 2 then p.cycle else if sub = 3 then p.boundaryAt
      else if sub = 4 then p.rollbacks else if sub = 5 then p.takeovers else p.handovers)
  else if g = 0x5001 then
    let k := core s ((sub - 1) % 4)
    nat (if sub ≤ 4 then k.role.code + 16 * k.part + 256 * setShown s ((sub - 1) % 4) else k.rollbacks)
  else if g = 0x5002 then
    let q := part s (sub - 1)
    nat ((coreOfPart s (sub - 1)).getD 0xF + 16 * b2n q.served + 32 * b2n q.confirmed)
  else if g = 0x5010 then
    nat (if sub = 1 then tget 0 p.capturedA e else if sub = 2 then tget 0 p.capturedF e else p.boundaryAt)
  else if g = 0x5020 then nat (if sub = 1 then tget 0 s.outs.publishedA e else tget 0 s.outs.publishTime e)
  else if g = 0x5200 then nat ((rdByte p.image (0x1000 + 0x48 * e + 64)).toNat)
  else if g = 0x6000 then
    let l := learn s e
    let run := if (elem s e).on then s.time.opNs - (elem s e).since else 0
    nat (if sub = 1 then l.ons else if sub = 2 then min 0xFFFFFFFF ((l.onTime + run) / second)
      else if sub = 3 then l.count else if sub = 4 then l.learned else if sub = 5 then l.n
      else if sub = 6 then meanOf l.last16 else if sub = 7 then l.last16.headD 0 else if sub = 8 then l.drift else 0)
  else if g = 0x6010 then
    let l := brakeLearn s e
    nat (if sub = 1 then l.pullIns else if sub = 2 then l.base else if sub = 3 then l.n else if sub = 4 then l.initial
      else if sub = 5 then l.sigFails else if sub = 6 then l.passed else if sub = 7 then l.failed
      else if sub = 8 then min 0xFFFFFFFF ((s.time.opNs - l.lastPass) / second) else 0)
  else if g = 0x6800 then
    nat (if pairKind (confOf s) e ≠ 4 then 0 else if sub = 1 then (pair s e).cycles else (pair s e).egress)
  else none

/-! ### Every object -/

/-- A configured value: the one in force, or the default of its table; a PHY address defaults to the port's place in
its switch. -/
def confNum (c : Conf) (idx sub : Nat) (row : Row) : Nat :=
  row.rng.shown (cnum c idx sub (if row.grp = 0x2B00 ∧ sub = 2 then (idx - 0x2B00) % 4
    else twos ((row.ty.size).getD 0) row.dflt))

/-- A configured string, or its default: zeros of the fixed length, or all ones for the paired input map. -/
def confStr (c : Conf) (idx sub : Nat) (row : Row) : List Byte :=
  cstr c idx sub (match row.ty with
    | .octets _ m => List.replicate m (if m = 496 then 0xFF else 0)
    | .text _ | .dom _ | .bool | .unsigned _ | .signed _ => [])

/-- The number that an object shows. -/
def objNum (s : State) (g e sub : Nat) (row : Row) : Int :=
  if sub = 0 ∧ g ≠ 0x1000 ∧ g ≠ 0x1001 ∧ g ≠ 0x1003 ∧ g ≠ 0x1017 then row.dflt
  else if g < 0x2300 ∧ (g ≠ 0x2001 ∨ sub < 4) then (devNum s g e sub).getD 0
  else if 0x2300 ≤ g ∧ g < 0x2500 then (clockNum s g e sub).getD 0
  else if 0x2500 ≤ g ∧ g < 0x2800 then (faultNum s g e sub).getD 0
  else if 0x2800 ≤ g ∧ g < 0x2900 then (testNum s g e sub).getD 0
  else if 0x2900 ≤ g ∧ g < 0x2A00 then (perfNum s g e sub).getD 0
  else if 0x2A00 ≤ g ∧ g < 0x2B00 then (ledNum s g e sub).getD 0
  else if g = 0x2B18 ∨ g = 0x3F01 then (devNum s g e sub).getD 0
  else if g < 0x3000 then (netNum s g e sub).getD 0
  else if g = 0x3080 then (safetyNum s g e sub).getD 0
  else if g < 0x4000 then (safetyNum s g e sub).getD 0
  else if g < 0x5000 then (liveNum s g e sub).getD 0
  else (imageNum s g e sub).getD 0

/-- A pull-in waveform: the header and the samples (Table OU-11). -/
def waveBytes (x : BrakeSt) : List Byte :=
  if x.wave = [] then [] else le 8 x.waveTime ++ le 2 x.wave.length ++ zeros 2 ++ x.wave.flatMap (le 2)

/-- The 256 bytes of the slot outputs. -/
def outputBytes (a : Fba) : List Byte :=
  (upto 256).map (fun b => BitVec.ofNat 8 (tget 0 a.outs (2 * b) + 16 * tget 0 a.outs (2 * b + 1)))

/-- The bytes that a string or DOMAIN object shows. The die identity gives word 0 first, and each word most significant
byte first (DESIGN CHOICE, log entry 68). -/
def objStr (s : State) (g e sub : Nat) : List Byte :=
  let p := s.proc
  if g = 0x1008 then text [0x52, 0x65, 0x6E, 0x6B, 0x61, 0x6E, 0x20, 0x52, 0x4B, 0x2D, 0x30 + variant s, 0x53]
  else if g = 0x1009 then Config.hardwareVersion.take 16
  else if g = 0x100A then Config.softwareVersion.take 16
  else if g = 0x2001 then (upto 8).flatMap (fun w => be 4 (dieWord s (sub - 6) w))
  else if g = 0x2110 then padTo 16 (if s.dict.session.state = 1 then s.dict.session.deviceNonce else [])
  else if g = 0x2301 then
    (if s.time.source = 1 ∨ s.time.source = 2 then le 8 (Config.freeReading s.draws 0x2301 % 2 ^ 64) else zeros 8)
  else if g = 0x2500 ∨ g = 0x2501 then ((shownRec s g sub).map Record.bytes).getD (zeros 32)
  else if g = 0x2900 then perfSnapshot (core (settleIdle s) e).perf
  else if g = 0x2910 then (core s e).perf.samples.flatten
  else if g = 0x2A01 then (if s.led.fill = 0 then [] else s.led.part.name.take 32)
  else if g = 0x2A08 then s.led.pageData
  else if g = 0x2A09 then s.led.pinData
  else if g = 0x2B00 then be 6 (stationMac s (e / 4))
  else if g = 0x2B30 then padTo 64 (spi s e).last
  else if g = 0x2B41 then padTo 128 s.net.identity
  else if g = 0x3080 then
    (if confShown s then outputBytes (fba s (siteOf e)) else zeros 256)
  else if g = 0x3F01 then
    (match s.cfg.image with
      | some i => if sub = 8 then padTo 32 s.cfg.digest else i.build.take 32
      | none => if sub = 8 then zeros 32 else [])
  else if g = 0x4078 then waveBytes (brake s e)
  else if g = 0x5003 then
    (upto 128).map (fun b => BitVec.ofNat 8 (if configured s then tget 0 p.pairImage b else 0))
  else if g = 0x5200 then
    (if !configured s then []
    else if sub = 1 then
      let a := 0x1000 + 0x48 * e
      rdBytes p.image a (rdByte p.image (a + 65)).toNat
    else (conn s e).sent)
  else []

/-- The bytes that an object shows: for an object of the configuration the value of `c`, else the present content. -/
def objBytes (s : State) (c : Conf) (idx g e sub : Nat) (row : Row) : List Byte :=
  match row.ty.size with
  | some n => le n (if row.acc = .srw then confNum c idx sub row else twos n (objNum s g e sub row))
  | none => if row.acc = .srw then confStr c idx sub row else objStr s g e sub

end Sys2Proof.Machine
end

