-- ==== Sys2Proof/Machine/Startup.lean ====
section
/-! DEFINITION. Reset, startup and the JTAG fuse instruction (R43, R61 to R63, R82 to R103, R107 to R109, R126, R366,
R372, R423, R448). -/

namespace Sys2Proof.Machine

/-! ### What a reset leaves (R62, R84; log entry 43) -/

/-- Change every value of a table, leaving out those that become the default. -/
def tmapv {α β : Type} [DecidableEq β] (d : β) (f : α → β) (t : Table α) : Table β :=
  t.filterMap (fun p => if f p.2 = d then none else some (p.1, f p.2))

/-- The NAND part keeps what it holds. A pin whose copy was abandoned is pending (R447). -/
def nandKept (l : Ledger) : Ledger :=
  { ring := l.ring, nextPage := l.nextPage, segment := l.segment, nextRec := l.nextRec, anchor := l.anchor
    hash := l.hash, block := l.block, blockPages := l.blockPages, control := l.control, slotA := l.slotA
    slotB := l.slotB, backup := l.backup, older := l.older, delta := l.delta, paramPages := l.paramPages
    pins := l.pins.map (fun p => (p.1, if p.2.state = 2 then { p.2 with state := 1 } else p.2))
    pinBlock := l.pinBlock, pinPages := l.pinPages, flushed := l.flushed, flushCode := l.flushCode, torn := l.torn }

/-- After a loss of the supplies: the fuses and the NAND part alone keep their contents. The commands that wait and
the count of free values are the model's. -/
def coldState (s : State) : State :=
  { pending := s.pending, draws := s.draws
    fuses := { array := s.fuses.array, dies := s.fuses.dies }
    led := nandKept s.led }

/-- The test counts and times of an output that a reset keeps. -/
def OutSt.kept (x : OutSt) : OutSt := { tests := x.tests, lastTest := x.lastTest, lastTestTime := x.lastTestTime }

/-- The counters of a port that run since power-up. -/
def EthPort.kept (x : EthPort) : EthPort :=
  { rx := x.rx, tx := x.tx, dropped := x.dropped, queueDrops := x.queueDrops, kdpDiscards := x.kdpDiscards }

/-- After a reset by RESET_N: what the manual counts since power-up goes on. -/
def warmState (s : State) : State :=
  { coldState s with
    ctl := {
      transitions := s.ctl.transitions, lastWord := s.ctl.lastWord, lastTime := s.ctl.lastTime
      resetLatch := s.ctl.resetLatch, released := s.ctl.released }
    dict := {
      session := { failures := s.dict.session.failures }
      hspi := {
        transactions := s.dict.hspi.transactions, executed := s.dict.hspi.executed
        discards := s.dict.hspi.discards, lostCount := s.dict.hspi.lostCount, unknown := s.dict.hspi.unknown } }
    field := {
      inputs := tmapv {} (fun x => { changes := x.changes }) s.field.inputs
      sources := tmapv {} (fun x => { pulses := x.pulses }) s.field.sources
      sites := tmapv {} (fun x => { lost := x.lost }) s.field.sites }
    array := {
      fba := tmapv {} (fun x => {
        ticks := x.ticks, railFaults := x.railFaults, corrected := x.corrected }) s.array.fba }
    outs := {
      elems := tmapv {} OutSt.kept s.outs.elems
      brakes := tmapv {} (fun x => {
        mech := x.mech, mechTime := x.mechTime, o := OutSt.kept x.o }) s.outs.brakes }
    proc := {
      cores := tmapv {} (fun x => { rollbacks := x.rollbacks }) s.proc.cores
      rollbacks := s.proc.rollbacks, takeovers := s.proc.takeovers, handovers := s.proc.handovers }
    col := { total := s.col.total, highest := s.col.highest, misses := s.col.misses }
    test := {
      passed := s.test.passed, failed := s.test.failed, abandoned := s.test.abandoned
      items := tmapv {} (fun x => { passes := x.passes }) s.test.items }
    net := {
      ports := tmapv {} EthPort.kept s.net.ports
      spis := tmapv {} (fun x => { done := x.done }) s.net.spis
      uarts := tmapv {} (fun x => { frames := x.frames }) s.net.uarts
      i2cFails := s.net.i2cFails }
    led := { nandKept s.led with stored := s.led.stored }
    time := { steps := s.time.steps } }

/-! ### RESET (R62, R82 to R84) -/

/-- POWER_UP (R62): the supplies have settled. In any state but a RESET that waits for them, they had been lost. -/
def execPowerUp (s : State) : Host.Outcome State Fault Refusal :=
  .next (if s.ctl.st = .reset ∧ !s.ctl.released then { s with ctl := { s.ctl with released := true } }
  else
    let s := coldState (if s.led.state = 2 then dropFlush s else s)
    { s with ctl := { s.ctl with released := true } })

/-- Whether VDD_C, VIO_C and VAUX lie within their operating ranges (R60, Table PK-5). -/
def railsOk (x : Rails) : Bool :=
  decide (855 ≤ x.vddc) && decide (x.vddc ≤ 945) && decide (3135 ≤ x.vioc) && decide (x.vioc ≤ 3465)
    && decide (3135 ≤ x.vaux) && decide (x.vaux ≤ 3465)

/-- A brake whose mechanical test a reset cuts short has the abandoned result (R278). -/
def cutMech (s : State) : State :=
  (popSites s).foldl (fun a f => (siteBrakes f).foldl (fun b el =>
    match brakeSlot b el with
    | some n => if (blk b f n).phase ≠ 0 then modBrake el (fun x => { x with mech := 3, mechTime := b.time.dev }) b else b
    | none => b) a) s

/-- RESET_N_FALL (R82): every switch opens, the Curfew pattern and the cores stop, the request and the session end and
the Ledger flushes. -/
def execResetNFall (s : State) : Host.Outcome State Fault Refusal :=
  .next (match s.ctl.st with
    | .reset => { s with ctl := { s.ctl with resetNLow := true } }
    | _ =>
      let s := cutMech (endInjection (abandonAll s))
      let x := s.dict.session
      let s := if x.state = 2 ∨ x.state = 3
        then sessionNote 2 x.kind ((x.holder.map (·.code)).getD 0) s else s
      let s := modStaging (fun y => { y.drop with running := 0, image := none, closing := false })
        (modSession Session.clear s)
      let s := moveTo .reset Config.resetCause.toNat 0 s
      let s := { s with
        ctl := { s.ctl with
          boot := 0xF, step := .none, hold := false, resetNLow := true, resetLatch := s.ctl.released }
        col := { s.col with curfew := popMask s }
        proc := { s.proc with
          running := false
          cores := (upto 4).foldl (fun t k => tmod {} t k (fun c => { c with role := .halted })) s.proc.cores } }
      flushStart 0 (settleAll s))

/-- RESET_EXIT (R61, R77, R83): RESET_N is high and the flush has ended. -/
def execResetExit (nvsel33 : Bool) (s : State) : Host.Outcome State Fault Refusal :=
  let s := { s with ctl := { s.ctl with resetNLow := false } }
  .next (if s.ctl.st = .reset ∧ s.ctl.released ∧ s.led.state ≠ 2 then
    let s := moveTo .fuseSense 1 0 (warmState s)
    { s with
      ctl := { s.ctl with boot := 1, step := .fuseSense, nvsel33 := nvsel33 }
      power := { s.power with charging := true } }
  else s)

/-! ### FUSE_SENSE (R90 to R97, R102, R112) -/

/-- The shadow registers after sensing: each word of the array as it is sensed (R94). -/
def sensedWords (s : State) (found : List FuseDrift) : Table FuseWord :=
  (upto 256).foldl (fun t i =>
    tset {} t i ((foundAt found i (tget {} s.fuses.array i)).sensed (flagWords.contains i))) []

/-- Whether a word belongs to a critical region (Table SU-3). -/
def critical (i : Nat) : Bool := decide (i < 176) || (decide (240 ≤ i) && !(decide (243 ≤ i) && decide (i ≤ 247)))

/-- The words whose sensing had an outcome. -/
def sensedAs (s : State) (x : Sense) : List Nat :=
  (upto 256).filter (fun i => decide ((tget {} s.fuses.shadow i).sense = x))

/-- A locked region that R96 or R97 does not let pass. -/
def lockBad (s : State) : Bool :=
  ([0, 1, 2, 3, 5].any (fun k => regionLocked s k && !regionPasses s (regions.getD k default)))
    || (decide (2 ≤ prodState s) && !([0, 1, 3].all (regionLocked s)))

/-- The BOOT_ST code of a fuse hold, 0 for none (R89). -/
def fuseHold (s : State) : Nat :=
  if (sensedAs s .marginal).any critical then 2
  else if (sensedAs s .uncorrectable).any critical then 3
  else if lockBad s then (if sensedAs s .uncorrectable = [] then 4 else 3) else 0

/-- The first dual-rail word with a disagreeing pair. -/
def splitWords (s : State) : List Nat := flagWords.filter (fun w => (upto 16).any (flagSplit (shadowWord s w)))

/-- The fuse conditions that the collector records as STARTUP_TEST begins. -/
def fuseFaults (s : State) : State :=
  let s := (sensedAs s .corrected).foldl (fun a _ => fuseOnce 0x0901 a) s
  let bad := (sensedAs s .marginal ++ sensedAs s .uncorrectable).filter (fun w => decide (176 ≤ w) && decide (w < 240))
  let s := bad.foldl (fun a _ => fuseLasting 0x0902 a) s
  let s := if s.fuses.customerBad then fuseLasting 0x0903 s else s
  let s := (splitWords s).foldl (fun a _ => fuseLasting 0x0904 a) s
  let s := keysOpen s
  if debugOpen s then fuseLasting 0x0906 s else s

/-- FUSE_SENSE_COMPLETE (R94 to R97). -/
def execFuseSenseComplete (found : List FuseDrift) (s : State) : Host.Outcome State Fault Refusal :=
  .next (if s.ctl.st = .fuseSense ∧ s.ctl.step = .fuseSense then
    let s := { s with fuses := { s.fuses with shadow := sensedWords s found } }
    let s := { s with fuses := { s.fuses with
      customerBad := regionLocked s 4 && !regionPasses s (regions.getD 4 default) } }
    if fuseHold s ≠ 0 then holdAt (fuseHold s) s
    else
      let s := moveTo .startupTest 1 0 s
      cansStart (fuseFaults { s with ctl := { s.ctl with boot := 0, step := .inventory } })
  else s)

/-! ### STARTUP_TEST (R43, R63, R103, R126, R366, R372) -/

/-- Whether an answer comes from a populated site with its logic supplied, an accepted fuse block and an accepted
product code (R63, R103). -/
def answerOk (s : State) (a : SiteAnswer) : Bool :=
  populated s a.site && dieBlockOk s a.drift a.site && a.productOk && decide (12000 ≤ a.vfldL)

/-- Whether the inventory matches the fuses: every populated site answers well, and no other does. -/
def inventoryOk (s : State) (l : List SiteAnswer) : Bool :=
  (popSites s).all (fun f => l.any (fun a => decide (a.site = f) && answerOk s a)) && l.all (answerOk s)

/-- F_DIE_INVENTORY_COMPLETE (R63, R103): the escapement of each site takes its first challenge (R36). -/
def execFDieInventoryComplete (pllsOk : Bool) (l : List SiteAnswer) (s : State) : Host.Outcome State Fault Refusal :=
  .next (if s.ctl.st = .startupTest ∧ s.ctl.step = .inventory then
    if !pllsOk then holdAt 0xB s
    else if !inventoryOk s l then holdAt 0x5 s
    else
      let s := l.foldl (fun a x => modPower (fun p => { p with vfldL := tset 0 p.vfldL x.site (min x.vfldL 45000) }) a) s
      let s := (popSites s).foldl (fun a f => modFba f (fun x => { x with challenge := firstChallenge a f }) a) s
      { s with ctl := { s.ctl with step := .logicBist } }
  else s)

/-- The supply conditions that fail STARTUP_TEST (R61, R63). -/
def startSupplyBad (s : State) : Bool :=
  !railsOk s.power.rails || vioNBad s.ctl.nvsel33 s.power.rails.vion
    || (popSites s).any (fun f => decide (tget 0 s.power.vfldL f < 16800) || decide (33000 < tget 0 s.power.vfldL f))

/-- An item that the startup test has passed starts its interval. -/
def startPass (n : Nat) (s : State) : State :=
  modItem n (fun i => { i with passed := s.time.dev, ageFrom := s.time.opNs }) s

/-- STARTUP_LOGIC_BIST_COMPLETE (R366), with the supply and clock monitors checked alongside. -/
def execStartupLogicBistComplete (pass clocksOk : Bool) (rails : Rails) (s : State) :
    Host.Outcome State Fault Refusal :=
  .next (if s.ctl.st = .startupTest ∧ s.ctl.step = .logicBist then
    let s := setRails rails s
    let s := { s with ctl := { s.ctl with released := s.ctl.released && railsOk rails } }
    if startSupplyBad s then holdAt 0xC s
    else if !clocksOk || clocksBad s then holdAt 0xB s
    else if !pass then holdAt 0x6 s
    else
      let s := ((upto 4) ++ (popSites s).map (4 + ·)).foldl (fun a n => startPass n a) s
      { s with ctl := { s.ctl with step := .memoryBist } }
  else s)

/-- The capabilities present, ascending (R126). -/
def presentCaps (s : State) : List Nat :=
  let opt := (upto 7).map (fun i => BitVec.ofNat 32 (shadowWord s (248 + i)))
  ((upto 11).map (· + 1)).filter (fun id =>
    if id = 2 ∨ id = 0xA ∨ id = 0xB then Config.optionEnabled opt id
    else if id = 9 then decide (2 ≤ (popSites s).length) else true)

/-- STARTUP_MEMORY_BIST_COMPLETE (R372): the capability list is built, the identity memory read, and CONFIG_LOAD
entered. -/
def execStartupMemoryBistComplete (pass : Bool) (identity : Option (List Byte)) (s : State) :
    Host.Outcome State Fault Refusal :=
  .next (if s.ctl.st = .startupTest ∧ s.ctl.step = .memoryBist then
    if !pass then holdAt 0x7 s
    else
      let s := startPass 0x0B { s with fuses := { s.fuses with caps := presentCaps s } }
      let s := moveTo .configLoad 1 0 (identityRead identity s)
      { s with ctl := { s.ctl with step := .mount } }
  else s)

/-! ### CONFIG_LOAD (R43, R107 to R109, R448, R450) -/

/-- A failed mount leads to SAFE unconfigured. -/
def mountLost (why : Nat) (s : State) : State :=
  let s := mountFail why s
  enterSafe 1 0 false (identityAgain { s with
    ctl := { s.ctl with step := .none, boot := 0x8 }
    cfg := { s.cfg with resultA := 0xFF, resultB := 0xFF } })

/-- NAND_MOUNT (R448, R450). -/
def execNandMount (r : MountReport) (s : State) : Host.Outcome State Fault Refusal :=
  .next (if s.ctl.st = .configLoad ∧ s.ctl.step = .mount then
    if mountFailure r s = 0 then loadStart (mount r s)
    else mountLost (mountFailure r s) (nandDo (identifyCmds r) s)
  else s)

/-- IMAGE_READ_COMPLETE (R108 steps 1 to 3, R453). -/
def execImageReadComplete (s : State) : Host.Outcome State Fault Refusal :=
  .next (if s.ctl.st = .configLoad ∧ s.ctl.step = .imageRead then
    let s := nandDo [.pageRead] s
    let n := s.cfg.trying
    let i := Config.parseImage (nandSlot s n).bytes
    match checkStream s i with
    | some b => loadFail b s
    | none =>
      if !validityOk s n i then loadFail { result := 0x0A } s
      else { s with cfg := { s.cfg with loading := some i }, ctl := { s.ctl with step := .signature } }
  else s)

/-- SIGNATURE_VERIFICATION_COMPLETE (R108 steps 4 to 6). -/
def execSignatureVerificationComplete (s : State) : Host.Outcome State Fault Refusal :=
  .next (if s.ctl.st = .configLoad ∧ s.ctl.step = .signature then
    match s.cfg.loading with
    | none => s
    | some i => match checkSigned s (keySlotOf s i) i with
      | some b => loadFail b s
      | none => { s with ctl := { s.ctl with step := .readback } }
  else s)

/-- The image under trial is accepted: it is in force, with the overlay, and SAFE is entered; the autostart makes its
request (R47). -/
def acceptImage (i : Image) (identity : Option (List Byte)) (s : State) : State :=
  let n := s.cfg.trying
  let s := setResult n 0 (setImage i (slotSeq s n) ((keySlotOf s i).getD 0) n s)
  let s := identityRead identity (applyOverlay s)
  let s := netSettle (enterSafe 1 0 true { s with ctl := { s.ctl with step := .none } })
  if bit i.flags 0 then { s with ctl := { s.ctl with request := some (0x30, 0) } } else s

/-- READBACK_AND_LOCK_COMPLETE (R108 step 7, R109, R148). -/
def execReadbackAndLockComplete (readbackOk : Bool) (identity : Option (List Byte)) (s : State) :
    Host.Outcome State Fault Refusal :=
  .next (if s.ctl.st = .configLoad ∧ s.ctl.step = .readback then
    match s.cfg.loading with
    | none => s
    | some i => match checkConf (planOf s (Image.conf i) i.sites) with
      | some b => loadFailRead (identityRead identity) b s
      | none => if readbackOk then acceptImage i identity s
        else loadFailRead (identityRead identity) { result := 0x0A } s
  else s)

/-- The device state in which a startup step runs (Table SU-1). -/
def StartStep.state : StartStep → DevState
  | .none => .reset
  | .fuseSense => .fuseSense
  | .inventory | .logicBist | .memoryBist => .startupTest
  | .mount | .imageRead | .signature | .readback => .configLoad

/-- STARTUP_STEP_TIMEOUT (R86): the step under way has not ended in time. -/
def execStartupStepTimeout (s : State) : Host.Outcome State Fault Refusal :=
  .next (if s.ctl.st = s.ctl.step.state then
    match s.ctl.step with
    | .none => s
    | .fuseSense =>
      let (n, s) := draw s
      holdAt (2 + (Config.freeHold n).val) s
    | .inventory => holdAt 0x5 s
    | .logicBist => holdAt 0x6 s
    | .memoryBist => holdAt 0x7 s
    | .mount => mountLost 5 s
    | .imageRead | .readback => loadFail { result := 0x0A } s
    | .signature => loadFail { result := 0x09 } s
  else s)

/-! ### The JTAG fuse instruction (R98, R102) -/

/-- Whether the JTAG fuse instruction programs a word: those of an unlocked identity, trim or secret region, and the
option words. That a lock keeps the instruction out of its region is the model's reading (DESIGN CHOICE, log entry
70): the manual gives a lock no effect on it. -/
def jtagWord (s : State) (w : Nat) : Bool :=
  (decide (w < 16) && !regionLocked s 0) || (decide (16 ≤ w) && decide (w < 48) && !regionLocked s 1)
    || (decide (112 ≤ w) && decide (w < 176) && !regionLocked s 3)
    || (decide (248 ≤ w) && decide (w < 256) && !regionLocked s 5)

/-- Whether it sets a flag: a region lock under R98, or the TRIMMED or SHIPPED state. -/
def jtagFlag (s : State) (w k : Nat) : Bool :=
  (decide (w = 242) && decide (k < 2))
    || (decide (w = 241) && [0, 1, 3, 5].contains k
      && lockSound s (regions.getD k default))

/-- JTAG_FUSE_PROGRAM: the words, then the flags, each in its order; what is not permitted stays as it is. -/
def execJtagFuseProgram (words : List (Nat × Word)) (flags : List (Nat × Nat)) (s : State) :
    Host.Outcome State Fault Refusal :=
  .next (if s.ctl.st ≠ .reset ∧ s.ctl.step ≠ .fuseSense ∧ debugOpen s then
    let s := words.foldl (fun a e => if jtagWord a e.1 then programWord e.1 e.2 a else a) s
    fuseSettle (flags.foldl (fun a e => if jtagFlag a e.1 e.2 then programWord e.1 (flagBits e.2) a else a) s)
  else s)

end Sys2Proof.Machine
end

