-- ==== Sys2Proof/Machine/Access.lean ====
section
/-! DEFINITION. Reading and writing one object of the dictionary: the checks of R483 in their order, and the effect of an
accepted access (R113 to R124, R131, R147, R148, R483). -/

namespace Sys2Proof.Machine

/-- Whether a transport is served in the present state (Table OD-3). A flush of the Ledger stops the dictionary engine
(R124, R329). -/
def served (s : State) (r : Requester) : Bool :=
  decide (s.led.state ≠ 2) && match s.ctl.st with
  | .reset | .fuseSense => false
  | .startupTest | .configLoad | .halt => decide (r.code = 1) || decide (r.code = 2)
  | .safe | .run | .configure | .maintenance => true

/-- The row of an object and its group and element, or the code of the first check of R483. -/
def findObj (s : State) (idx sub : Nat) : Except Nat (Nat × Nat × Row) :=
  match groupOf idx with
  | none => .error 0x06020000
  | some (g, e) =>
    if !groupPresent s g e then .error 0x06020000
    else match rowOf s g e sub with
      | some row => .ok (g, e, row)
      | none => .error 0x06090011

/-- Whether a read of the access code is permitted, and whether a write is (Table OD-1). -/
def Acc.readable : Acc → Bool
  | .wo => false
  | .ro | .const | .rw | .srw | .mrw => true

def Acc.writable : Acc → Bool
  | .ro | .const => false
  | .rw | .wo | .srw | .mrw => true

/-- Whether a hardware fault in the block of an object makes the access fail (0x06060000): its switched domain has
failed (R470). -/
def blockFailed (s : State) (g : Nat) (row : Row) : Bool :=
  let bad := bit s.power.domainsFailed
  decide (row.acc ≠ .const) && decide (row.acc ≠ .srw)
    && (if g = 0x2B00 then bad 4 else if g = 0x2B20 then bad 5
      else if g = 0x2A08 ∨ g = 0x2A09 then bad 6 else false)

/-! ### Reads -/

/-- The objects that remain readable in HALT (R118). -/
def haltReadable (idx : Nat) : Bool :=
  [0x1000, 0x1001, 0x1003, 0x1008, 0x1009, 0x100A, 0x1018, 0x2100, 0x2101, 0x2102, 0x2500, 0x2501].contains idx
    || (decide (0x2400 ≤ idx) && decide (idx ≤ 0x2410))

/-- Whether the content of an object is not yet established in startup: the configuration, the live status, the process
image and the Ledger but for its mount (R117). -/
def notYet (idx sub : Nat) (row : Row) : Bool :=
  decide (sub ≠ 0) && (decide (row.acc = .srw) || (decide (0x3000 ≤ idx) && decide (idx ≤ 0x3F00))
    || (decide (0x4000 ≤ idx) && decide (idx < 0x6000))
    || (decide (0x2A00 ≤ idx) && decide (idx < 0x2A20) && !(decide (idx = 0x2A00) && decide (sub ≤ 2))))

/-- The check of the device state for a read: 0 where it is permitted (R117, R118). -/
def readState (s : State) (idx sub : Nat) (row : Row) : Nat :=
  match s.ctl.st with
  | .startupTest | .configLoad => if notYet idx sub row then 0x08000024 else 0
  | .halt => if haltReadable idx then 0 else 0x08000022
  | .reset | .fuseSense | .safe | .run | .configure | .maintenance => 0

/-- Whether a read of an srw object shows a staged value: to the session holder in CONFIGURE (Table OD-1). -/
def showsStaged (s : State) (r : Requester) (idx sub : Nat) (row : Row) : Bool :=
  decide (row.acc = .srw) && decide (s.ctl.st = .configure) && holdsSession s r
    && ((tfind s.dict.staging.nums (okey idx sub)).isSome || (tfind s.dict.staging.strs (okey idx sub)).isSome)

/-- Whether a read is answered from the snapshot of a site whose array is under test (R123, R368). -/
def fromSnapshot (s : State) (g e : Nat) : Bool :=
  (decide (g = 0x3080) || (decide (0x4000 ≤ g) && decide (g < 0x5000))) && decide ((fba s (siteOf e)).state = 2)

/-- An edge queue without an event that was read, whether or not the loss before it has been marked since. -/
def SiteIn.without (w : Nat) (q : SiteIn) : SiteIn :=
  { q with events := q.events.eraseP (fun e => decide (setBit e 8 false = setBit w 8 false)) }

/-- An event that was read leaves the queue of its site, and the queue of the snapshot (R178). -/
def popEvent (f w : Nat) (s : State) : State :=
  modSnap f (fun x => { x with field := { x.field with sites := tmod {} x.field.sites f (SiteIn.without w) } })
    (modSiteIn f (SiteIn.without w) s)

/-- What follows a read that showed the state `v`: the edge event leaves its queue (R178), and a reading that no command
brought is drawn anew. -/
def readEffect (g e sub : Nat) (v s : State) : State :=
  if g = 0x4001 ∧ sub = 1 then popEvent (siteOf e) ((siteIn v (siteOf e)).events.headD 0) s
  else if (g = 0x4070 ∧ sub = 3) ∨ (g = 0x2301 ∧ sub = 7) then (draw s).2
  else s

/-- The page that a read of page data fetches before it shows it (R457). -/
def readFetch (g sub worst : Nat) (s : State) : State :=
  if g = 0x2A08 ∧ sub = 2 then readRing worst s
  else if g = 0x2A09 ∧ sub = 3 then readPinned worst s
  else s

/-- The generation number of a DOMAIN object (R122). -/
def generation (s : State) (g e idx sub : Nat) : Nat :=
  if g = 0x2910 then (core s e).perf.gen else tget 0 s.dict.generations (okey idx sub)

/-- What a read returns: the abort code, the bytes, the marks of KDP, and the generation of a DOMAIN. -/
structure Got where
  abort  : Nat := 0
  data   : List Byte := []
  stale  : Bool := false
  staged : Bool := false
  dom    : Bool := false
  gen    : Nat := 0
deriving DecidableEq, Repr, Inhabited

/-- Read one object, its bytes as a view of the state shows them. The record that it shows is not marked yet. -/
def readView (view : Nat → Nat → State → State) (r : Requester) (idx sub worst : Nat) (s : State) : Got × State :=
  match findObj s idx sub with
  | .error c => ({ abort := c }, s)
  | .ok (g, e, row) =>
    if !row.acc.readable then ({ abort := 0x06010001 }, s)
    else if readState s idx sub row ≠ 0 then ({ abort := readState s idx sub row }, s)
    else if blockFailed s g row then ({ abort := 0x06060000 }, s)
    else
      let s := readFetch g sub worst s
      let staged := showsStaged s r idx sub row
      let c := if staged then stagedConf s else confOf s
      let v := view g e s
      ({ data := objBytes v c idx g e sub row, staged := staged, stale := fromSnapshot s g e
         dom := match row.ty with
          | .dom _ => true
          | .bool | .unsigned _ | .signed _ | .text _ | .octets _ _ => false
         gen := generation s g e idx sub }, readEffect g e sub v s)

/-- Read one object whose bytes are delivered at once: a record is marked (R347). -/
def readObj (r : Requester) (idx sub worst : Nat) (s : State) : Got × State :=
  let (x, s) := readView objView r idx sub worst s
  (x, if x.abort = 0 then markRead idx sub s else s)

/-! ### Writes -/

/-- The check of the device state for a write (Table OD-3, R40, R117). -/
def writeState (s : State) (row : Row) : Nat :=
  match s.ctl.st with
  | .reset | .fuseSense | .startupTest | .configLoad | .halt => 0x08000022
  | .safe | .run => if row.acc = .srw ∨ row.acc = .mrw then 0x08000022 else 0
  | .configure => if row.acc = .mrw then 0x08000022 else 0
  | .maintenance => if row.acc = .srw then 0x08000022 else 0

/-- The narrowing of Table OD-3 by the object itself: the transport rule of R44 and the conditions of Table OD-14,
R149, R356, R379, R455 and Table CK-6. -/
def narrowed (s : State) (r : Requester) (g sub : Nat) (data : List Byte) : Bool :=
  if g = 0x2110 then
    decide (s.dict.staging.running ≠ 0) || (decide (sub = 6) && decide (s.dict.session.state ≠ 0))
      || ((decide (sub = 8) || decide (sub = 0xA)) && decide (s.ctl.st ≠ .configure))
  else if g = 0x2100 then (decide (unle data = 0x20) || decide (unle data = 0x30)) && !transportOk s r
  else if g = 0x2300 ∧ sub = 9 then !transportOk s r || decide (s.time.spring ≠ 0)
  else if g = 0x2502 ∨ g = 0x2801 ∨ (g = 0x2A0C ∧ sub = 4) then !transportOk s r
  else false

/-- Whether an object is written by the session holder only. -/
def holderOnly (g sub : Nat) (row : Row) : Bool :=
  decide (row.acc = .srw) || decide (row.acc = .mrw) || (decide (g = 0x2110) && (decide (sub = 8) || decide (sub = 0xA)))
    || (decide (g = 0x2502) && decide (sub = 3))

/-- Whether a value lies within what the image declares, where it declares it (R119, R148). -/
def boundOk (s : State) (idx sub : Nat) (row : Row) (data : List Byte) : Bool :=
  match row.acc, declared s idx sub with
  | .srw, some b => withinBound row.ty b data
  | _, _ => true

/-- A part of a DOMAIN at an offset: the content with those bytes in place. A part at offset 0 begins the content
anew. -/
def splice (old : List Byte) (off : Nat) (data : List Byte) : List Byte :=
  if off = 0 then data else padTo off old ++ data ++ old.drop (off + data.length)

/-- An accepted write to an srw object: it is staged (R147, R148). The content that the holder sees of a DOMAIN changes
(R122). -/
def stageWrite (idx sub off : Nat) (row : Row) (data : List Byte) (s : State) : Nat × State :=
  match row.ty with
  | .dom m =>
    let new := splice (confStr (stagedConf s) idx sub row) off data
    if m < new.length then (0x06070010, s)
    else
      let x := stageParam row idx sub new s
      (x.1, if x.1 = 0 then bump idx sub x.2 else x.2)
  | .bool | .unsigned _ | .signed _ | .text _ | .octets _ _ => stageParam row idx sub data s

/-- Session control and commits (Table OD-14). -/
def writeSession (r : Requester) (sub off v : Nat) (data : List Byte) (x : Side) (s : State) : Nat × State :=
  if sub = 2 then (if v = 0 then closeSession r s else challengeWrite r v s)
  else if sub = 3 then (0, modSession (fun y => { y with nonceStore := some (r, data) }) s)
  else if sub = 5 then answer r data s
  else if sub = 6 then (0, markDirty (modSession (fun y => { y with timeout := v }) s))
  else if sub = 8 then stageImage off data s
  else commitWrite r v x.badMemory s

/-- Fault objects (Tables FC-9 to FC-11). -/
def writeFault (r : Requester) (g e sub v : Nat) (s : State) : Nat × State :=
  if g = 0x2502 then
    (if sub = 1 then ackWrite r v s else if sub = 2 then clearHistoryWrite r s else releaseFirstWrite r s)
  else if g = 0x2601 then (0, markDirty (resetCounter e s))
  else if sub = 1 then
    (if (checkers s).contains v then (0, { s with col := { s.col with checker := v } }) else (0x06090030, s))
  else if sub = 2 then (0, { s with col := { s.col with mode := v } })
  else if sub = 3 then (0, { s with col := { s.col with count := v } })
  else injectStart s

/-- The Ledger's objects (Table LG-9). -/
def writeLedger (r : Requester) (g sub v : Nat) (s : State) : Nat × State :=
  if g = 0x2A04 then formatWrite s
  else if g = 0x2A08 then (0, modLed (fun l => { l with readPage := v }) s)
  else if g = 0x2A09 then
    (0, modLed (fun l => if sub = 1 then { l with readPin := v } else { l with pinIndex := v }) s)
  else if sub = 4 then pinRequestWrite r s
  else if sub = 7 then pinRelease v s
  else (0, modLed (fun l => if sub = 1 then { l with pinTime := v } else if sub = 2 then { l with pinBefore := v }
    else { l with pinAfter := v }) s)

/-- An accepted write takes effect: the abort code of a refusal by the object's own definition, and the state after. -/
def writeEffect (r : Requester) (idx g e sub off : Nat) (row : Row) (data : List Byte) (x : Side) (s : State) :
    Nat × State :=
  let v := unle data
  if row.acc = .srw then stageWrite idx sub off row data s
  else if g = 0x1017 then (0, { s with dict := { s.dict with heartbeat := v } })
  else if g = 0x2100 then requestWrite x.arrived r v s
  else if g = 0x2110 then writeSession r sub off v data x s
  else if g = 0x2300 then setTimeWrite r v s
  else if g = 0x2302 then (0, nextSecondWrite v s)
  else if g = 0x2502 ∨ g = 0x2601 ∨ g = 0x2700 then writeFault r g e sub v s
  else if g = 0x2801 then testReqWrite r v s
  else if g = 0x2900 then (0, perfWrite e sub v x.same (settleIdle s))
  else if g = 0x2910 then (0, sampleCtlWrite e sub v (settleIdle s))
  else if g = 0x2920 then (0, statsReset s)
  else if 0x2A00 ≤ g ∧ g < 0x2B00 then writeLedger r g sub v s
  else if g = 0x2B38 then (0, streamStart e v s)
  else (0, relearn idx s)

/-- Write one object: the checks of R483 in order, then the effect. -/
def writeObj (r : Requester) (idx sub off : Nat) (data : List Byte) (x : Side) (s : State) : Nat × State :=
  match findObj s idx sub with
  | .error c => (c, s)
  | .ok (g, e, row) =>
    if !row.acc.writable then (0x06010002, s)
    else if writeState s row ≠ 0 then (0x08000022, s)
    else if narrowed s r g sub data then (0x08000022, s)
    else if holderOnly g sub row ∧ !holdsSession s r then (0x08000021, s)
    else if x.badLength then (0x06070010, s)
    else if dataCheck row data ≠ 0 then (dataCheck row data, s)
    else if !boundOk s idx sub row data then (0x06090030, s)
    else if blockFailed s g row then (0x06060000, s)
    else writeEffect r idx g e sub off row data x s

end Sys2Proof.Machine
end

