-- ==== Sys2Proof/Machine/Transports.lean ====
section
/-! DEFINITION. The accesses of the transports: the order in which the dictionary engine takes them, the bounds on
their answers, and the frames of the SDO servers (R120, R121, R124, R130, R131, R144, R347, R391). -/

namespace Sys2Proof.Machine

/-! ### The SDO servers' frames -/

/-- The transfer of a server. -/
def sdo (s : State) (n : Nat) : Sdo := tget {} s.dict.sdo n

/-- Change the transfer of a server. -/
def setSdo (n : Nat) (x : Sdo) (s : State) : State := { s with dict := { s.dict with sdo := tset {} s.dict.sdo n x } }

/-- The requester of a server (Table AR-9). -/
def sdoReq (n : Nat) : Requester := { code := 2 + n }

/-- The 8 bytes of an SDO frame. -/
def sdoFrameOf (cmd : Nat) (rest : List Byte) : List Byte := padTo 8 (le 1 cmd ++ rest)

/-- The frame names an object. -/
def sdoNamed (cmd index sub : Nat) (rest : List Byte) : List Byte := sdoFrameOf cmd (le 2 index ++ le 1 sub ++ rest)

/-- A server sends a frame to its client, with the COB-ID 0x580 + node-ID (R391). -/
def sdoSend (n : Nat) (fr : List Byte) (s : State) : State := canSend n { id := 0x580 + canNode s n, data := fr } s

/-- A response of the server, in one frame or more. -/
def sdoReply (n abort : Nat) (data : List Byte) (frames : List (List Byte)) (s : State) : State :=
  reply (sdoReq n) abort data (frames.foldl (fun a fr => sdoSend n fr a) s)

/-- The server aborts the transfer of an object. -/
def sdoAbort (n index sub code : Nat) (s : State) : State :=
  sdoReply n code [] [sdoNamed 0x80 index sub (le 4 code)] (setSdo n {} s)

/-! ### Bounds on answers (R124, Table OD-4) -/

/-- The bound on an answer in ns: of a session step, of the host SPI by the kind of object, of the others by transport. -/
def accessBound (s : State) (r : Requester) (idx sub : Nat) : Nat :=
  if idx = 0x2110 ∧ (sub = 2 ∨ sub = 5) then 2000000
  else if r.code = 1 then
    (match findObj s idx sub with
      | .ok (_, _, row) => (match row.ty with
        | .dom _ => 150000
        | .bool | .unsigned _ | .signed _ | .text _ | .octets _ _ => 50000)
      | .error _ => 50000)
  else if r.code = 4 then 250000 else 1000000

/-- A response that misses its bound is a breach of rank 4 (R124, R328). -/
def lateCheck (since bound : Nat) (s : State) : State := if since + bound < s.time.now then breach 4 0 s else s

/-! ### Load (R124) -/

/-- One more access within the present second, and their number (R124). -/
def countLoad (s : State) : Nat × State :=
  let sec := s.time.opNs / second
  let n := if s.dict.loadSecond = sec then s.dict.load + 1 else 1
  (n, { s with dict := { s.dict with load := n, loadSecond := sec } })

/-- Whether an access is turned away as busy: a KDP request beyond 20,000 accesses a second; an SDO request is held until
it is served (R124). -/
def busy (r : Requester) (n : Nat) : Bool := decide (20000 < n) && (decide (r.code = 1) || decide (r.code = 4))

/-! ### An access at its turn -/

/-- The answer to a transport after a read. -/
def replyGot (r : Requester) (x : Got) (s : State) : State :=
  { s with dict := { s.dict with replies := tset {} s.dict.replies r.code {
    abort := x.abort, data := x.data
    stale := x.stale && (decide (r.code = 1) || decide (r.code = 4))
    staged := x.staged && (decide (r.code = 1) || decide (r.code = 4)) } } }

/-- A write is counted, executed and answered (R124, R131). `ack` is the frame with which an SDO server confirms it. -/
def writeRun (at_ : Nat) (r : Requester) (idx sub : Nat) (data : List Byte) (off : Nat) (x : Side) (ack : List Byte)
    (s : State) : State :=
  let (n, s) := countLoad s
  lateCheck at_ (accessBound s r idx sub)
    (if busy r n then reply r 0x23 [] s
    else
      let (c, s) := writeObj r idx sub off data { x with arrived := at_ } s
      let s := reply r c [] s
      if ack = [] then s
      else sdoSend (r.code - 2) (if c = 0 then ack else sdoNamed 0x80 idx sub (le 4 c)) s)

/-- A read is counted, executed and answered. -/
def readRun (at_ : Nat) (r : Requester) (idx sub worst : Nat) (s : State) : State :=
  let (n, s) := countLoad s
  lateCheck at_ (accessBound s r idx sub)
    (if busy r n then reply r 0x23 [] s
    else
      let (x, s) := readObj r idx sub worst s
      replyGot r x s)

/-- The record that an object shows, which a transfer delivers (R347). -/
def recordShown (s : State) (index sub : Nat) : Option Nat := (shownRec s index sub).map (·.seq)

/-- What the transfer of an upload has delivered in full: a record is marked (R347). -/
def delivered (x : Sdo) (s : State) : State :=
  match x.record with
  | some q => markSeq q s
  | none => s

/-- The transfer that an upload opens. A DOMAIN of more than 64 KiB is uploaded live, any other content from a snapshot
(R122). -/
def upload (mode index sub : Nat) (x : Got) (shown : Option Nat) (s : State) : Sdo :=
  { mode := mode, index := index, sub := sub, data := x.data, at_ := s.time.opNs, record := shown
    live := if x.dom && decide (65536 < x.data.length) then some x.gen else none }

/-- An upload begins: the object is read, and the first response of the transfer sent (R122, R131). Up to 4 bytes are
answered at once. `block` is the client's block size, and whether a CRC is wanted. -/
def uploadRun (at_ n index sub : Nat) (block : Option (Nat × Bool)) (s : State) : State :=
  let (k, s) := draw (countLoad s).2
  let shown := recordShown s index sub
  let (x, s) := readView objView (sdoReq n) index sub (Config.freeBits k) s
  let len := x.data.length
  lateCheck at_ 1000000
    (if x.abort ≠ 0 then sdoAbort n index sub x.abort s
    else match block with
      | none =>
        if len ≤ 4 ∧ !x.dom then sdoReply n 0 x.data [sdoNamed (0x43 + 4 * (4 - len)) index sub x.data] (setSdo n {} s)
        else sdoReply n 0 (le 4 len) [sdoNamed 0x41 index sub (le 4 len)] (setSdo n (upload 2 index sub x shown s) s)
      | some (b, crc) =>
        sdoReply n 0 (le 4 len) [sdoNamed 0xC6 index sub (le 4 len)]
          (setSdo n { upload 4 index sub x shown s with blksize := b, crc := crc } s))

/-! ### Turns (R120) -/

/-- The transport of a command that brings an access to the dictionary engine, by its requester code. -/
def accessBy : Instr → Option Nat
  | .requestSafe r | .requestRun r | .requestConfigure r | .requestMaintenance r | .kdpRead r _ | .kdpWrite r _
  | .kdpReadMulti r _ | .kdpSubscribe r _ | .kdpUnknownOperation r _ | .sessionChallenge r _ _ | .clientNonceWrite r _
  | .sessionAnswer r _ | .sessionClose r | .objectWrite r _ _ _ | .imageStagingWrite r _ _
  | .parameterStagingWrite r _ _ _ | .imageCommit r _ | .parameterCommit r | .discardStaging r | .nextEventRead r _
  | .relearn r _ | .acknowledge r _ | .clearHistory r | .releaseFirstFault r | .faultRecordRead r _ _
  | .faultInjectionStart r | .resetRecoveryCounter r _ | .testRequest r _ | .streamStartWrite r _ _ | .format r
  | .pinRequest r | .releasePin r _ | .ledgerPageRead r _ | .pinnedPageRead r _ | .setDeviceTime r _ | .nextSecond r _
  | .eventSelectWrite r _ _ _ | .counterWrite r _ _ _ _ | .overflowFlagsWrite r _ _ _ | .samplingIntervalWrite r _ _
  | .clearSamples r _ | .resetStatistics r => some r.code
  | .sdoInitiateDownload n _ _ _ _ _ | .sdoDownloadSegment n _ _ _ | .sdoInitiateUpload n _ _ | .sdoUploadSegment n _
  | .sdoBlockDownload n _ | .sdoBlockUpload n _ => some (2 + n)
  | .hspiWriteRequest _ => some 1
  | _ => none

/-- Whether an access comes before another: its last byte arrived in an earlier time tick, or in the same from a
lower-numbered transport (R120). -/
def comesFirst (t c t' c' : Nat) : Bool :=
  decide (tick10 t < tick10 t') || (decide (tick10 t = tick10 t') && decide (c < c'))

/-- Whether an access of a lower-numbered transport reaches the engine in the present time tick: its command waits right
behind in the queue (log entry 75). -/
def accessBehind (c : Nat) (s : State) : Bool :=
  ((s.pending.map accessBy).takeWhile Option.isSome).any (fun o => decide (o.getD c < c))

/-- Whether it is the turn of an access that arrived at `t` over the transport `c`: nothing that waits comes first. -/
def turnOf (t c : Nat) (s : State) : Bool :=
  !(s.dict.hspi.requests ++ s.dict.udp).any (fun w => comesFirst w.at_ w.client.code t c)
    && !s.dict.held.any (fun h => comesFirst h.at_ h.client.code t c)
    && !(decide (tick10 t = tick10 s.time.now) && accessBehind c s)

/-- An access waits behind those that come before it and ahead of the others. -/
def hold (r : Requester) (op : HeldOp) (s : State) : State :=
  let h : Held := { client := r, at_ := s.time.now, op := op }
  let ahead := fun (x : Held) => !comesFirst h.at_ r.code x.at_ x.client.code
  let l := s.dict.held.takeWhile ahead ++ [h] ++ s.dict.held.dropWhile ahead
  { s with dict := { s.dict with held := l } }

/-- A held access is executed, unless its transport is served no longer. -/
def runHeld (h : Held) (s : State) : State :=
  if !served s h.client then s
  else match h.op with
    | .write idx sub data off x ack => writeRun h.at_ h.client idx sub data off x ack s
    | .read idx sub worst => readRun h.at_ h.client idx sub worst s
    | .upload idx sub block => uploadRun h.at_ (h.client.code - 2) idx sub block s

/-- The held accesses whose turn has come are executed, at most `n` of them. -/
def settleHeld : Nat → State → State
  | 0, s => s
  | n + 1, s =>
    match s.dict.held with
    | [] => s
    | h :: l => if turnOf h.at_ h.client.code s then
        settleHeld n (runHeld h { s with dict := { s.dict with held := l } }) else s

/-- What a command that brings an access leaves: those that waited for it follow. -/
def settle (s : State) : State := settleHeld s.dict.held.length s

/-- Whether an earlier access of a transport waits. -/
def waitsOf (c : Nat) (s : State) : Bool :=
  (s.dict.hspi.requests ++ s.dict.udp).any (fun w => decide (w.client.code = c))
    || s.dict.held.any (fun h => decide (h.client.code = c))

/-- An access that arrives is executed in its turn (R120). -/
def inTurn (r : Requester) (op : HeldOp) (s : State) : State :=
  if turnOf s.time.now r.code s ∧ !waitsOf r.code s then settle (runHeld { client := r, at_ := s.time.now, op := op } s)
  else settle (hold r op s)

/-- A write that a transport carries: it is served, counted, executed and answered (R120, R124, R131, R144). -/
def dictWrite (r : Requester) (idx sub : Nat) (data : List Byte) (off : Nat) (x : Side) (s : State) : State :=
  if !served s r then settle s else inTurn r (.write idx sub data off x []) (touch r s)

/-- A read that a transport carries. -/
def dictRead (r : Requester) (idx sub worst : Nat) (s : State) : State :=
  if !served s r then settle s else inTurn r (.read idx sub worst) (touch r s)

/-- What the same SYS cycle and the test of a commit show where the command does not say (R372, R478). -/
def freeSide (s : State) : Side × State :=
  let (n, s) := draw s
  let m := Config.freeBist n
  ({ badMemory := if m = 0 then none else some m }, s)

end Sys2Proof.Machine
end

