-- ==== Sys2Proof/Machine/Direct.lean ====
section
/-! DEFINITION. The accesses that have a row of their own: each is one write or one read of the dictionary, with the
checks of R483. -/

namespace Sys2Proof.Machine

/-! ### Device state (R42, R44) -/

/-- REQUEST_SAFE (R42). -/
def execRequestSafe (r : Requester) (s : State) : Host.Outcome State Fault Refusal :=
  .next (dictWrite r 0x2100 2 [0x20] 0 {} s)

/-- REQUEST_RUN (R44). -/
def execRequestRun (r : Requester) (s : State) : Host.Outcome State Fault Refusal :=
  .next (dictWrite r 0x2100 2 [0x30] 0 {} s)

/-- REQUEST_CONFIGURE (R42). -/
def execRequestConfigure (r : Requester) (s : State) : Host.Outcome State Fault Refusal :=
  .next (dictWrite r 0x2100 2 [0x40] 0 {} s)

/-- REQUEST_MAINTENANCE (R42). -/
def execRequestMaintenance (r : Requester) (s : State) : Host.Outcome State Fault Refusal :=
  .next (dictWrite r 0x2100 2 [0x50] 0 {} s)

/-! ### Staging and commits (R105, R147 to R149) -/

/-- OBJECT_WRITE (R119, R483). -/
def execObjectWrite (r : Requester) (index sub : Nat) (data : List Byte) (s : State) : Host.Outcome State Fault Refusal :=
  let (x, s) := freeSide s
  .next (dictWrite r index sub data 0 x s)

/-- IMAGE_STAGING_WRITE (R147). -/
def execImageStagingWrite (r : Requester) (offset : Nat) (data : List Byte) (s : State) :
    Host.Outcome State Fault Refusal :=
  .next (dictWrite r 0x2110 8 data offset {} s)

/-- PARAMETER_STAGING_WRITE (R148). -/
def execParameterStagingWrite (r : Requester) (index sub : Nat) (data : List Byte) (s : State) :
    Host.Outcome State Fault Refusal :=
  .next (dictWrite r index sub data 0 {} s)

/-- IMAGE_COMMIT (R105, R149). -/
def execImageCommit (r : Requester) (badMemory : Option Nat) (s : State) : Host.Outcome State Fault Refusal :=
  .next (dictWrite r 0x2110 0xA [1] 0 { badMemory := badMemory } s)

/-- PARAMETER_COMMIT (R149). -/
def execParameterCommit (r : Requester) (s : State) : Host.Outcome State Fault Refusal :=
  let (x, s) := freeSide s
  .next (dictWrite r 0x2110 0xA [1] 0 x s)

/-- DISCARD_STAGING (R147). -/
def execDiscardStaging (r : Requester) (s : State) : Host.Outcome State Fault Refusal :=
  .next (dictWrite r 0x2110 0xA [2] 0 {} s)

/-! ### Inputs and outputs (R178, R285) -/

/-- NEXT_EVENT_READ (R178). -/
def execNextEventRead (r : Requester) (f : Nat) (s : State) : Host.Outcome State Fault Refusal :=
  .next (dictRead r (0x4001 + 0x200 * f) 1 0 s)

/-- RELEARN (R285). -/
def execRelearn (r : Requester) (index : Nat) (s : State) : Host.Outcome State Fault Refusal :=
  .next (dictWrite r index 9 [1] 0 {} s)

/-! ### Faults and tests (R347, R355, R358, R361, R362, R379) -/

/-- ACKNOWLEDGE (R355). -/
def execAcknowledge (r : Requester) (value : Nat) (s : State) : Host.Outcome State Fault Refusal :=
  .next (dictWrite r 0x2502 1 (le 4 value) 0 {} s)

/-- CLEAR_HISTORY (R361). -/
def execClearHistory (r : Requester) (s : State) : Host.Outcome State Fault Refusal :=
  .next (dictWrite r 0x2502 2 [1] 0 {} s)

/-- RELEASE_FIRST_FAULT (R361). -/
def execReleaseFirstFault (r : Requester) (s : State) : Host.Outcome State Fault Refusal :=
  .next (dictWrite r 0x2502 3 [1] 0 {} s)

/-- FAULT_RECORD_READ (R347). -/
def execFaultRecordRead (r : Requester) (index sub : Nat) (s : State) : Host.Outcome State Fault Refusal :=
  .next (dictRead r index sub 0 s)

/-- FAULT_INJECTION_START (R358). -/
def execFaultInjectionStart (r : Requester) (s : State) : Host.Outcome State Fault Refusal :=
  .next (dictWrite r 0x2700 4 [1] 0 {} s)

/-- RESET_RECOVERY_COUNTER (R362). -/
def execResetRecoveryCounter (r : Requester) (cls : Nat) (s : State) : Host.Outcome State Fault Refusal :=
  .next (dictWrite r (0x2600 + cls) 9 [1] 0 {} s)

/-- TEST_REQUEST (R379). -/
def execTestRequest (r : Requester) (item : Nat) (s : State) : Host.Outcome State Fault Refusal :=
  .next (dictWrite r 0x2801 1 (le 1 item) 0 {} s)

/-! ### The Ledger and the UARTs (R424, R438, R455 to R457) -/

/-- STREAM_START_WRITE (R424). -/
def execStreamStartWrite (r : Requester) (uart page : Nat) (s : State) : Host.Outcome State Fault Refusal :=
  .next (dictWrite r (0x2B38 + uart) 4 (le 8 page) 0 {} s)

/-- FORMAT (R438). -/
def execFormat (r : Requester) (s : State) : Host.Outcome State Fault Refusal :=
  .next (dictWrite r 0x2A04 1 (le 2 0x464D) 0 {} s)

/-- PIN_REQUEST (R455). -/
def execPinRequest (r : Requester) (s : State) : Host.Outcome State Fault Refusal :=
  .next (dictWrite r 0x2A0C 4 [1] 0 {} s)

/-- RELEASE_PIN (R456). -/
def execReleasePin (r : Requester) (pin : Nat) (s : State) : Host.Outcome State Fault Refusal :=
  .next (dictWrite r 0x2A0C 7 (le 1 pin) 0 {} s)

/-- LEDGER_PAGE_READ (R457). -/
def execLedgerPageRead (r : Requester) (worstBits : Nat) (s : State) : Host.Outcome State Fault Refusal :=
  .next (dictRead r 0x2A08 2 worstBits s)

/-- PINNED_PAGE_READ (R457). -/
def execPinnedPageRead (r : Requester) (worstBits : Nat) (s : State) : Host.Outcome State Fault Refusal :=
  .next (dictRead r 0x2A09 3 worstBits s)

/-! ### Time (R465, R467) -/

/-- SET_DEVICE_TIME (R465). -/
def execSetDeviceTime (r : Requester) (ns : Nat) (s : State) : Host.Outcome State Fault Refusal :=
  .next (dictWrite r 0x2300 9 (le 8 ns) 0 {} s)

/-- NEXT_SECOND (R467). -/
def execNextSecond (r : Requester) (ns : Nat) (s : State) : Host.Outcome State Fault Refusal :=
  .next (dictWrite r 0x2302 6 (le 8 ns) 0 {} s)

/-! ### Performance monitors (R477 to R482) -/

/-- EVENT_SELECT_WRITE (R477). -/
def execEventSelectWrite (r : Requester) (core counter event : Nat) (s : State) : Host.Outcome State Fault Refusal :=
  .next (dictWrite r (0x2900 + core) (2 + counter) (le 1 event) 0 {} s)

/-- COUNTER_WRITE (R478). -/
def execCounterWrite (r : Requester) (core sub value : Nat) (wrapping : Bool) (s : State) :
    Host.Outcome State Fault Refusal :=
  .next (dictWrite r (0x2900 + core) sub (le 4 value) 0 { same := { wrapping := wrapping } } s)

/-- OVERFLOW_FLAGS_WRITE (R478). -/
def execOverflowFlagsWrite (r : Requester) (core value overflowing : Nat) (s : State) :
    Host.Outcome State Fault Refusal :=
  .next (dictWrite r (0x2900 + core) 0xF (le 2 value) 0 { same := { overflowing := overflowing } } s)

/-- SAMPLING_INTERVAL_WRITE (R479). -/
def execSamplingIntervalWrite (r : Requester) (core interval : Nat) (s : State) : Host.Outcome State Fault Refusal :=
  .next (dictWrite r (0x2910 + core) 2 (le 4 interval) 0 {} s)

/-- CLEAR_SAMPLES (R482). -/
def execClearSamples (r : Requester) (core : Nat) (s : State) : Host.Outcome State Fault Refusal :=
  .next (dictWrite r (0x2910 + core) 8 [1] 0 {} s)

/-- RESET_STATISTICS (R480). -/
def execResetStatistics (r : Requester) (s : State) : Host.Outcome State Fault Refusal :=
  .next (dictWrite r 0x2920 1 [1] 0 {} s)

end Sys2Proof.Machine
end

