-- ==== Sys2Proof/Machine/Injection.lean ====
section
/-! DEFINITION. Manual fault injection into a checker (R358, R363). -/

namespace Sys2Proof.Machine

/-- What a checker raises for a real error of the kind injected (R358, and each checker's own chapter). A
bad enable frame is only ignored (R23), and a telegram that fails its check is counted (R407, R408). `v` is the free value
of what the injected word leaves open: the slot of 0x0501, the address of 0x0802, the partition of a standby slot (R333,
Table PL-9; log entry 9), and the fault of the fuse shadow's checker and of a test report, which no chapter gives (log
entry 95). -/
def realFault (s : State) (n v : Nat) : Option Report :=
  let d := elemAt (n / 256) 0xFF
  let mk := fun (code src : Nat) => some (report s code src)
  let once := fun (code src : Nat) => some (momentary (report s code src))
  if n < 0x0700 then
    (if n % 256 = 0 then some (momentary (report s 0x0501 d 0xFFFF (Config.freeDetail v % 0x200)))
    else if n % 256 = 1 then mk 0x0502 d
    else if n % 256 = 2 then once 0x0504 d
    else if n % 256 = 4 then none
    else if n % 256 = 5 then mk 0x0509 d
    else some (linkReport s (n / 256)))
  else if n < 0x0704 then once 0x0703 n
  else if n < 0x0708 then once 0x0702 (n - 4)
  else if n < 0x0715 then some (report s 0x0802 (chimeFault n).2 0xFFFF (Config.freeDetail v % 2 ^ 32))
  else if n = 0x0715 then mk 0x0804 (0x0708 + (Config.freePartition v).val)
  else if n = 0x0716 then once (0x0901 + (Config.freeShadowFault v).val) 0x0740
  else if n = 0x0738 then once 0x0D05 0x0770
  else if n = 0x077E then once (0x0E01 + (Config.freeTestReport v).val) 0x077E
  else none

/-- The receive connections in use. -/
def recvConns (s : State) : List Nat :=
  (usedConns (confOf s)).filter (fun k => decide (2 ≤ connDir (confOf s) k))

/-- The reports of a source that wait since the present time tick carry the injected flag (R358). -/
def markInjected (src : Nat) (s : State) : State :=
  modPending (fun p => decide (p.rep.source = src) && decide (p.rep.time = tick10 s.time.now))
    (fun p => { p with rep := { p.rep with injected := true } }) s

/-- An injected telegram that fails its CRC or MAC as a real one does (R358, R407, R408), on the receive connection that
the free value `v` picks: R357 names no telegram (log entry 95). -/
def telegramInjected (n v : Nat) (s : State) : State :=
  let l := recvConns s
  if n ≠ 0x0730 ∧ n ≠ 0x0731 then s
  else match l[Config.freeDetail v % l.length]? with
    | some k => markInjected (0x1000 + k) (if n = 0x0731 then macFailure k s else crcFailure k s)
    | none => if n = 0x0731 then { s with net := { s.net with macFails := inc32 s.net.macFails } }
      else formatFailure s

/-- FAULT_INJECTION (R358): one manual injection, 1,000 µs after the one before. In detection-only mode a miss raises the code of Table
FC-7; in with-fault mode the checker raises the fault of a real error, marked injected. -/
def execFaultInjection (detected : Bool) (s : State) : Host.Outcome State Fault Refusal :=
  .next (if s.ctl.st = .maintenance ∧ s.col.result = 1 then
    let s := afterStamp s.col.injectAt 1000000 s
    let n := s.col.checker
    let made := s.col.made + 1
    let seen := s.col.seen + b2n detected
    let result := if made < s.col.count then 1 else if seen = made then 2 else 3
    let s := { s with col := { s.col with made := made, seen := seen, result := result, injectAt := s.time.now + 1 } }
    if s.col.mode = 2 ∧ detected then
      let (v, s) := draw s
      match realFault s n v with
      | some r => raise { r with injected := true } s
      | none => telegramInjected n v s
    else if detected then s
    else chimeMiss n s
  else s)

end Sys2Proof.Machine
end

