-- ==== Sys2Proof/Machine/Isa.lean ====
section
/-! DEFINITION. The instructions of the cores (R286 to R294): each is executed in both passes, the shadow
pass on inverted data by the identities of Table PL-2. A command for a core that does not issue changes
nothing. -/

namespace Sys2Proof.Machine

/-- ADD, ADDI and AUIPC (R293). -/
def execAdd (k : Nat) (c : Bool) (rd : BitVec 5) (f : AddForm) (s : State) : Host.Outcome State Fault Refusal :=
  .next (match f with
    | .src rs1 b => alu (.add k c rd f) k c false rd (· + ·) shAdd (opA s k rs1) (opB s k b) s
    | .auipc imm =>
      let v := imm.zeroExtend 32 <<< 12
      alu (.add k c rd f) k c false rd (· + ·) shAdd ((core s k).prim.pc, (core s k).shad.pc) (v, ~~~v) s)

/-- SUB (R293). -/
def execSub (k : Nat) (c : Bool) (rd rs1 rs2 : BitVec 5) (s : State) : Host.Outcome State Fault Refusal :=
  .next (alu (.sub k c rd rs1 rs2) k c false rd (· - ·) shSub (opA s k rs1) (opA s k rs2) s)

/-- AND and ANDI (R293). -/
def execAnd (k : Nat) (c : Bool) (rd rs1 : BitVec 5) (b : Src2) (s : State) : Host.Outcome State Fault Refusal :=
  .next (alu (.and k c rd rs1 b) k c false rd (· &&& ·) shAnd (opA s k rs1) (opB s k b) s)

/-- OR and ORI (R293). -/
def execOr (k : Nat) (c : Bool) (rd rs1 : BitVec 5) (b : Src2) (s : State) : Host.Outcome State Fault Refusal :=
  .next (alu (.or k c rd rs1 b) k c false rd (· ||| ·) shOr (opA s k rs1) (opB s k b) s)

/-- XOR and XORI (R293). -/
def execXor (k : Nat) (c : Bool) (rd rs1 : BitVec 5) (b : Src2) (s : State) : Host.Outcome State Fault Refusal :=
  .next (alu (.xor k c rd rs1 b) k c false rd (· ^^^ ·) shXor (opA s k rs1) (opB s k b) s)

/-- SLL and SLLI (R293). -/
def execSll (k : Nat) (c : Bool) (rd rs1 : BitVec 5) (b : Src2) (s : State) : Host.Outcome State Fault Refusal :=
  .next (alu (.sll k c rd rs1 b) k c false rd (fun x y => x <<< shamt y) shSll (opA s k rs1) (opB s k b) s)

/-- SRL and SRLI (R293). -/
def execSrl (k : Nat) (c : Bool) (rd rs1 : BitVec 5) (b : Src2) (s : State) : Host.Outcome State Fault Refusal :=
  .next (alu (.srl k c rd rs1 b) k c false rd (fun x y => x >>> shamt y) shSrl (opA s k rs1) (opB s k b) s)

/-- SRA and SRAI (R293). -/
def execSra (k : Nat) (c : Bool) (rd rs1 : BitVec 5) (b : Src2) (s : State) : Host.Outcome State Fault Refusal :=
  .next (alu (.sra k c rd rs1 b) k c false rd (fun x y => x.sshiftRight (shamt y)) shSra (opA s k rs1) (opB s k b) s)

/-- SLT, SLTU, SLTI and SLTIU (R293). -/
def execSlt (k : Nat) (c u : Bool) (rd rs1 : BitVec 5) (b : Src2) (s : State) : Host.Outcome State Fault Refusal :=
  .next (alu (.slt k c u rd rs1 b) k c false rd (slt u) (shSlt u) (opA s k rs1) (opB s k b) s)

/-- LUI: the shadow pass takes the immediate inverted (R293). -/
def execLui (k : Nat) (c : Bool) (rd : BitVec 5) (imm : BitVec 20) (s : State) : Host.Outcome State Fault Refusal :=
  .next (alu (.lui k c rd imm) k c false rd (fun _ y => y) (fun _ y => y) (0, 0xFFFFFFFF)
    (imm.zeroExtend 32 <<< 12, ~~~(imm.zeroExtend 32 <<< 12)) s)

/-- MUL, MULH, MULHSU and MULHU (R294). -/
def execMultiply (k : Nat) (m : MulKind) (rd rs1 rs2 : BitVec 5) (s : State) : Host.Outcome State Fault Refusal :=
  .next (alu (.multiply k m rd rs1 rs2) k false true rd (mulOp m) (shMul m) (opA s k rs1) (opA s k rs2) s)

/-- DIV and DIVU (R294). -/
def execDivide (k : Nat) (u : Bool) (rd rs1 rs2 : BitVec 5) (s : State) : Host.Outcome State Fault Refusal :=
  .next (alu (.divide k u rd rs1 rs2) k false true rd (divOp u) (shDiv u) (opA s k rs1) (opA s k rs2) s)

/-- REM and REMU (R294). -/
def execRemainder (k : Nat) (u : Bool) (rd rs1 rs2 : BitVec 5) (s : State) : Host.Outcome State Fault Refusal :=
  .next (alu (.remainder k u rd rs1 rs2) k false true rd (remOp u) (shRem u) (opA s k rs1) (opA s k rs2) s)

/-- The PCs of both passes after a jump or a taken branch. -/
def setPc (k : Nat) (v w : Word) (s : State) : State :=
  modCore k (fun c => { c with prim := { c.prim with pc := v }, shad := { c.shad with pc := w } }) s

/-- BEQ, BNE, BLT, BGE, BLTU and BGEU (R293). A taken branch to an odd address is misaligned (R291). -/
def execBranch (k : Nat) (c : Bool) (cond : Cond) (rs1 rs2 : BitVec 5) (off : BitVec 13) (s : State) :
    Host.Outcome State Fault Refusal :=
  .next (issue (.branch k c cond rs1 rs2 off) k c (fun s =>
    let a := opA s k rs1
    let b := opA s k rs2
    let o := off.signExtend 32
    let v := (core s k).prim.pc + o
    let w := (core s k).shad.pc + ~~~o + 1
    if taken cond a.1 b.1 ∧ v.getLsbD 0 then trap k 0 s
    else
      let s := retire k { cls := 3, taken := taken cond a.1 b.1 } s
      if taken cond a.1 b.1 then
        (if shTaken cond a.2 b.2 then setPc k v w s
          else setPc k v ((core s k).shad.pc + ~~~(isize c) + 1) s)
      else if shTaken cond a.2 b.2 then setPc k ((core s k).prim.pc + isize c) w s
      else stepPc k c s) s)

/-- JAL and JALR (R293). -/
def execJump (k : Nat) (c : Bool) (rd : BitVec 5) (f : JumpForm) (s : State) : Host.Outcome State Fault Refusal :=
  .next (issue (.jump k c rd f) k c (fun s =>
    let pc := (core s k).prim.pc
    let pcInv := (core s k).shad.pc
    let t : Word × Word := match f with
      | .jal off => (pc + off.signExtend 32, pcInv + ~~~(off.signExtend 32) + 1)
      | .jalr rs1 off => ((((opA s k rs1).1 + off.signExtend 32) >>> 1) <<< 1,
          ((opA s k rs1).2 + ~~~(off.signExtend 32) + 1) ||| 1)
    if t.1.getLsbD 0 then trap k 0 s
    else setPc k t.1 t.2 (setReg k rd (pc + isize c) (pcInv + ~~~(isize c) + 1)
      (retire k { cls := 3, taken := true } s))) s)

/-- The bytes a load reads. -/
def loadSize : LoadKind → Nat
  | .lb | .lbu => 1
  | .lh | .lhu => 2
  | .lw => 4

/-- A loaded number as a register value. -/
def loadExt (m : LoadKind) (v : Nat) : Word :=
  match m with
  | .lb => (BitVec.ofNat 8 v).signExtend 32
  | .lh => (BitVec.ofNat 16 v).signExtend 32
  | .lbu | .lhu | .lw => BitVec.ofNat 32 v

/-- Whether a target is a memory with check bits (R290). -/
def Target.coded : Target → Bool
  | .itcm _ | .dtcm _ | .image _ | .region _ => true
  | .chal | .resp | .cycleEnd | .cycleNo | .partNo | .none => false

/-- Whether a target is the input image. -/
def Target.isImage : Target → Bool
  | .image _ => true
  | .itcm _ | .dtcm _ | .region _ | .chal | .resp | .cycleEnd | .cycleNo | .partNo | .none => false

/-- The address of a load or store in both passes (Table PL-2). -/
def address (s : State) (k : Nat) (rs1 : BitVec 5) (off : BitVec 12) : Word × Word :=
  ((opA s k rs1).1 + off.signExtend 32, (opA s k rs1).2 + ~~~(off.signExtend 32) + 1)

/-- LB, LH, LW, LBU and LHU (R288, R290, R293). An access that the map does not permit is an access fault,
a permitted one off its alignment is misaligned (R291; log entry 17). The primary pass loads once; the
shadow pass receives the word inverted. `ecc` is what the word shows under its code, beside the errors that stand in
the memory already. Both passes reach a trap alike, so the comparator comes first (DEDUCED, log entry 81). -/
def execLoad (k : Nat) (c : Bool) (m : LoadKind) (rd rs1 : BitVec 5) (off : BitVec 12) (ecc : Ecc) (s : State) :
    Host.Outcome State Fault Refusal :=
  .next (issue (.load k c m rd rs1 off ecc) k c (fun s =>
    let x := address s k rs1 off
    let a := x.1.toNat
    let t := target (core s k).part a
    let n := loadSize m
    if !accessAgrees s k false x (0, 0xFFFFFFFF) n then mismatch k 0x0601 s
    else if !t.loads then trap k 5 s
    else if a % n ≠ 0 then trap k 4 s
    else if (ecc = .uncorrectable ∧ t.coded) ∨ lostWord s k a then
      raise (report s 0x0802 (targetMem s k a) 0xFFFF a) s
    else
      let v := loadExt m (loadVal s k a n)
      let s := retire k { cls := 1, image := t.isImage } s
      let s := stepPc k c (setReg k rd v (~~~v) s)
      if ecc = .corrected ∧ t.coded then
        raise (momentary (report s 0x0801 (targetMem s k a))) (modPerf k (eventAdd 0x0D 1) s)
      else mendAt k a s) s)

/-- The bytes a store writes. -/
def storeSize : StoreKind → Nat
  | .sb => 1
  | .sh => 2
  | .sw => 4

/-- SB, SH and SW (R288, R293, R299): a store to memory goes through the journal; stores to ESC_RESP and
CYCLE_END are posted until the next confirmed checkpoint, and after CYCLE_END the core issues nothing
more (R308). With a full journal the core takes its checkpoint first (R298), so the store waits. -/
def execStore (k : Nat) (c : Bool) (m : StoreKind) (rs1 rs2 : BitVec 5) (off : BitVec 12) (s : State) :
    Host.Outcome State Fault Refusal :=
  .next (issue (.store k c m rs1 rs2 off) k c (fun s =>
    let x := address s k rs1 off
    let a := x.1.toNat
    let t := target (core s k).part a
    let n := storeSize m
    let v := (opA s k rs2).1
    let lane := laneWord x.1 v n
    if !accessAgrees s k true x (opA s k rs2) n then mismatch k 0x0601 s
    else if !t.stores then trap k 7 s
    else if a % n ≠ 0 then trap k 6 s
    else if t.coded ∧ 512 ≤ (tcm s (core s k).set).journal.length then s
    else if lostWord s k a then raise (report s 0x0802 (targetMem s k a) 0xFFFF (a - a % 4)) s
    else
      let s := retire k { cls := 2 } s
      let s := stepPc k c s
      match t with
      | .resp => modCore k (fun d => { d with posted := d.posted ++ [(0x30000004, lane)] }) s
      | .cycleEnd => modCore k (fun d => { d with posted := d.posted ++ [(0x30000008, lane)], ended := true }) s
      | _ => storeMem k a n v s) s)

/-- The value of a CSR; none for one that is not implemented (R286). misa shows RV32IMC (log entry 16). -/
def Csrs.read (k : Nat) (n : BitVec 12) (c : Csrs) : Option Word :=
  if n = 0x300 then some ((c.mstatus &&& 0x88) ||| 0x1800)
  else if n = 0x301 then some 0x40001104
  else if n = 0x305 then some c.mtvec
  else if n = 0x340 then some c.mscratch
  else if n = 0x341 then some c.mepc
  else if n = 0x342 then some c.mcause
  else if n = 0x343 then some c.mtval
  else if n = 0xB00 then some c.mcycle
  else if n = 0xB02 then some c.minstret
  else if n = 0xB80 then some c.mcycleh
  else if n = 0xB82 then some c.minstreth
  else if n = 0xF14 then some (BitVec.ofNat 32 k)
  else none

/-- Write a CSR. mtvec is fixed at the trap sink (R291) and misa is fixed: a write leaves them. -/
def Csrs.write (n : BitVec 12) (v : Word) (c : Csrs) : Csrs :=
  if n = 0x300 then { c with mstatus := (v &&& 0x88) ||| 0x1800 }
  else if n = 0x340 then { c with mscratch := v }
  else if n = 0x341 then { c with mepc := v &&& 0xFFFFFFFE }
  else if n = 0x342 then { c with mcause := v }
  else if n = 0x343 then { c with mtval := v }
  else if n = 0xB00 then { c with mcycle := v }
  else if n = 0xB02 then { c with minstret := v }
  else if n = 0xB80 then { c with mcycleh := v }
  else if n = 0xB82 then { c with minstreth := v }
  else c

/-- The value that a CSR instruction writes; none where it writes nothing. -/
def csrNew (op : CsrOp) (src : CsrSrc) (old v : Word) : Option Word :=
  let quiet := match src with
    | .reg r => decide (r = 0)
    | .uimm u => decide (u = 0)
  match op with
  | .rw => some v
  | .rs => if quiet then none else some (old ||| v)
  | .rc => if quiet then none else some (old &&& ~~~v)

/-- CSRRW, CSRRS, CSRRC and their immediate forms. An access to a CSR that is not implemented, or a write
of a read-only one, is an illegal instruction (R286, R291). -/
def execCsrAccess (k : Nat) (op : CsrOp) (n : BitVec 12) (rd : BitVec 5) (src : CsrSrc) (s : State) :
    Host.Outcome State Fault Refusal :=
  .next (issue (.csrAccess k op n rd src) k false (fun s =>
    let c := core s k
    let v : Word × Word := match src with
      | .reg r => opA s k r
      | .uimm u => (u.zeroExtend 32, ~~~(u.zeroExtend 32))
    match c.prim.csrs.read k n with
    | none => trap k 2 s
    | some old =>
      let oldInv := (c.shad.csrs.inv.read k n).getD 0
      let new := csrNew op src old v.1
      let newInv := csrNew op src oldInv (~~~v.2)
      if new.isSome ∧ n.extractLsb' 10 2 = 3 then trap k 2 s
      else
        let s := retire k {} s
        let s := modCore k (fun d => { d with
          prim := match new with
            | some w => { d.prim with csrs := d.prim.csrs.write n w }
            | none => d.prim
          shad := match newInv with
            | some w => { d.shad with csrs := (d.shad.csrs.inv.write n w).inv }
            | none => d.shad }) s
        stepPc k false (setReg k rd old (~~~oldInv) s)) s)

/-- FENCE: no operation (R286). -/
def execFence (k : Nat) (s : State) : Host.Outcome State Fault Refusal :=
  .next (issue (.fence k) k false (fun s => stepPc k false (retire k {} s)) s)

/-- FENCE.I: no operation (R286). -/
def execFenceI (k : Nat) (s : State) : Host.Outcome State Fault Refusal :=
  .next (issue (.fenceI k) k false (fun s => stepPc k false (retire k {} s)) s)

/-- ECALL: environment call from M-mode (R291). -/
def execEcall (k : Nat) (s : State) : Host.Outcome State Fault Refusal :=
  .next (issue (.ecall k) k false (trap k 11) s)

/-- EBREAK (R291). -/
def execEbreak (k : Nat) (c : Bool) (s : State) : Host.Outcome State Fault Refusal :=
  .next (issue (.ebreak k c) k c (trap k 3) s)

/-- An illegal instruction (R291). -/
def execIllegalInstruction (k : Nat) (w : Word) (s : State) : Host.Outcome State Fault Refusal :=
  .next (issue (.illegalInstruction k w) k (decide (w.extractLsb' 0 2 ≠ 3)) (trap k 2) s)

end Sys2Proof.Machine
end

