-- ==== Sys2Proof/Machine/Kdp.lean ====
section
/-! DEFINITION. KDP on the host SPI and on UDP: frames, statuses, the operations of Table OD-11, subscriptions, and the
transactions of the host SPI (R132 to R139, R143 to R145). -/

namespace Sys2Proof.Machine

/-! ### Frames (R132, R134, R135) -/

/-- The status of Table OD-12 for an abort code; a status stands for itself. -/
def kdpStatus (abort : Nat) : Nat :=
  if abort < 256 then abort
  else if abort = 0x06020000 then 0x10 else if abort = 0x06090011 then 0x11 else if abort = 0x06010002 then 0x12
  else if abort = 0x06010001 then 0x13 else if abort = 0x06070010 then 0x14 else if abort = 0x06090030 then 0x15
  else if abort = 0x06090031 then 0x16 else if abort = 0x06090032 then 0x17 else if abort = 0x08000022 then 0x18
  else if abort = 0x08000021 then 0x19 else if abort = 0x06060000 then 0x1A else if abort = 0x08000020 then 0x1B
  else 0x1C

/-- A frame from byte 0 to the end of its data field. -/
def kdpHead (op tag index sub flags status : Nat) (data : List Byte) : List Byte :=
  [0x4B, 0x44, 1] ++ be 1 op ++ be 2 tag ++ be 2 index ++ be 1 sub ++ be 1 flags ++ be 1 status ++ [0]
    ++ be 2 data.length ++ data

/-- A complete frame without a trailer. -/
def kdpFrame (op tag index sub flags status : Nat) (data : List Byte) : List Byte :=
  let h := kdpHead op tag index sub flags status data
  h ++ be 4 (crc32 h)

/-- A frame of the dictionary goes to a client: to the host SPI's responses, or from a station to the client's address
and port with queue Q1 (R120, R136, R386). -/
def kdpSend (r : Requester) (fr : List Byte) (s : State) : State :=
  if r.code = 1 then
    { s with dict := { s.dict with hspi := { s.dict.hspi with responses := s.dict.hspi.responses ++ [fr] } } }
  else
    let w := stationFor s r.ip
    if stationIp s w = 0 then s
    else stationSend w 1 {
      dst := destMac s w r.ip, src := stationMac s w, length := max 64 (46 + fr.length)
      content := .kdp (stationIp s w) 38417 r.port false fr } s

/-- The response to a request: it goes out, and a WRITE or SESSION response over UDP is kept, the last 16 for each
source address (R135). -/
def kdpRespond (r : Requester) (q : KdpReq) (status flags : Nat) (data : List Byte) (s : State) : State :=
  let fr := kdpFrame (0x80 + q.op % 128) q.tag q.index q.sub flags status data
  let s := if r.code = 1 then
      { s with dict := { s.dict with hspi := { s.dict.hspi with executed := inc32 s.dict.hspi.executed } } } else s
  let s := if r.code = 4 ∧ (q.op = 2 ∨ q.op = 5) then
      let new : Kept := { client := r, tag := q.tag, time := s.time.opNs, frame := fr }
      let mine := (s.dict.kept.filter (fun k => decide (k.client.ip = r.ip))).take 15
      let others := s.dict.kept.filter (fun k => decide (k.client.ip ≠ r.ip))
      { s with dict := { s.dict with kept := new :: (mine ++ others) } }
    else s
  kdpSend r fr s

/-- The earlier response to a WRITE or SESSION request that arrives again: from the same source address and port, with
the same tag, within 1 s (R135). -/
def repeated (s : State) (r : Requester) (tag : Nat) : Option (List Byte) :=
  if r.code ≠ 4 then none
  else (s.dict.kept.find? (fun k => sameRequester k.client r && decide (k.tag = tag)
    && decide (s.time.opNs ≤ k.time + second))).map (·.frame)

/-- The operation code of a frame. -/
def frameOp (fr : List Byte) : Nat := unbe ((fr.drop 3).take 1)

/-- The request of a requester that waits for the engine: the front of the host SPI's queue, or the first of this client on
UDP. -/
def waitOf (s : State) (r : Requester) : Option Waiting :=
  if r.code = 1 then s.dict.hspi.requests.head?
  else if r.code = 4 then s.dict.udp.find? (fun w => sameRequester w.client r) else none

/-- The waiting request that the engine takes next: the one whose last byte arrived first, and the host SPI's of two of
one time tick (R120). -/
def nextWait (s : State) : Option Waiting :=
  match s.dict.hspi.requests.head?, s.dict.udp.head? with
  | some h, some u => if tick10 u.at_ < tick10 h.at_ then some u else some h
  | some h, none => some h
  | none, u => u

/-- When the request of a requester arrived: the one that waits, or a request that the command itself brings. -/
def cameAt (s : State) (r : Requester) : Nat := ((waitOf s r).map (·.at_)).getD s.time.now

/-- Whether it is the turn of a requester's request: it is the next of those that wait, and nothing else comes first
(R120, log entry 75). -/
def itsTurn (s : State) (r : Requester) : Bool :=
  (if (waitOf s r).isSome then decide (waitOf s r = nextWait s) else !waitsOf r.code s) && turnOf (cameAt s r) r.code s

/-- The frame of a request leaves the place where it waits. -/
def takeFrame (r : Requester) (s : State) : State :=
  if r.code = 1 then
    { s with dict := { s.dict with hspi := { s.dict.hspi with requests := s.dict.hspi.requests.drop 1 } } }
  else { s with dict := { s.dict with udp := s.dict.udp.eraseP (fun w => sameRequester w.client r) } }

/-- The bound of Table OD-4 on a response in ns. -/
def answerBound (s : State) (r : Requester) (q : KdpReq) : Nat :=
  if q.op = 5 then 2000000 else if q.op = 3 then 600000 else accessBound s r q.index q.sub

/-- The frame of a request. -/
def reqFrame (q : KdpReq) : List Byte :=
  let h := [0x4B, 0x44] ++ be 1 q.version ++ be 1 q.op ++ be 2 q.tag ++ be 2 q.index ++ be 1 q.sub
    ++ be 1 (b2n q.trailer.isSome) ++ [0, 0] ++ be 2 q.data.length ++ q.data ++ q.trailer.getD []
  h ++ be 4 (crc32 h)

/-- A request that a command brings and whose turn has not come waits with the others of its transport (R120). -/
def queueReq (r : Requester) (q : KdpReq) (s : State) : State :=
  let w : Waiting := ⟨r, reqFrame q, s.time.now⟩
  if r.code = 1 then
    { s with dict := { s.dict with hspi := { s.dict.hspi with requests := s.dict.hspi.requests ++ [w] } } }
  else if r.code = 4 then { s with dict := { s.dict with udp := s.dict.udp ++ [w] } } else s

/-- Whether a requester speaks KDP and is served. -/
def kdpServed (s : State) (r : Requester) : Bool := (decide (r.code = 1) || decide (r.code = 4)) && served s r

/-- A request that the command itself brings has arrived now (R144). -/
def arrives (r : Requester) (s : State) : State := if (waitOf s r).isSome then s else touch r s

/-- A request whose turn has not come goes on waiting, or begins to. -/
def notYetServed (r : Requester) (q : KdpReq) (s : State) : State :=
  if (waitOf s r).isSome then s else queueReq r q (touch r s)

/-- What stands before the execution of a request: the transport is served, it is its turn (R120), a version other than
0x01 and an index that the operation does not take are refused, and beyond 20,000 accesses a second the answer is busy
(R124, R134). -/
def kdpServe (r : Requester) (q : KdpReq) (indexOk : Bool) (run : State → State) (s : State) : State :=
  if !kdpServed s r then settle s
  else if !itsTurn s r then notYetServed r q s
  else
    let since := cameAt s r
    let bound := answerBound s r q
    let (n, s) := countLoad (takeFrame r (arrives r s))
    settle (lateCheck since bound
      (if q.version ≠ 1 then kdpRespond r q 0x21 0 [] s
      else if !indexOk then kdpRespond r q 0x22 0 [] s
      else if busy r n then kdpRespond r q 0x23 0 [] s
      else run s))

/-! ### READ and READ_MULTI (R133, R138) -/

/-- The flags of a READ response. -/
def gotFlags (x : Got) : Nat := 2 * b2n x.stale + 4 * b2n x.staged

/-- A part of a DOMAIN as a READ response carries it: offset, generation, content. The operation's own parameters are
carried least significant byte first (DESIGN CHOICE, log entry 76). -/
def domPart (x : Got) (off count : Nat) : List Byte := le 4 off ++ le 2 x.gen ++ (x.data.drop off).take count

/-- The response to a READ. -/
def answerRead (r : Requester) (q : KdpReq) (s : State) : State :=
  let (x, s') := readObj r q.index q.sub (Config.freeBits s.draws) s
  let off := unle (q.data.take 4)
  let count := unle (q.data.drop 4)
  if x.abort ≠ 0 then kdpRespond r q (kdpStatus x.abort) 0 [] s
  else if x.dom then
    (if q.data.length ≠ 6 then kdpRespond r q 0x14 0 [] s
    else if 1024 < count then kdpRespond r q 0x16 0 [] s
    else kdpRespond r q 0 (gotFlags x) (domPart x off count) (draw s').2)
  else if q.data ≠ [] then kdpRespond r q 0x14 0 [] s
  else kdpRespond r q 0 (gotFlags x) x.data (draw s').2

/-- KDP_READ (R133). -/
def execKdpRead (r : Requester) (q : KdpReq) (s : State) : Host.Outcome State Fault Refusal :=
  .next (kdpServe r { q with op := 1 } true (fun s => answerRead r { q with op := 1 } s) s)

/-- One entry of a READ_MULTI response, its index and length least significant byte first (DESIGN CHOICE, log entry 76). -/
def multiEntry (index sub status : Nat) (data : List Byte) : List Byte :=
  le 2 index ++ le 1 sub ++ le 1 status ++ le 2 data.length ++ data

/-- The block of an index and the state that its entries are read from: as the entry before left it, while the block
stays the same (R138). -/
def multiBlock (i : Nat) (last : Nat × State) (s : State) : Nat × State :=
  match groupOf i with
  | some (g, e) => if blockOf g e ≠ 0 ∧ blockOf g e = last.1 then last else (blockOf g e, s)
  | none => (0, s)

/-- The state that an entry of a READ_MULTI shows: its block as it stood at the first of the entries (R138). -/
def entryView (b : Nat × State) (g e : Nat) (s : State) : State := multiView g e (if b.1 = 0 then s else b.2)

/-- The entries of a READ_MULTI, read in request order, each block from its snapshot (R138); `used` bytes stand already, and
`last` is the block under way. An entry that leaves no room for what must follow carries status 0x26 and no value. A
DOMAIN has no offset here and fails on its length. -/
def multiRead (r : Requester) : List (Nat × Nat) → Nat → Nat × State → State → List Byte × Nat × State
  | [], _, _, s => ([], 0, s)
  | (i, k) :: l, used, last, s =>
    let b := multiBlock i last s
    let (x, s') := readView (entryView b) r i k (Config.freeBits s.draws) s
    let st := if x.abort ≠ 0 then kdpStatus x.abort else if x.dom then 0x14
      else if 1024 < used + 6 + x.data.length + 6 * l.length then 0x26 else 0
    let e := multiEntry i k st (if st = 0 then x.data else [])
    let t := multiRead r l (used + e.length) b (if st = 0 then (draw (markRead i k s')).2 else s)
    (e ++ t.1, (if st = 0 then Nat.lor (gotFlags x) t.2.1 else t.2.1), t.2.2)

/-- The entries that a READ_MULTI request names, each index least significant byte first (DESIGN CHOICE, log entry 76). -/
def multiList : Nat → List Byte → List (Nat × Nat)
  | 0, _ => []
  | n + 1, bs => if bs = [] then [] else (unle (bs.take 2), unle ((bs.drop 2).take 1)) :: multiList n (bs.drop 3)

/-- KDP_READ_MULTI (R138). More than 32 entries, or a broken one, are a length that does not match (DESIGN CHOICE, log entry
77). -/
def execKdpReadMulti (r : Requester) (q : KdpReq) (s : State) : Host.Outcome State Fault Refusal :=
  let q := { q with op := 3 }
  .next (kdpServe r q (decide (q.index = 0) && decide (q.sub = 0)) (fun s =>
    if 96 < q.data.length ∨ q.data.length % 3 ≠ 0 then kdpRespond r q 0x14 0 [] s
    else
      let l := multiList 32 q.data
      let s := { s with dict := { s.dict with load := s.dict.load + (l.length - 1) } }
      let (bs, fl, s) := multiRead r l 0 (0, s) s
      kdpRespond r q 0 fl bs s) s)

/-! ### WRITE (R133, R135, R145) -/

/-- A WRITE's data, and whether its length is one that a part of a DOMAIN can have: an offset and up to 1,024 bytes (R133).
For any other type it is the value. -/
def writeData (s : State) (q : KdpReq) : Nat × List Byte × Bool :=
  match findObj s q.index q.sub with
  | .ok (_, _, row) =>
    (match row.ty with
      | .dom _ => (unle (q.data.take 4), q.data.drop 4, decide (4 ≤ q.data.length) && decide (q.data.length ≤ 1028))
      | .bool | .unsigned _ | .signed _ | .text _ | .octets _ _ => (0, q.data, true))
  | .error _ => (0, q.data, true)

/-- The trailer of R145: the session holder's WRITE and SESSION close over UDP carry one. The state after an accepted
one, or none. -/
def trailerOk (r : Requester) (q : KdpReq) (s : State) : Option State :=
  if !needsTrailer s r then some s
  else match q.trailer with
    | none => none
    | some t =>
      (trailerCounter s (kdpHead q.op q.tag q.index q.sub 1 0 q.data) t).map (fun n =>
        modSession (fun x => { x with counter := n }) s)

/-- A request whose trailer fails: a session record, and status 0x24. -/
def trailerFail (r : Requester) (q : KdpReq) (s : State) : State :=
  kdpRespond r q 0x24 0 [] (sessionNote 6 s.dict.session.kind r.code s)

/-- A request that arrives again gets the earlier response (R124, R135). -/
def repeatAnswer (r : Requester) (since bound : Nat) (fr : List Byte) (s : State) : State :=
  settle (lateCheck since bound (kdpSend r fr (takeFrame r (arrives r s))))

/-- KDP_WRITE (R133, R135, R145). -/
def execKdpWrite (r : Requester) (q : KdpReq) (s : State) : Host.Outcome State Fault Refusal :=
  let q := { q with op := 2 }
  let since := cameAt s r
  .next (
    if kdpServed s r ∧ itsTurn s r ∧ (repeated s r q.tag).isSome then
      repeatAnswer r since (answerBound s r q) ((repeated s r q.tag).getD []) s
    else kdpServe r q true (fun s =>
      match trailerOk r q s with
      | none => trailerFail r q s
      | some s =>
        let (off, bs, ok) := writeData s q
        let (x, s) := freeSide s
        let (c, s) := writeObj r q.index q.sub off bs { x with badLength := !ok, arrived := since } s
        kdpRespond r q (kdpStatus c) 0 [] s) s)

/-- Whether a request is one that some operation of Tables OD-11 and OD-13 takes. -/
def operationKnown (q : KdpReq) : Bool :=
  decide (1 ≤ q.op) && decide (q.op ≤ 5)
    && (decide (q.op ≠ 5) || (decide (q.index = 0x2110) && decide (q.sub = 0)
      && [1, 2, 3].contains (unle (q.data.take 1))))

/-- KDP_UNKNOWN_OPERATION (R134): a version other than 0x01 gives 0x21, and an operation that Table OD-11 does not list, a
SESSION request off 0x2110:00 or one with an unknown sub-operation gives 0x22 (log entry 77). -/
def execKdpUnknownOperation (r : Requester) (q : KdpReq) (s : State) : Host.Outcome State Fault Refusal :=
  .next (if q.version = 1 ∧ operationKnown q then s else kdpServe r q false id s)

/-! ### Subscriptions (R139) -/

/-- Whether a subscription is of a client and names an object under a tag. -/
def Subscription.of (x : Subscription) (r : Requester) (q : KdpReq) : Bool :=
  sameRequester x.client r && decide (x.tag = q.tag) && decide (x.index = q.index) && decide (x.sub = q.sub)

/-- Change the subscriptions. -/
def setSubs (l : List (Nat × Subscription)) (s : State) : State := { s with dict := { s.dict with subs := l } }

/-- The value that a notification of an object carries: of a DOMAIN the first 1,024 bytes, as a SUBSCRIBE request names no
offset and no count (DESIGN CHOICE, log entry 76). -/
def noted (x : Got) : List Byte := if x.dom then domPart x 0 1024 else x.data

/-- The status of a SUBSCRIBE request's parameters: 0x15 for the mode, 0x16 above and 0x17 below the values (DESIGN CHOICE,
log entry 77). -/
def subsParams (mode period lease : Nat) : Nat :=
  if 2 < mode then 0x15 else if mode = 0 then 0
  else if 60000 < period ∨ 600 < lease then 0x16 else if period = 0 ∨ lease = 0 then 0x17 else 0

/-- A SUBSCRIBE request: it creates, renews or cancels a subscription. A renewal keeps what was last sent. The parameters are
carried least significant byte first (DESIGN CHOICE, log entry 76). -/
def subscribe (r : Requester) (q : KdpReq) (s : State) : Nat × State :=
  let mode := unle (q.data.take 1)
  let period := unle ((q.data.drop 1).take 2)
  let lease := unle ((q.data.drop 3).take 2)
  let x := (readObj r q.index q.sub 0 s).1
  let rest := s.dict.subs.filter (fun e => !e.2.of r q)
  if q.data.length ≠ 5 then (0x14, s)
  else if x.abort ≠ 0 ∧ mode ≠ 0 then (kdpStatus x.abort, s)
  else if subsParams mode period lease ≠ 0 then (subsParams mode period lease, s)
  else if mode = 0 then (0, setSubs rest s)
  else
    let new : Subscription := {
      client := r, tag := q.tag, index := q.index, sub := q.sub, mode := mode, period := period, lease := lease
      since := s.time.opNs, sentAt := s.time.opNs, last := noted x }
    match s.dict.subs.find? (fun e => e.2.of r q) with
    | some (n, y) => (0, setSubs (rest ++ [(n, { y with mode := mode, period := period, lease := lease, since := s.time.opNs })]) s)
    | none => match (upto 64).find? (fun n => !s.dict.subs.any (fun e => decide (e.1 = n))) with
      | some n => (0, setSubs (rest ++ [(n, new)]) s)
      | none => (0x25, s)

/-- KDP_SUBSCRIBE (R139). -/
def execKdpSubscribe (r : Requester) (q : KdpReq) (s : State) : Host.Outcome State Fault Refusal :=
  let q := { q with op := 4 }
  .next (kdpServe r q true (fun s =>
    let (c, s) := subscribe r q s
    kdpRespond r q c 0 [] s) s)

/-- The subscription of a slot. -/
def subOf (s : State) (n : Nat) : Option Subscription := (s.dict.subs.find? (fun e => decide (e.1 = n))).map (·.2)

/-- When the notification of a subscription fell due, where its mode says so: at the end of its period. The instant of a
change is not known (log entry 76). -/
def noteDue (s : State) (y : Subscription) : Nat :=
  if y.mode = 2 then s.time.now - (s.time.opNs - (y.sentAt + y.period * 1000000)) else s.time.now

/-- SUBSCRIPTION_NOTIFICATION (R124, R139, R347): its period has elapsed, and in the mode on change the value differs from
the one last sent. -/
def execSubscriptionNotification (n : Nat) (coalesced : Bool) (s : State) : Host.Outcome State Fault Refusal :=
  .next (match subOf s n with
    | none => s
    | some y =>
      let (x, s') := readObj y.client y.index y.sub (Config.freeBits s.draws) s
      if !kdpServed s y.client ∨ s.time.opNs < y.sentAt + y.period * 1000000 then s
      else if y.mode = 1 ∧ x.abort = 0 ∧ noted x = y.last then s
      else
        let since := noteDue s y
        let s := if x.abort = 0 then (draw s').2 else s
        let y := { y with sentAt := s.time.opNs, last := noted x }
        let s := setSubs ((s.dict.subs.filter (fun e => decide (e.1 ≠ n))) ++ [(n, y)]) s
        lateCheck since (accessBound s y.client y.index y.sub)
          (kdpSend y.client (kdpFrame 0x81 y.tag y.index y.sub (gotFlags x + 8 * b2n coalesced) (kdpStatus x.abort)
            (noted x)) s))

/-- SUBSCRIPTION_LAPSE (R139): the lease has ended without a renewal. -/
def execSubscriptionLapse (n : Nat) (s : State) : Host.Outcome State Fault Refusal :=
  .next (match subOf s n with
    | some y =>
      if y.since + y.lease * second ≤ s.time.opNs then setSubs (s.dict.subs.filter (fun e => decide (e.1 ≠ n))) s else s
    | none => s)

/-! ### The host SPI (R136, R137) -/

/-- Change the host SPI port. -/
def modHspi (g : Hspi → Hspi) (s : State) : State := { s with dict := { s.dict with hspi := g s.dict.hspi } }

/-- Whether the host SPI answers. -/
def hspiOn (s : State) : Bool := served s { code := 1 }

/-- HSPI_WRITE_REQUEST: a frame that finds the queue full is lost; one that R134 discards is counted. -/
def execHspiWriteRequest (fr : List Byte) (s : State) : Host.Outcome State Fault Refusal :=
  .next (settle (if !hspiOn s then s
  else modHspi (fun h =>
    let h := { h with transactions := inc32 h.transactions, miso := [] }
    if 4 ≤ h.requests.length then { h with lost := true, lostCount := inc32 h.lostCount }
    else if kdpFrameOk fr then { h with requests := h.requests ++ [⟨{ code := 1 }, fr, s.time.now⟩] }
    else { h with discards := inc32 h.discards })
    (if s.dict.hspi.requests.length < 4 ∧ kdpFrameOk fr then touch { code := 1 } s else s)))

/-- HSPI_IRQ_N is held low: a response or notification waits (R136). -/
def hspiIrqLow (s : State) : Bool := hspiOn s && decide (s.dict.hspi.responses ≠ [])

/-- HSPI_READ_RESPONSE: the oldest waiting response or notification, or zeros. -/
def execHspiReadResponse (s : State) : Host.Outcome State Fault Refusal :=
  .next (if !hspiOn s then s
  else modHspi (fun h => { h with
    transactions := inc32 h.transactions, miso := h.responses.headD [0], responses := h.responses.drop 1 }) s)

/-- HSPI_READ_STATUS: the status byte, whose reading clears bit 2. -/
def execHspiReadStatus (s : State) : Host.Outcome State Fault Refusal :=
  .next (if !hspiOn s then s
  else modHspi (fun h => { h with
    transactions := inc32 h.transactions, lost := false
    miso := le 1 (b2n (decide (h.responses ≠ [])) + 2 * b2n (decide (h.requests.length < 4)) + 4 * b2n h.lost) }) s)

/-- HSPI_UNKNOWN_COMMAND (R137). -/
def execHspiUnknownCommand (cmd : Nat) (s : State) : Host.Outcome State Fault Refusal :=
  .next (if !hspiOn s ∨ cmd = 2 ∨ cmd = 3 ∨ cmd = 5 then s
  else modHspi (fun h => { h with unknown := inc32 h.unknown, miso := [] }) s)

/-! ### SESSION (R143, Table OD-13) -/

/-- The request of a SESSION operation that waits at a requester's port, if one does. -/
def sessionFrame (s : State) (r : Requester) : Option (List Byte) :=
  let fr := (waitOf s r).map (·.frame)
  if (fr.map frameOp) = some 5 then fr else none

/-- A SESSION request as its frame spells it, with the trailer that flag bit 0 announces (Table OD-10). -/
def sessionReq (fr : List Byte) : KdpReq :=
  let n := unbe ((fr.drop 12).take 2)
  { op := 5, version := unbe ((fr.drop 2).take 1), tag := unbe ((fr.drop 4).take 2), index := unbe ((fr.drop 6).take 2)
    sub := unbe ((fr.drop 8).take 1), data := (fr.drop 14).take n
    trailer := if bit (unbe ((fr.drop 9).take 1)) 0 then some ((fr.drop (14 + n)).take 16) else none }

/-- What a client is told of a SESSION sub-operation or of the same step through 0x2110: the abort code and the data,
and where the KDP request waits, its response. -/
def sessionReply (r : Requester) (c : Nat) (data : List Byte) (s : State) : State :=
  let s := match sessionFrame s r with
    | some fr => lateCheck (cameAt s r) 2000000 (kdpRespond r (sessionReq fr) (kdpStatus c) 0 data (takeFrame r s))
    | none => s
  reply r c data s

/-- Whether sessions are served in the present state: as writes are (Table OD-3). -/
def sessionState (s : State) : Bool :=
  match s.ctl.st with
  | .reset | .fuseSense | .startupTest | .configLoad | .halt => false
  | .safe | .run | .configure | .maintenance => true

/-- The response kept for a SESSION request that arrives again (R135). -/
def sessionRepeat (s : State) (r : Requester) : Option (List Byte) :=
  (sessionFrame s r).bind (fun fr => repeated s r (sessionReq fr).tag)

/-- A SESSION operation of KDP, with its request data: served in its turn, counted, run and answered; a repeated request gets the earlier response
(R120, R135). A request that no operation takes is left to KDP_UNKNOWN_OPERATION. -/
def sessionRun (r : Requester) (data : List Byte) (run : State → Nat × List Byte × State) (s : State) : State :=
  if !served s r || (sessionFrame s r).any (fun fr =>
      decide ((sessionReq fr).version ≠ 1) || !operationKnown (sessionReq fr)) then settle s
  else if !itsTurn s r then notYetServed r { op := 5, index := 0x2110, data := data } s
  else match sessionRepeat s r with
    | some fr => repeatAnswer r (cameAt s r) 2000000 fr s
    | none =>
      let (n, s) := countLoad (arrives r s)
      settle (if busy r n then sessionReply r 0x23 [] s
      else if !sessionState s then sessionReply r 0x08000022 [] s
      else
        let x := run s
        sessionReply r x.1 x.2.1 x.2.2)

/-- A challenge request of a requester leaves no nonce that it has written for a later one (R143). -/
def dropNonce (r : Requester) (s : State) : State :=
  match s.dict.session.nonceStore with
  | some (w, _) => if sameRequester w r then modSession (fun x => { x with nonceStore := none }) s else s
  | none => s

/-- SESSION_CHALLENGE (R140 to R143): with a nonce it is the KDP operation, without one a write of the kind to
0x2110:02. A kind or a nonce that Table OD-13 does not allow is an invalid value (DESIGN CHOICE, log entry 77). -/
def execSessionChallenge (r : Requester) (kind : Nat) (nonce : Option (List Byte)) (s : State) :
    Host.Outcome State Fault Refusal :=
  .next (match nonce with
    | none => dictWrite r 0x2110 2 (le 1 kind) 0 {} s
    | some n => sessionRun r (le 1 1 ++ le 1 kind ++ n) (fun s =>
      let s := dropNonce r s
      if (kind ≠ 1 ∧ kind ≠ 2) ∨ n.length ≠ 16 then (0x06090030, [], s)
      else
        let (c, s) := challenge r kind (some n) s
        (c, if c = 0 then s.dict.session.deviceNonce else [], s)) s)

/-- CLIENT_NONCE_WRITE (R143). -/
def execClientNonceWrite (r : Requester) (nonce : List Byte) (s : State) : Host.Outcome State Fault Refusal :=
  .next (dictWrite r 0x2110 3 nonce 0 {} s)

/-- SESSION_ANSWER (R141, R142): the KDP operation, or over an SDO server a write of 0x2110:05. -/
def execSessionAnswer (r : Requester) (mac : List Byte) (s : State) : Host.Outcome State Fault Refusal :=
  .next (if r.code = 2 ∨ r.code = 3 then dictWrite r 0x2110 5 mac 0 {} s
  else sessionRun r (le 1 2 ++ mac) (fun s =>
    if mac.length ≠ 32 then (0x06070010, [], s)
    else
      let (c, s) := answer r mac s
      (c, [], s)) s)

/-- SESSION_CLOSE (R144, R145): the KDP operation, whose holder over UDP sends it with a trailer, or over an SDO server a
write of 0x00 to 0x2110:02, which a running commit refuses (R149). -/
def execSessionClose (r : Requester) (s : State) : Host.Outcome State Fault Refusal :=
  .next (if r.code = 2 ∨ r.code = 3 then dictWrite r 0x2110 2 [0] 0 {} s
  else sessionRun r (le 1 3) (fun s =>
    match trailerOk r (sessionReq ((sessionFrame s r).getD [])) s with
    | none => (0x24, [], sessionNote 6 s.dict.session.kind r.code s)
    | some s =>
      let (c, s) := closeSession r s
      (c, [], s)) s)

end Sys2Proof.Machine
end

