-- ==== Sys2Proof/Machine/Sdo.lean ====
section
/-! DEFINITION. The SDO servers of CN0 and CN1 (R121, R122, R130, R131): expedited, segmented and block transfers. The
commands carry what the frames of CiA 301 carry; the answer is the abort code and data of the server's last
response. -/

namespace Sys2Proof.Machine

/-- Whether a server answers: its port runs with a node-ID, is not bus-off and not stopped (R391, R392, R426). -/
def sdoOn (s : State) (n : Nat) : Bool :=
  decide (n < 2) && served s (sdoReq n) && canRuns s n && decide (canNode s n ≠ 0) && decide ((canPort s n).bus < 2)
    && (decide ((canPort s n).nmt = 0x7F) || decide ((canPort s n).nmt = 5))

/-- The frame of a client reaches a server that answers; its time is kept for the 500 ms of R130, and for the session of a
holder (R144). -/
def sdoFrame (n : Nat) (run : Sdo → State → State) (s : State) : State :=
  if sdoOn s n then
    let x := { sdo s n with at_ := s.time.opNs }
    settle (run x (touch (sdoReq n) (if x.mode = 0 then s else setSdo n x s)))
  else settle s

/-- A download is complete: the object is written as a whole, in its turn (R120, R121). `sizeOk` says that the size is the
one announced; any other is refused with the checks of R119, after those that precede them (R483). `ack` confirms it. -/
def sdoWrite (n index sub : Nat) (data : List Byte) (sizeOk : Bool) (ack : List Byte) (s : State) : State :=
  let (x, s) := freeSide (setSdo n {} s)
  inTurn (sdoReq n) (.write index sub data 0 { x with badLength := !sizeOk } ack) s

/-- The size that was announced, where one was, is the size received. -/
def sdoSizeOk (x : Sdo) (data : List Byte) : Bool := decide (x.size = 0) || decide (x.size = data.length)

/-- The server aborts a transfer under way. -/
def sdoStop (n code : Nat) (x : Sdo) (s : State) : State := sdoAbort n x.index x.sub code s

/-! ### Downloads -/

/-- The initiation of a download: an expedited transfer writes at once; a segmented one begins, in place of any other. -/
def downloadStart (n index sub : Nat) (expedited : Bool) (size : Nat) (data : List Byte) (s : State) : State :=
  sdoFrame n (fun _ s =>
    let ack := sdoNamed 0x60 index sub []
    if expedited then sdoWrite n index sub data true ack s
    else sdoReply n 0 [] [ack] (setSdo n {
      mode := 1, index := index, sub := sub, size := size, at_ := s.time.opNs } s)) s

/-- A segment of a download: the toggle bit alternates from 0; the last segment completes the transfer. -/
def downloadSegment (n : Nat) (toggle last : Bool) (data : List Byte) (s : State) : State :=
  sdoFrame n (fun x s =>
    let ack := sdoFrameOf (0x20 + 16 * b2n toggle) []
    if x.mode ≠ 1 then sdoStop n 0x05040001 x s
    else if toggle ≠ x.toggle then sdoStop n 0x05030000 x s
    else
      let all := x.data ++ data
      if !last then sdoReply n 0 [] [ack] (setSdo n { x with data := all, toggle := !x.toggle } s)
      else sdoWrite n x.index x.sub all (sdoSizeOk x all) ack s) s

/-! ### Uploads -/

/-- Whether the content of a live upload has changed since it began. -/
def changed (s : State) (x : Sdo) : Bool :=
  match x.live, groupOf x.index with
  | some g, some (grp, e) => decide (generation s grp e x.index x.sub ≠ g)
  | _, _ => false

/-- The initiation of an upload: the object is read in its turn. -/
def uploadStart (n index sub : Nat) (block : Option (Nat × Bool)) (s : State) : State :=
  sdoFrame n (fun _ s => inTurn (sdoReq n) (.upload index sub block) s) s

/-- A segment of an upload: the next 7 bytes. -/
def uploadSegment (n : Nat) (toggle : Bool) (s : State) : State :=
  sdoFrame n (fun x s =>
    if x.mode ≠ 2 then sdoStop n 0x05040001 x s
    else if toggle ≠ x.toggle then sdoStop n 0x05030000 x s
    else if changed s x then sdoStop n 0x08000020 x s
    else
      let part := (x.data.drop x.pos).take 7
      let pos := x.pos + part.length
      let last := decide (x.data.length ≤ pos)
      let fr := sdoFrameOf (16 * b2n toggle + 2 * (7 - part.length) + b2n last) part
      let s := sdoReply n 0 part [fr] (setSdo n (if last then {} else { x with pos := pos, toggle := !x.toggle }) s)
      if last then delivered x s else s) s

/-- The CRC of a block transfer (CiA 301). -/
def sdoCrc (bs : List Byte) : Nat := crc16 0x1021 0 bs

/-! ### Block transfers -/

/-- A segment of a block download: only the next in order is taken. After the last of a block, or of the transfer, the
server answers with the last taken in order and the size of the next block. -/
def blockSegment (n seq : Nat) (last : Bool) (data : List Byte) (x : Sdo) (s : State) : State :=
  if x.mode ≠ 3 ∨ x.ending then sdoStop n 0x05040001 x s
  else if seq = 0 ∨ x.blksize < seq then sdoStop n 0x05040003 x s
  else
    let next := decide (seq = x.seq + 1)
    let x := if next then { x with seq := seq, data := x.data ++ data } else x
    if last ∨ seq = x.blksize then
      let bs := le 1 x.seq ++ le 1 x.blksize
      sdoReply n 0 bs [sdoFrameOf 0xA2 bs] (setSdo n { x with seq := 0, ending := last && next } s)
    else setSdo n x s

/-- A sub-command of a block download: the initiation, a segment or the end, where the CRC and the announced size are
checked. -/
def blockDown (n : Nat) (c : BlockDown) (s : State) : State :=
  sdoFrame n (fun x s =>
    match c with
    | .initiate index sub crc size =>
      let (k, s) := draw s
      let b := (Config.freeBlockSize k).val + 1
      sdoReply n 0 (le 1 b) [sdoNamed 0xA4 index sub (le 1 b)] (setSdo n {
        mode := 3, index := index, sub := sub, size := size, crc := crc, blksize := b, at_ := s.time.opNs } s)
    | .segment seq last data => blockSegment n seq last data x s
    | .finish unused crc =>
      let all := x.data.take (x.data.length - unused)
      if x.mode ≠ 3 ∨ !x.ending then sdoStop n 0x05040001 x s
      else if x.crc ∧ crc ≠ sdoCrc all then sdoStop n 0x05040004 x s
      else sdoWrite n x.index x.sub all (sdoSizeOk x all) (sdoFrameOf 0xA1 []) s) s

/-- The segments of a block of an upload, from number `k`; `more` says that bytes follow the block. -/
def blockFrames : Nat → Nat → Bool → List Byte → List (List Byte)
  | 0, _, _, _ => []
  | n + 1, k, more, bs =>
    if bs.length ≤ 7 then [sdoFrameOf (128 * b2n (!more) + k) bs]
    else sdoFrameOf k (bs.take 7) :: blockFrames n (k + 1) more (bs.drop 7)

/-- The next block of an upload: up to `blksize` segments of 7 bytes. -/
def blockSend (n : Nat) (x : Sdo) (s : State) : State :=
  let part := (x.data.drop x.pos).take (7 * x.blksize)
  let k := max 1 ((part.length + 6) / 7)
  let more := decide (x.pos + part.length < x.data.length)
  sdoReply n 0 part (blockFrames k 1 more part) (setSdo n { x with seq := k } s)

/-- The answer of a client to a block: what it took in order leaves; the next block follows, or the end with the bytes
unused in the last segment and the CRC. -/
def blockAnswer (n ack blksize : Nat) (x : Sdo) (s : State) : State :=
  if x.mode ≠ 4 ∨ x.seq = 0 then sdoStop n 0x05040001 x s
  else if x.seq < ack then sdoStop n 0x05040003 x s
  else if blksize = 0 ∨ 127 < blksize then sdoStop n 0x05040002 x s
  else if changed s x then sdoStop n 0x08000020 x s
  else
    let x := { x with pos := min x.data.length (x.pos + 7 * ack), blksize := blksize }
    if x.pos < x.data.length ∨ ack = 0 then blockSend n x s
    else
      let unused := (7 - x.data.length % 7) % 7
      let crc := le 2 (if x.crc then sdoCrc x.data else 0)
      delivered x (sdoReply n 0 (le 1 unused ++ crc) [sdoFrameOf (0xC1 + 4 * unused) crc]
        (setSdo n { x with seq := 0, ending := true } s))

/-- A sub-command of a block upload: the initiation with the client's block size, the start, an answer to a block, or the
end. -/
def blockUp (n : Nat) (c : BlockUp) (s : State) : State :=
  match c with
  | .initiate index sub blksize crc =>
    if blksize = 0 ∨ 127 < blksize then sdoFrame n (fun _ s => sdoAbort n index sub 0x05040002 s) s
    else uploadStart n index sub (some (blksize, crc)) s
  | .start => sdoFrame n (fun x s =>
    if x.mode = 4 ∧ x.seq = 0 ∧ !x.ending then blockSend n x s else sdoStop n 0x05040001 x s) s
  | .response ack blksize => sdoFrame n (fun x s => blockAnswer n ack blksize x s) s
  | .finish => sdoFrame n (fun x s =>
    if x.mode = 4 ∧ x.ending then setSdo n {} s else sdoStop n 0x05040001 x s) s

/-- The client ends the transfer, and an aborted download leaves its object unchanged (R121). -/
def clientAbort (n : Nat) (s : State) : State := if sdoOn s n then setSdo n {} s else s

/-! ### The commands -/

/-- SDO_INITIATE_DOWNLOAD (R130). -/
def execSdoInitiateDownload (n index sub : Nat) (expedited : Bool) (size : Nat) (data : List Byte) (s : State) :
    Host.Outcome State Fault Refusal :=
  .next (downloadStart n index sub expedited size data s)

/-- SDO_DOWNLOAD_SEGMENT (R130). -/
def execSdoDownloadSegment (n : Nat) (toggle last : Bool) (data : List Byte) (s : State) :
    Host.Outcome State Fault Refusal :=
  .next (downloadSegment n toggle last data s)

/-- SDO_INITIATE_UPLOAD (R122, R130). -/
def execSdoInitiateUpload (n index sub : Nat) (s : State) : Host.Outcome State Fault Refusal :=
  .next (uploadStart n index sub none s)

/-- SDO_UPLOAD_SEGMENT (R130). -/
def execSdoUploadSegment (n : Nat) (toggle : Bool) (s : State) : Host.Outcome State Fault Refusal :=
  .next (uploadSegment n toggle s)

/-- SDO_BLOCK_DOWNLOAD (R130). -/
def execSdoBlockDownload (n : Nat) (c : BlockDown) (s : State) : Host.Outcome State Fault Refusal := .next (blockDown n c s)

/-- SDO_BLOCK_UPLOAD (R130). -/
def execSdoBlockUpload (n : Nat) (c : BlockUp) (s : State) : Host.Outcome State Fault Refusal := .next (blockUp n c s)

/-- SDO_ABORT_TRANSFER (R121). -/
def execSdoAbortTransfer (n _code : Nat) (s : State) : Host.Outcome State Fault Refusal := .next (clientAbort n s)

/-- SDO_TIMEOUT (R130): no frame of the client for 500 ms. -/
def execSdoTimeout (n : Nat) (s : State) : Host.Outcome State Fault Refusal :=
  .next (if sdoOn s n ∧ (sdo s n).mode ≠ 0 ∧ (sdo s n).at_ + 500000000 ≤ s.time.opNs then
    sdoStop n 0x05040000 (sdo s n) s else s)

/-! ### Frames on the bus (R390, R391) -/

/-- The bytes of an expedited download that does not give their number: as many as the object takes. -/
def expeditedSize (s : State) (index sub : Nat) : Nat :=
  match findObj s index sub with
  | .ok (_, _, row) => min 4 ((row.ty.size).getD 4)
  | .error _ => 4

/-- A frame with the COB-ID 0x600 + node-ID is a request to the server, laid out by CiA 301 (PRESUMED, log entry 98). -/
def sdoRequest (n : Nat) (data : List Byte) (s : State) : State :=
  let b := num data 0 1
  let index := num data 1 2
  let sub := num data 3 1
  let x := sdo s n
  if b = 0x80 then clientAbort n s
  else if x.mode = 3 ∧ !x.ending then blockDown n (.segment (b % 128) (decide (128 ≤ b)) (data.drop 1)) s
  else match b / 32 with
    | 0 => downloadSegment n (bit b 4) (bit b 0) ((data.drop 1).take (7 - field b 1 3)) s
    | 1 => downloadStart n index sub (bit b 1) (if bit b 0 then num data 4 4 else 0)
        ((data.drop 4).take (if bit b 0 then 4 - field b 2 2 else expeditedSize s index sub)) s
    | 2 => uploadStart n index sub none s
    | 3 => uploadSegment n (bit b 4) s
    | 5 =>
      if field b 0 2 = 0 then blockUp n (.initiate index sub (num data 4 1) (bit b 2)) s
      else if field b 0 2 = 3 then blockUp n .start s
      else if field b 0 2 = 2 then blockUp n (.response (num data 1 1) (num data 2 1)) s
      else blockUp n .finish s
    | 6 =>
      if bit b 0 then blockDown n (.finish (field b 2 3) (num data 1 2)) s
      else blockDown n (.initiate index sub (bit b 2) (if bit b 1 then num data 4 4 else 0)) s
    | _ => sdoFrame n (fun x s => sdoStop n 0x05040001 x s) s

/-- The receiving connections whose CAN identifier and route a frame has. -/
def canConn (s : State) (n id : Nat) (ext : Bool) : Option Nat :=
  (usedConns (confOf s)).find? (fun k =>
    let v := connCfg (confOf s) k 0xE 0
    receives s k && (connRoutes (confOf s) k).contains (2 + n) && decide (field v 0 29 = id) && (bit v 31 == ext))

/-- CAN_FRAME_RECEIVED (R390 to R393): error confinement, the NMT slave on identifier 0, a request to the SDO server, and a
telegram on the identifier of a connection. -/
def execCanFrameReceived (n id : Nat) (ext fd crcOk : Bool) (data : List Byte) (s : State) :
    Host.Outcome State Fault Refusal :=
  .next (if canRuns s n ∧ (canPort s n).bus ≤ 1 then
    let s := modCan n (fun x => { x with
      recv := if !crcOk then x.recv + 1 else if 127 < x.recv then 127 else x.recv - 1
      rx := if crcOk then inc32 x.rx else x.rx }) s
    let s := setBus n (busOf (canPort s n)) s
    if !crcOk then s
    else if fd then
      (if (canConn s n id ext).isSome then telegramIn (2 + n) data s else s)
    else if id = 0 ∧ !ext ∧ data.length = 2 then nmt n (unle (data.take 1)) (unle (data.drop 1)) s
    else if id = 0x600 + canNode s n ∧ !ext ∧ data.length = 8 then sdoRequest n data s
    else s
  else s)

end Sys2Proof.Machine
end

