-- ==== Sys2Proof/Machine/Dispatch.lean ====
section
/-! DEFINITION. One arm per command of the block: a direct call of its meaning. -/

namespace Sys2Proof.Machine

def exec (i : Instr) (s : State) : Host.Outcome State Fault Refusal :=
  match i with
  | .powerUp => Sys2Proof.Machine.execPowerUp s
  | .resetNFall => Sys2Proof.Machine.execResetNFall s
  | .resetExit a0 => Sys2Proof.Machine.execResetExit a0 s
  | .fuseSenseComplete a0 => Sys2Proof.Machine.execFuseSenseComplete a0 s
  | .fDieInventoryComplete a0 a1 => Sys2Proof.Machine.execFDieInventoryComplete a0 a1 s
  | .startupLogicBistComplete a0 a1 a2 => Sys2Proof.Machine.execStartupLogicBistComplete a0 a1 a2 s
  | .startupMemoryBistComplete a0 a1 => Sys2Proof.Machine.execStartupMemoryBistComplete a0 a1 s
  | .nandMount a0 => Sys2Proof.Machine.execNandMount a0 s
  | .imageReadComplete => Sys2Proof.Machine.execImageReadComplete s
  | .signatureVerificationComplete => Sys2Proof.Machine.execSignatureVerificationComplete s
  | .readbackAndLockComplete a0 a1 => Sys2Proof.Machine.execReadbackAndLockComplete a0 a1 s
  | .startupStepTimeout => Sys2Proof.Machine.execStartupStepTimeout s
  | .cSupplyMonitorTrip a0 a1 => Sys2Proof.Machine.execCSupplyMonitorTrip a0 a1 s
  | .vfldLTrip a0 a1 => Sys2Proof.Machine.execVfldLTrip a0 a1 s
  | .vfldLTripEnd a0 a1 => Sys2Proof.Machine.execVfldLTripEnd a0 a1 s
  | .vioNFault a0 => Sys2Proof.Machine.execVioNFault a0 s
  | .pfailNLow => Sys2Proof.Machine.execPfailNLow s
  | .dieTemperatureWarning a0 a1 => Sys2Proof.Machine.execDieTemperatureWarning a0 a1 s
  | .fDieOvertemperature a0 a1 => Sys2Proof.Machine.execFDieOvertemperature a0 a1 s
  | .cDieOvertemperature a0 => Sys2Proof.Machine.execCDieOvertemperature a0 s
  | .vholdShortDetected a0 => Sys2Proof.Machine.execVholdShortDetected a0 s
  | .vholdLow a0 => Sys2Proof.Machine.execVholdLow a0 s
  | .holdupExhausted => Sys2Proof.Machine.execHoldupExhausted s
  | .tapStateChange => Sys2Proof.Machine.execTapStateChange s
  | .enableFrame a0 a1 a2 a3 a4 a5 => Sys2Proof.Machine.execEnableFrame a0 a1 a2 a3 a4 a5 s
  | .enableFrameTimeout a0 => Sys2Proof.Machine.execEnableFrameTimeout a0 s
  | .curfewStopDetected a0 a1 => Sys2Proof.Machine.execCurfewStopDetected a0 a1 s
  | .statusLinkFrame a0 a1 a2 a3 a4 => Sys2Proof.Machine.execStatusLinkFrame a0 a1 a2 a3 a4 s
  | .sharedSignalSegment a0 a1 a2 a3 a4 => Sys2Proof.Machine.execSharedSignalSegment a0 a1 a2 a3 a4 s
  | .segmentThirdFailure a0 a1 => Sys2Proof.Machine.execSegmentThirdFailure a0 a1 s
  | .ringBroken a0 a1 => Sys2Proof.Machine.execRingBroken a0 a1 s
  | .fEscapementResponse a0 a1 a2 => Sys2Proof.Machine.execFEscapementResponse a0 a1 a2 s
  | .fEscapementMissed a0 => Sys2Proof.Machine.execFEscapementMissed a0 s
  | .lockedMemoryWrite a0 a1 => Sys2Proof.Machine.execLockedMemoryWrite a0 a1 s
  | .requestSafe a0 => Sys2Proof.Machine.execRequestSafe a0 s
  | .requestRun a0 => Sys2Proof.Machine.execRequestRun a0 s
  | .requestConfigure a0 => Sys2Proof.Machine.execRequestConfigure a0 s
  | .requestMaintenance a0 => Sys2Proof.Machine.execRequestMaintenance a0 s
  | .runEntry => Sys2Proof.Machine.execRunEntry s
  | .laneAgreementTimeout a0 => Sys2Proof.Machine.execLaneAgreementTimeout a0 s
  | .pairLaneDisagreement a0 => Sys2Proof.Machine.execPairLaneDisagreement a0 s
  | .kdpRead a0 a1 => Sys2Proof.Machine.execKdpRead a0 a1 s
  | .kdpWrite a0 a1 => Sys2Proof.Machine.execKdpWrite a0 a1 s
  | .kdpReadMulti a0 a1 => Sys2Proof.Machine.execKdpReadMulti a0 a1 s
  | .kdpSubscribe a0 a1 => Sys2Proof.Machine.execKdpSubscribe a0 a1 s
  | .subscriptionNotification a0 a1 => Sys2Proof.Machine.execSubscriptionNotification a0 a1 s
  | .subscriptionLapse a0 => Sys2Proof.Machine.execSubscriptionLapse a0 s
  | .sessionChallenge a0 a1 a2 => Sys2Proof.Machine.execSessionChallenge a0 a1 a2 s
  | .clientNonceWrite a0 a1 => Sys2Proof.Machine.execClientNonceWrite a0 a1 s
  | .sessionAnswer a0 a1 => Sys2Proof.Machine.execSessionAnswer a0 a1 s
  | .sessionClose a0 => Sys2Proof.Machine.execSessionClose a0 s
  | .challengeExpiry => Sys2Proof.Machine.execChallengeExpiry s
  | .lockoutEnd => Sys2Proof.Machine.execLockoutEnd s
  | .sessionTimeout => Sys2Proof.Machine.execSessionTimeout s
  | .hspiWriteRequest a0 => Sys2Proof.Machine.execHspiWriteRequest a0 s
  | .hspiReadResponse => Sys2Proof.Machine.execHspiReadResponse s
  | .hspiReadStatus => Sys2Proof.Machine.execHspiReadStatus s
  | .hspiUnknownCommand a0 => Sys2Proof.Machine.execHspiUnknownCommand a0 s
  | .sdoInitiateDownload a0 a1 a2 a3 a4 a5 => Sys2Proof.Machine.execSdoInitiateDownload a0 a1 a2 a3 a4 a5 s
  | .sdoDownloadSegment a0 a1 a2 a3 => Sys2Proof.Machine.execSdoDownloadSegment a0 a1 a2 a3 s
  | .sdoInitiateUpload a0 a1 a2 => Sys2Proof.Machine.execSdoInitiateUpload a0 a1 a2 s
  | .sdoUploadSegment a0 a1 => Sys2Proof.Machine.execSdoUploadSegment a0 a1 s
  | .sdoBlockDownload a0 a1 => Sys2Proof.Machine.execSdoBlockDownload a0 a1 s
  | .sdoBlockUpload a0 a1 => Sys2Proof.Machine.execSdoBlockUpload a0 a1 s
  | .sdoAbortTransfer a0 a1 => Sys2Proof.Machine.execSdoAbortTransfer a0 a1 s
  | .sdoTimeout a0 => Sys2Proof.Machine.execSdoTimeout a0 s
  | .objectWrite a0 a1 a2 a3 => Sys2Proof.Machine.execObjectWrite a0 a1 a2 a3 s
  | .imageStagingWrite a0 a1 a2 => Sys2Proof.Machine.execImageStagingWrite a0 a1 a2 s
  | .parameterStagingWrite a0 a1 a2 a3 => Sys2Proof.Machine.execParameterStagingWrite a0 a1 a2 a3 s
  | .imageCommit a0 a1 => Sys2Proof.Machine.execImageCommit a0 a1 s
  | .imageSlotWritten a0 a1 a2 => Sys2Proof.Machine.execImageSlotWritten a0 a1 a2 s
  | .commitComplete a0 a1 => Sys2Proof.Machine.execCommitComplete a0 a1 s
  | .parameterCommit a0 => Sys2Proof.Machine.execParameterCommit a0 s
  | .parameterCommitComplete a0 => Sys2Proof.Machine.execParameterCommitComplete a0 s
  | .discardStaging a0 => Sys2Proof.Machine.execDiscardStaging a0 s
  | .filteredChange a0 a1 a2 a3 => Sys2Proof.Machine.execFilteredChange a0 a1 a2 a3 s
  | .ossdOff a0 a1 a2 a3 => Sys2Proof.Machine.execOssdOff a0 a1 a2 a3 s
  | .inputOvervoltage a0 a1 => Sys2Proof.Machine.execInputOvervoltage a0 a1 s
  | .laneInputDisagreement a0 a1 => Sys2Proof.Machine.execLaneInputDisagreement a0 a1 s
  | .testPulseStart a0 a1 a2 => Sys2Proof.Machine.execTestPulseStart a0 a1 a2 s
  | .testPulseEvaluation a0 a1 a2 => Sys2Proof.Machine.execTestPulseEvaluation a0 a1 a2 s
  | .sourceCurrentLimit a0 a1 => Sys2Proof.Machine.execSourceCurrentLimit a0 a1 s
  | .sourceRetry a0 a1 => Sys2Proof.Machine.execSourceRetry a0 a1 s
  | .readbackUpdate a0 a1 a2 => Sys2Proof.Machine.execReadbackUpdate a0 a1 a2 s
  | .readbackCalibration a0 a1 => Sys2Proof.Machine.execReadbackCalibration a0 a1 s
  | .plausibilityFault a0 a1 a2 => Sys2Proof.Machine.execPlausibilityFault a0 a1 a2 s
  | .transitionRegionFault a0 a1 => Sys2Proof.Machine.execTransitionRegionFault a0 a1 s
  | .nextEventRead a0 a1 => Sys2Proof.Machine.execNextEventRead a0 a1 s
  | .discrepancyDeadline a0 a1 => Sys2Proof.Machine.execDiscrepancyDeadline a0 a1 s
  | .samplingStartHoldEnd a0 a1 a2 => Sys2Proof.Machine.execSamplingStartHoldEnd a0 a1 a2 s
  | .resetPressOverlong a0 a1 => Sys2Proof.Machine.execResetPressOverlong a0 a1 s
  | .resetButtonStuck a0 => Sys2Proof.Machine.execResetButtonStuck a0 s
  | .resetStuckLift a0 => Sys2Proof.Machine.execResetStuckLift a0 s
  | .evaluationWindow a0 a1 a2 a3 => Sys2Proof.Machine.execEvaluationWindow a0 a1 a2 a3 s
  | .windowOverrun a0 => Sys2Proof.Machine.execWindowOverrun a0 s
  | .blockTimerExpiry a0 a1 a2 => Sys2Proof.Machine.execBlockTimerExpiry a0 a1 a2 s
  | .edmTimeout a0 a1 a2 => Sys2Proof.Machine.execEdmTimeout a0 a1 a2 s
  | .islandStatusInvalid a0 => Sys2Proof.Machine.execIslandStatusInvalid a0 s
  | .brakePullInElapsed a0 a1 a2 => Sys2Proof.Machine.execBrakePullInElapsed a0 a1 a2 s
  | .arrayBistStart a0 => Sys2Proof.Machine.execArrayBistStart a0 s
  | .arrayBistEnd a0 a1 a2 a3 => Sys2Proof.Machine.execArrayBistEnd a0 a1 a2 a3 s
  | .outputCurrentLimit a0 a1 => Sys2Proof.Machine.execOutputCurrentLimit a0 a1 s
  | .returnCurrentLimit a0 a1 => Sys2Proof.Machine.execReturnCurrentLimit a0 a1 s
  | .groupCurrentMean a0 a1 a2 => Sys2Proof.Machine.execGroupCurrentMean a0 a1 a2 s
  | .externalFeed a0 a1 a2 => Sys2Proof.Machine.execExternalFeed a0 a1 a2 s
  | .externalFeedGone a0 a1 a2 => Sys2Proof.Machine.execExternalFeedGone a0 a1 a2 s
  | .pmCurrentMismatch a0 a1 => Sys2Proof.Machine.execPmCurrentMismatch a0 a1 s
  | .minimumLoad a0 a1 => Sys2Proof.Machine.execMinimumLoad a0 a1 s
  | .darkTestStart a0 a1 => Sys2Proof.Machine.execDarkTestStart a0 a1 s
  | .darkTestEvaluation a0 a1 => Sys2Proof.Machine.execDarkTestEvaluation a0 a1 s
  | .lightTestStart a0 a1 a2 => Sys2Proof.Machine.execLightTestStart a0 a1 a2 s
  | .lightTestEvaluation a0 a1 a2 => Sys2Proof.Machine.execLightTestEvaluation a0 a1 a2 s
  | .groupSupplyWarning a0 a1 a2 => Sys2Proof.Machine.execGroupSupplyWarning a0 a1 a2 s
  | .groupSupplyUndervoltage a0 a1 a2 => Sys2Proof.Machine.execGroupSupplyUndervoltage a0 a1 a2 s
  | .groupSupplyOvervoltage a0 a1 a2 => Sys2Proof.Machine.execGroupSupplyOvervoltage a0 a1 a2 s
  | .groupSupplyPresent a0 a1 a2 => Sys2Proof.Machine.execGroupSupplyPresent a0 a1 a2 s
  | .learnedValuePersist => Sys2Proof.Machine.execLearnedValuePersist s
  | .coilOpen a0 a1 => Sys2Proof.Machine.execCoilOpen a0 a1 s
  | .coilOvercurrent a0 a1 a2 => Sys2Proof.Machine.execCoilOvercurrent a0 a1 a2 s
  | .holdingCurrentFault a0 a1 a2 => Sys2Proof.Machine.execHoldingCurrentFault a0 a1 a2 s
  | .signatureDecision a0 a1 a2 => Sys2Proof.Machine.execSignatureDecision a0 a1 a2 s
  | .mechanicalTestPhaseEnd a0 a1 => Sys2Proof.Machine.execMechanicalTestPhaseEnd a0 a1 s
  | .mechanicalTestOverdue a0 a1 => Sys2Proof.Machine.execMechanicalTestOverdue a0 a1 s
  | .relearn a0 a1 => Sys2Proof.Machine.execRelearn a0 a1 s
  | .add a0 a1 a2 a3 => Sys2Proof.Machine.execAdd a0 a1 a2 a3 s
  | .sub a0 a1 a2 a3 a4 => Sys2Proof.Machine.execSub a0 a1 a2 a3 a4 s
  | .and a0 a1 a2 a3 a4 => Sys2Proof.Machine.execAnd a0 a1 a2 a3 a4 s
  | .or a0 a1 a2 a3 a4 => Sys2Proof.Machine.execOr a0 a1 a2 a3 a4 s
  | .xor a0 a1 a2 a3 a4 => Sys2Proof.Machine.execXor a0 a1 a2 a3 a4 s
  | .sll a0 a1 a2 a3 a4 => Sys2Proof.Machine.execSll a0 a1 a2 a3 a4 s
  | .srl a0 a1 a2 a3 a4 => Sys2Proof.Machine.execSrl a0 a1 a2 a3 a4 s
  | .sra a0 a1 a2 a3 a4 => Sys2Proof.Machine.execSra a0 a1 a2 a3 a4 s
  | .slt a0 a1 a2 a3 a4 a5 => Sys2Proof.Machine.execSlt a0 a1 a2 a3 a4 a5 s
  | .branch a0 a1 a2 a3 a4 a5 => Sys2Proof.Machine.execBranch a0 a1 a2 a3 a4 a5 s
  | .multiply a0 a1 a2 a3 a4 => Sys2Proof.Machine.execMultiply a0 a1 a2 a3 a4 s
  | .divide a0 a1 a2 a3 a4 => Sys2Proof.Machine.execDivide a0 a1 a2 a3 a4 s
  | .remainder a0 a1 a2 a3 a4 => Sys2Proof.Machine.execRemainder a0 a1 a2 a3 a4 s
  | .load a0 a1 a2 a3 a4 a5 a6 => Sys2Proof.Machine.execLoad a0 a1 a2 a3 a4 a5 a6 s
  | .store a0 a1 a2 a3 a4 a5 => Sys2Proof.Machine.execStore a0 a1 a2 a3 a4 a5 s
  | .csrAccess a0 a1 a2 a3 a4 => Sys2Proof.Machine.execCsrAccess a0 a1 a2 a3 a4 s
  | .fence a0 => Sys2Proof.Machine.execFence a0 s
  | .fenceI a0 => Sys2Proof.Machine.execFenceI a0 s
  | .ecall a0 => Sys2Proof.Machine.execEcall a0 s
  | .ebreak a0 a1 => Sys2Proof.Machine.execEbreak a0 a1 s
  | .checkpoint a0 a1 => Sys2Proof.Machine.execCheckpoint a0 a1 s
  | .busMismatch a0 a1 => Sys2Proof.Machine.execBusMismatch a0 a1 s
  | .skewParityError a0 a1 => Sys2Proof.Machine.execSkewParityError a0 a1 s
  | .comparatorRailFault a0 => Sys2Proof.Machine.execComparatorRailFault a0 s
  | .memoryScrub a0 => Sys2Proof.Machine.execMemoryScrub a0 s
  | .plannedHandover a0 => Sys2Proof.Machine.execPlannedHandover a0 s
  | .safetyCycleBoundary a0 => Sys2Proof.Machine.execSafetyCycleBoundary a0 s
  | .escapementWindowMissed a0 => Sys2Proof.Machine.execEscapementWindowMissed a0 s
  | .faultReport a0 => Sys2Proof.Machine.execFaultReport a0 s
  | .faultRecordCommit a0 => Sys2Proof.Machine.execFaultRecordCommit a0 s
  | .quietPeriodEnd a0 => Sys2Proof.Machine.execQuietPeriodEnd a0 s
  | .acknowledge a0 a1 => Sys2Proof.Machine.execAcknowledge a0 a1 s
  | .clearHistory a0 => Sys2Proof.Machine.execClearHistory a0 s
  | .releaseFirstFault a0 => Sys2Proof.Machine.execReleaseFirstFault a0 s
  | .faultRecordRead a0 a1 a2 => Sys2Proof.Machine.execFaultRecordRead a0 a1 a2 s
  | .chimeRound a0 => Sys2Proof.Machine.execChimeRound a0 s
  | .faultInjectionStart a0 => Sys2Proof.Machine.execFaultInjectionStart a0 s
  | .faultInjection a0 => Sys2Proof.Machine.execFaultInjection a0 s
  | .resetRecoveryCounter a0 a1 => Sys2Proof.Machine.execResetRecoveryCounter a0 a1 s
  | .itemEligible a0 => Sys2Proof.Machine.execItemEligible a0 s
  | .rotationStep => Sys2Proof.Machine.execRotationStep s
  | .coreBistComplete a0 a1 => Sys2Proof.Machine.execCoreBistComplete a0 a1 s
  | .ts3MemoryBistStart => Sys2Proof.Machine.execTs3MemoryBistStart s
  | .ts3MemoryBistComplete a0 => Sys2Proof.Machine.execTs3MemoryBistComplete a0 s
  | .calibration a0 a1 => Sys2Proof.Machine.execCalibration a0 a1 s
  | .calibrationOverdue a0 => Sys2Proof.Machine.execCalibrationOverdue a0 s
  | .testOverdue a0 => Sys2Proof.Machine.execTestOverdue a0 s
  | .testRequest a0 a1 => Sys2Proof.Machine.execTestRequest a0 a1 s
  | .phyStatusPoll a0 => Sys2Proof.Machine.execPhyStatusPoll a0 s
  | .portLinkChange a0 a1 a2 a3 => Sys2Proof.Machine.execPortLinkChange a0 a1 a2 a3 s
  | .ethernetFrameReceived a0 a1 => Sys2Proof.Machine.execEthernetFrameReceived a0 a1 s
  | .arpRequest a0 a1 a2 a3 a4 => Sys2Proof.Machine.execArpRequest a0 a1 a2 a3 a4 s
  | .arpEntryExpiry a0 a1 => Sys2Proof.Machine.execArpEntryExpiry a0 a1 s
  | .addressEntryAgeing a0 a1 => Sys2Proof.Machine.execAddressEntryAgeing a0 a1 s
  | .icmpEchoRequest a0 a1 => Sys2Proof.Machine.execIcmpEchoRequest a0 a1 s
  | .frameTransmitComplete a0 => Sys2Proof.Machine.execFrameTransmitComplete a0 s
  | .supervisionFrameSend a0 => Sys2Proof.Machine.execSupervisionFrameSend a0 s
  | .supervisionFrameReceived a0 => Sys2Proof.Machine.execSupervisionFrameReceived a0 s
  | .supervisionLoss a0 => Sys2Proof.Machine.execSupervisionLoss a0 s
  | .duplicateEntryForget a0 a1 a2 => Sys2Proof.Machine.execDuplicateEntryForget a0 a1 a2 s
  | .ptpSync a0 a1 a2 a3 => Sys2Proof.Machine.execPtpSync a0 a1 a2 a3 s
  | .ptpFollowUp a0 a1 a2 a3 => Sys2Proof.Machine.execPtpFollowUp a0 a1 a2 a3 s
  | .ptpDelayReq a0 a1 a2 a3 => Sys2Proof.Machine.execPtpDelayReq a0 a1 a2 a3 s
  | .ptpDelayResp a0 a1 a2 => Sys2Proof.Machine.execPtpDelayResp a0 a1 a2 s
  | .ptpPeerDelay a0 a1 a2 a3 a4 => Sys2Proof.Machine.execPtpPeerDelay a0 a1 a2 a3 a4 s
  | .canFrameReceived a0 a1 a2 a3 a4 a5 => Sys2Proof.Machine.execCanFrameReceived a0 a1 a2 a3 a4 a5 s
  | .busOff a0 => Sys2Proof.Machine.execBusOff a0 s
  | .busOffRecovery a0 => Sys2Proof.Machine.execBusOffRecovery a0 s
  | .nmtStart a0 a1 => Sys2Proof.Machine.execNmtStart a0 a1 s
  | .nmtStop a0 a1 => Sys2Proof.Machine.execNmtStop a0 a1 s
  | .nmtEnterPreOperational a0 a1 => Sys2Proof.Machine.execNmtEnterPreOperational a0 a1 s
  | .nmtResetCommunication a0 a1 => Sys2Proof.Machine.execNmtResetCommunication a0 a1 s
  | .nmtResetNode a0 a1 => Sys2Proof.Machine.execNmtResetNode a0 a1 s
  | .heartbeat => Sys2Proof.Machine.execHeartbeat s
  | .linkSymbolLoss a0 => Sys2Proof.Machine.execLinkSymbolLoss a0 s
  | .linkSynced a0 => Sys2Proof.Machine.execLinkSynced a0 s
  | .helloSend a0 => Sys2Proof.Machine.execHelloSend a0 s
  | .helloReceived a0 a1 => Sys2Proof.Machine.execHelloReceived a0 a1 s
  | .helloTimeout a0 => Sys2Proof.Machine.execHelloTimeout a0 s
  | .linkFrameReceived a0 a1 => Sys2Proof.Machine.execLinkFrameReceived a0 a1 s
  | .frameInterrupted a0 => Sys2Proof.Machine.execFrameInterrupted a0 s
  | .telegramReceived a0 a1 a2 => Sys2Proof.Machine.execTelegramReceived a0 a1 a2 s
  | .watchdogExpiry a0 => Sys2Proof.Machine.execWatchdogExpiry a0 s
  | .pairingExchangeSend => Sys2Proof.Machine.execPairingExchangeSend s
  | .pairedInputDisagreement a0 => Sys2Proof.Machine.execPairedInputDisagreement a0 s
  | .pairingCheckSend => Sys2Proof.Machine.execPairingCheckSend s
  | .spiTransferComplete a0 a1 => Sys2Proof.Machine.execSpiTransferComplete a0 a1 s
  | .uartLedgerPage a0 => Sys2Proof.Machine.execUartLedgerPage a0 s
  | .uartStatusFrame a0 => Sys2Proof.Machine.execUartStatusFrame a0 s
  | .uartXoff a0 => Sys2Proof.Machine.execUartXoff a0 s
  | .uartXon a0 => Sys2Proof.Machine.execUartXon a0 s
  | .streamStartWrite a0 a1 a2 => Sys2Proof.Machine.execStreamStartWrite a0 a1 a2 s
  | .temperatureSensorPoll a0 => Sys2Proof.Machine.execTemperatureSensorPoll a0 s
  | .ledgerRecord a0 => Sys2Proof.Machine.execLedgerRecord a0 s
  | .pageAgeSeal => Sys2Proof.Machine.execPageAgeSeal s
  | .holdupPageSeal => Sys2Proof.Machine.execHoldupPageSeal s
  | .pageProgramComplete a0 => Sys2Proof.Machine.execPageProgramComplete a0 s
  | .nandBusyTimeout => Sys2Proof.Machine.execNandBusyTimeout s
  | .format a0 => Sys2Proof.Machine.execFormat a0 s
  | .formatComplete a0 a1 => Sys2Proof.Machine.execFormatComplete a0 a1 s
  | .parameterSetWrite => Sys2Proof.Machine.execParameterSetWrite s
  | .scrubPass a0 a1 a2 => Sys2Proof.Machine.execScrubPass a0 a1 a2 s
  | .wearLevellingMove a0 => Sys2Proof.Machine.execWearLevellingMove a0 s
  | .operatingTimePersist => Sys2Proof.Machine.execOperatingTimePersist s
  | .pinRequest a0 => Sys2Proof.Machine.execPinRequest a0 s
  | .pinCopyStart a0 => Sys2Proof.Machine.execPinCopyStart a0 s
  | .releasePin a0 a1 => Sys2Proof.Machine.execReleasePin a0 a1 s
  | .ledgerPageRead a0 a1 => Sys2Proof.Machine.execLedgerPageRead a0 a1 s
  | .pinnedPageRead a0 a1 => Sys2Proof.Machine.execPinnedPageRead a0 a1 s
  | .clockMonitorFault a0 a1 a2 => Sys2Proof.Machine.execClockMonitorFault a0 a1 a2 s
  | .ppsEdge a0 a1 => Sys2Proof.Machine.execPpsEdge a0 a1 s
  | .ppsLost a0 => Sys2Proof.Machine.execPpsLost a0 s
  | .ppsoSecond => Sys2Proof.Machine.execPpsoSecond s
  | .timeSourceLost => Sys2Proof.Machine.execTimeSourceLost s
  | .holdoverLimit => Sys2Proof.Machine.execHoldoverLimit s
  | .setDeviceTime a0 a1 => Sys2Proof.Machine.execSetDeviceTime a0 a1 s
  | .nextSecond a0 a1 => Sys2Proof.Machine.execNextSecond a0 a1 s
  | .alignmentFrame a0 a1 a2 a3 => Sys2Proof.Machine.execAlignmentFrame a0 a1 a2 a3 s
  | .powerGoodTimeout a0 => Sys2Proof.Machine.execPowerGoodTimeout a0 s
  | .eventSelectWrite a0 a1 a2 a3 => Sys2Proof.Machine.execEventSelectWrite a0 a1 a2 a3 s
  | .counterWrite a0 a1 a2 a3 a4 => Sys2Proof.Machine.execCounterWrite a0 a1 a2 a3 a4 s
  | .overflowFlagsWrite a0 a1 a2 a3 => Sys2Proof.Machine.execOverflowFlagsWrite a0 a1 a2 a3 s
  | .samplingIntervalWrite a0 a1 a2 => Sys2Proof.Machine.execSamplingIntervalWrite a0 a1 a2 s
  | .clearSamples a0 a1 => Sys2Proof.Machine.execClearSamples a0 a1 s
  | .resetStatistics a0 => Sys2Proof.Machine.execResetStatistics a0 s
  | .rawStateChange a0 a1 a2 a3 a4 => Sys2Proof.Machine.execRawStateChange a0 a1 a2 a3 a4 s
  | .kdpUnknownOperation a0 a1 => Sys2Proof.Machine.execKdpUnknownOperation a0 a1 s
  | .commaAlignment a0 => Sys2Proof.Machine.execCommaAlignment a0 s
  | .jump a0 a1 a2 a3 => Sys2Proof.Machine.execJump a0 a1 a2 a3 s
  | .lui a0 a1 a2 a3 => Sys2Proof.Machine.execLui a0 a1 a2 a3 s
  | .illegalInstruction a0 a1 => Sys2Proof.Machine.execIllegalInstruction a0 a1 s
  | .jtagFuseProgram a0 a1 => Sys2Proof.Machine.execJtagFuseProgram a0 a1 s
  | .dieTemperatureClear a0 a1 => Sys2Proof.Machine.execDieTemperatureClear a0 a1 s
  | .vioNConditionGone a0 => Sys2Proof.Machine.execVioNConditionGone a0 s
  | .vholdCharged a0 => Sys2Proof.Machine.execVholdCharged a0 s
  | .groupSupplyWarningClear a0 a1 a2 => Sys2Proof.Machine.execGroupSupplyWarningClear a0 a1 a2 s
  | .sourceRetryConditionGone a0 a1 => Sys2Proof.Machine.execSourceRetryConditionGone a0 a1 s
  | .rollbackWindowExpiry a0 => Sys2Proof.Machine.execRollbackWindowExpiry a0 s
  | .summaryRecordWindow a0 => Sys2Proof.Machine.execSummaryRecordWindow a0 s

end Sys2Proof.Machine
end

