-- ==== Sys2Proof/Safety.lean ====
section
/-! DEFINITION. What claims speak of: a command that completes, the parts of the state that a command may write,
the changes of the device state that the manual lists, and the agreement of the two passes of a core. -/

namespace Sys2Proof.Machine

/-- A command completes: `exec` answers a next state, of which `P` holds. -/
def Completes (c : Instr) (s : State) (P : State → Prop) : Prop :=
  ∃ t, exec c s = .next t ∧ P t

/-! ### Parts of the state -/

/-- The parts of the state. -/
inductive Area where
  | queue
  | ctl
  | power
  | fuses
  | cfg
  | dict
  | field
  | pairs
  | array
  | outs
  | proc
  | col
  | breach
  | test
  | net
  | led
  | time
  | draws
deriving DecidableEq, Repr

/-- A part is the same in two states. -/
def Area.same (p : Area) (s t : State) : Prop :=
  match p with
  | .queue => t.pending = s.pending
  | .ctl => t.ctl = s.ctl
  | .power => t.power = s.power
  | .fuses => t.fuses = s.fuses
  | .cfg => t.cfg = s.cfg
  | .dict => t.dict = s.dict
  | .field => t.field = s.field
  | .pairs => t.pairs = s.pairs
  | .array => t.array = s.array
  | .outs => t.outs = s.outs
  | .proc => t.proc = s.proc
  | .col => t.col = s.col
  | .breach => t.breach = s.breach
  | .test => t.test = s.test
  | .net => t.net = s.net
  | .led => t.led = s.led
  | .time => t.time = s.time
  | .draws => t.draws = s.draws

/-- From `s` to `t`, no part outside `ws` changes. -/
def OnlyWrites (ws : List Area) (s t : State) : Prop := ∀ p, p ∉ ws → p.same s t

/-- The parts that the raising of a fault may write: the collector with the Ledger's copy and its losses, the
waiting request and the cores that the reaction halts or removes, and the tests it abandons (R338, R339, R378). -/
def raiseParts : List Area := [.ctl, .array, .proc, .col, .breach, .test, .led, .draws]

/-- The parts that a command may write. -/
def writes : Instr → List Area
  | .powerUp | .resetExit _ =>
    [.ctl, .power, .fuses, .cfg, .dict, .field, .pairs, .array, .outs, .proc, .col, .breach, .test, .net, .led, .time]
  | .resetNFall =>
    [.ctl, .dict, .array, .outs, .proc, .col, .breach, .test, .led]
  | .fuseSenseComplete _ | .startupMemoryBistComplete _ _ =>
    [.ctl, .fuses, .array, .proc, .col, .breach, .test, .net, .led, .draws]
  | .fDieInventoryComplete _ _ =>
    [.ctl, .power, .array]
  | .startupLogicBistComplete _ _ _ =>
    [.ctl, .power, .test]
  | .nandMount _ | .requestSafe _ | .requestRun _ | .requestConfigure _ | .requestMaintenance _ | .kdpRead _ _
  | .kdpWrite _ _ | .kdpReadMulti _ _ | .kdpSubscribe _ _ | .sessionChallenge _ _ _ | .clientNonceWrite _ _
  | .sessionAnswer _ _ | .sessionClose _ | .hspiWriteRequest _ | .sdoInitiateDownload _ _ _ _ _ _
  | .sdoDownloadSegment _ _ _ _ | .sdoInitiateUpload _ _ _ | .sdoUploadSegment _ _ | .sdoBlockDownload _ _
  | .sdoBlockUpload _ _ | .objectWrite _ _ _ _ | .imageStagingWrite _ _ _ | .parameterStagingWrite _ _ _ _
  | .imageCommit _ _ | .parameterCommit _ | .discardStaging _ | .nextEventRead _ _ | .relearn _ _
  | .acknowledge _ _ | .clearHistory _ | .releaseFirstFault _ | .faultRecordRead _ _ _ | .faultInjectionStart _
  | .resetRecoveryCounter _ _ | .testRequest _ _ | .canFrameReceived _ _ _ _ _ _ | .streamStartWrite _ _ _
  | .format _ | .pinRequest _ | .releasePin _ _ | .ledgerPageRead _ _ | .pinnedPageRead _ _ | .setDeviceTime _ _
  | .nextSecond _ _ | .eventSelectWrite _ _ _ _ | .counterWrite _ _ _ _ _ | .overflowFlagsWrite _ _ _ _
  | .samplingIntervalWrite _ _ _ | .clearSamples _ _ | .resetStatistics _ | .kdpUnknownOperation _ _ =>
    [.ctl, .cfg, .dict, .field, .pairs, .array, .outs, .proc, .col, .breach, .test, .net, .led, .time, .draws]
  | .imageReadComplete | .signatureVerificationComplete | .startupStepTimeout =>
    [.ctl, .cfg, .field, .pairs, .array, .outs, .proc, .col, .breach, .test, .net, .led, .draws]
  | .readbackAndLockComplete _ _ | .commitComplete _ _ | .parameterCommitComplete _ =>
    [.ctl, .cfg, .dict, .field, .pairs, .array, .outs, .proc, .col, .breach, .test, .net, .led, .draws]
  | .cSupplyMonitorTrip _ _ | .pfailNLow =>
    [.ctl, .power, .dict, .array, .proc, .col, .breach, .test, .net, .led, .time, .draws]
  | .vfldLTrip _ _ | .vfldLTripEnd _ _ | .groupSupplyUndervoltage _ _ _ | .groupSupplyOvervoltage _ _ _
  | .groupSupplyPresent _ _ _ =>
    [.ctl, .power, .field, .pairs, .array, .outs, .proc, .col, .breach, .test, .led, .draws]
  | .vioNFault _ | .dieTemperatureWarning _ _ | .cDieOvertemperature _ | .vholdLow _ | .groupSupplyWarning _ _ _ =>
    [.ctl, .power, .array, .proc, .col, .breach, .test, .led, .draws]
  | .fDieOvertemperature _ _ | .clockMonitorFault _ _ _ | .alignmentFrame _ _ _ _ =>
    [.ctl, .power, .array, .outs, .proc, .col, .breach, .test, .led, .draws]
  | .vholdShortDetected _ =>
    [.power]
  | .holdupExhausted =>
    [.power, .col, .breach, .led]
  | .tapStateChange | .jtagFuseProgram _ _ =>
    [.ctl, .fuses, .array, .proc, .col, .breach, .test, .led, .draws]
  | .enableFrame _ _ _ _ _ _ | .enableFrameTimeout _ =>
    [.array]
  | .curfewStopDetected _ _ =>
    [.ctl, .array, .proc, .col, .breach, .test, .led]
  | .statusLinkFrame _ _ _ _ _ | .sharedSignalSegment _ _ _ _ _ | .segmentThirdFailure _ _ | .ringBroken _ _
  | .fEscapementResponse _ _ _ | .fEscapementMissed _ | .lockedMemoryWrite _ _ | .laneAgreementTimeout _
  | .pairLaneDisagreement _ | .inputOvervoltage _ _ | .windowOverrun _ | .mechanicalTestOverdue _ _
  | .add _ _ _ _ | .sub _ _ _ _ _ | .and _ _ _ _ _ | .or _ _ _ _ _ | .xor _ _ _ _ _ | .sll _ _ _ _ _
  | .srl _ _ _ _ _ | .sra _ _ _ _ _ | .slt _ _ _ _ _ _ | .branch _ _ _ _ _ _ | .multiply _ _ _ _ _
  | .divide _ _ _ _ _ | .remainder _ _ _ _ _ | .load _ _ _ _ _ _ _ | .store _ _ _ _ _ _ | .csrAccess _ _ _ _ _
  | .fence _ | .fenceI _ | .ecall _ | .ebreak _ _ | .checkpoint _ _ | .comparatorRailFault _ | .memoryScrub _
  | .plannedHandover _ | .coreBistComplete _ _ | .ts3MemoryBistComplete _ | .pageProgramComplete _
  | .nandBusyTimeout | .jump _ _ _ _ | .lui _ _ _ _ | .illegalInstruction _ _ =>
    raiseParts
  | .runEntry =>
    [.ctl, .pairs, .col, .breach, .led]
  | .subscriptionNotification _ _ =>
    [.ctl, .dict, .field, .array, .proc, .col, .breach, .test, .net, .led, .draws]
  | .subscriptionLapse _ | .challengeExpiry | .lockoutEnd | .hspiReadResponse | .hspiReadStatus
  | .hspiUnknownCommand _ | .sdoAbortTransfer _ _ =>
    [.dict]
  | .sessionTimeout =>
    [.ctl, .dict, .field, .pairs, .array, .outs, .proc, .col, .breach, .test, .net, .led, .draws]
  | .sdoTimeout _ =>
    [.dict, .col, .breach, .net, .led, .draws]
  | .imageSlotWritten _ _ _ =>
    [.ctl, .power, .fuses, .cfg, .dict, .field, .pairs, .array, .outs, .proc, .col, .breach, .test, .net, .led, .draws]
  | .filteredChange _ _ _ _ | .ossdOff _ _ _ _ | .discrepancyDeadline _ _ =>
    [.ctl, .field, .pairs, .array, .proc, .col, .breach, .test, .led, .time, .draws]
  | .laneInputDisagreement _ _ | .transitionRegionFault _ _ | .islandStatusInvalid _ | .busMismatch _ _
  | .skewParityError _ _ | .escapementWindowMissed _ | .chimeRound _ | .scrubPass _ _ _ | .ppsEdge _ _
  | .ppsLost _ | .holdoverLimit =>
    [.ctl, .array, .proc, .col, .breach, .test, .led, .time, .draws]
  | .testPulseStart _ _ _ | .rawStateChange _ _ _ _ _ =>
    [.field, .time]
  | .testPulseEvaluation _ _ _ | .plausibilityFault _ _ _ =>
    [.ctl, .field, .array, .proc, .col, .breach, .test, .led, .time, .draws]
  | .sourceCurrentLimit _ _ | .readbackCalibration _ _ =>
    [.ctl, .field, .array, .proc, .col, .breach, .test, .led, .draws]
  | .sourceRetry _ _ =>
    [.field]
  | .readbackUpdate _ _ _ | .sourceRetryConditionGone _ _ =>
    [.field, .proc, .col, .breach, .led]
  | .samplingStartHoldEnd _ _ _ | .resetPressOverlong _ _ | .resetButtonStuck _ =>
    [.ctl, .pairs, .array, .proc, .col, .breach, .test, .led, .time, .draws]
  | .resetStuckLift _ =>
    [.pairs, .proc, .col, .breach, .led, .time]
  | .evaluationWindow _ _ _ _ =>
    [.ctl, .dict, .pairs, .array, .outs, .proc, .col, .breach, .test, .led, .time, .draws]
  | .blockTimerExpiry _ _ _ | .edmTimeout _ _ _ | .brakePullInElapsed _ _ _ =>
    [.ctl, .dict, .array, .outs, .proc, .col, .breach, .test, .led, .time, .draws]
  | .arrayBistStart _ =>
    [.array, .test]
  | .arrayBistEnd _ _ _ _ | .darkTestEvaluation _ _ | .lightTestEvaluation _ _ _ =>
    [.ctl, .array, .outs, .proc, .col, .breach, .test, .led, .time, .draws]
  | .outputCurrentLimit _ _ | .returnCurrentLimit _ _ | .groupCurrentMean _ _ _ | .externalFeed _ _ _
  | .pmCurrentMismatch _ _ | .minimumLoad _ _ | .holdingCurrentFault _ _ _ | .calibration _ _
  | .calibrationOverdue _ | .testOverdue _ =>
    [.ctl, .array, .outs, .proc, .col, .breach, .test, .led, .draws]
  | .externalFeedGone _ _ _ =>
    [.outs, .proc, .col, .breach, .led]
  | .darkTestStart _ _ | .lightTestStart _ _ _ =>
    [.outs, .time]
  | .learnedValuePersist | .ledgerRecord _ | .parameterSetWrite | .wearLevellingMove _ | .operatingTimePersist
  | .pinCopyStart _ =>
    [.col, .breach, .led]
  | .coilOpen _ _ | .coilOvercurrent _ _ _ | .signatureDecision _ _ _ =>
    [.ctl, .dict, .array, .outs, .proc, .col, .breach, .test, .led, .draws]
  | .mechanicalTestPhaseEnd _ _ =>
    [.array, .outs, .proc, .col, .breach, .led, .time]
  | .safetyCycleBoundary _ | .faultInjection _ | .telegramReceived _ _ _ | .watchdogExpiry _
  | .pairedInputDisagreement _ =>
    [.ctl, .array, .outs, .proc, .col, .breach, .test, .net, .led, .time, .draws]
  | .faultReport _ | .faultRecordCommit _ =>
    [.ctl, .dict, .array, .proc, .col, .breach, .test, .net, .led, .time, .draws]
  | .quietPeriodEnd _ | .rollbackWindowExpiry _ =>
    [.proc, .col, .breach, .led]
  | .itemEligible _ | .ts3MemoryBistStart =>
    [.test]
  | .rotationStep =>
    [.proc, .test]
  | .phyStatusPoll _ | .portLinkChange _ _ _ _ | .arpRequest _ _ _ _ _ | .icmpEchoRequest _ _
  | .supervisionFrameReceived _ | .busOff _ | .busOffRecovery _ | .commaAlignment _ =>
    [.col, .breach, .net, .led]
  | .ethernetFrameReceived _ _ =>
    [.ctl, .dict, .array, .outs, .proc, .col, .breach, .test, .net, .led, .draws]
  | .arpEntryExpiry _ _ | .addressEntryAgeing _ _ | .duplicateEntryForget _ _ _ | .helloSend _
  | .spiTransferComplete _ _ | .uartStatusFrame _ =>
    [.net, .time]
  | .frameTransmitComplete _ | .linkSynced _ | .uartXoff _ | .uartXon _ =>
    [.net]
  | .supervisionFrameSend _ | .supervisionLoss _ | .helloTimeout _ =>
    [.col, .breach, .net, .led, .time]
  | .ptpSync _ _ _ _ | .ptpDelayReq _ _ _ _ | .heartbeat | .pairingExchangeSend | .pairingCheckSend =>
    [.col, .breach, .net, .led, .time, .draws]
  | .ptpFollowUp _ _ _ _ | .temperatureSensorPoll _ | .timeSourceLost =>
    [.ctl, .array, .proc, .col, .breach, .test, .net, .led, .time, .draws]
  | .ptpDelayResp _ _ _ | .frameInterrupted _ =>
    [.net, .draws]
  | .ptpPeerDelay _ _ _ _ _ =>
    [.net, .time, .draws]
  | .nmtStart _ _ | .nmtStop _ _ | .nmtEnterPreOperational _ _ | .nmtResetCommunication _ _ | .nmtResetNode _ _
  | .linkSymbolLoss _ =>
    [.col, .breach, .net, .led, .draws]
  | .helloReceived _ _ | .uartLedgerPage _ =>
    [.ctl, .array, .proc, .col, .breach, .test, .net, .led, .draws]
  | .linkFrameReceived _ _ =>
    [.ctl, .array, .outs, .proc, .col, .breach, .test, .net, .led, .draws]
  | .pageAgeSeal | .holdupPageSeal =>
    [.led]
  | .formatComplete _ _ =>
    [.ctl, .cfg, .dict, .pairs, .array, .outs, .proc, .col, .breach, .test, .net, .led, .time, .draws]
  | .ppsoSecond =>
    [.time]
  | .powerGoodTimeout _ =>
    [.ctl, .power, .array, .outs, .proc, .col, .breach, .test, .net, .led, .draws]
  | .dieTemperatureClear _ _ | .vioNConditionGone _ | .vholdCharged _ | .groupSupplyWarningClear _ _ _ =>
    [.power, .proc, .col, .breach, .led]
  | .summaryRecordWindow _ =>
    [.col, .breach, .led, .time]

/-! ### Device states -/

/-- The transitions of Table AR-7 (R42). -/
def transitionListed (a b : DevState) : Bool :=
  match a, b with
  | _, .reset => true
  | .reset, .fuseSense => true
  | .fuseSense, .startupTest => true
  | .startupTest, .configLoad => true
  | .configLoad, .safe => true
  | .safe, .run => true
  | .run, .safe => true
  | .safe, .configure => true
  | .configure, .safe => true
  | .safe, .maintenance => true
  | .maintenance, .safe => true
  | .startupTest, .halt => true
  | .configLoad, .halt => true
  | .safe, .halt => true
  | .run, .halt => true
  | .configure, .halt => true
  | .maintenance, .halt => true
  | _, _ => false

/-! ### Faults -/

/-- A fault of this code and source is in effect, raised with its condition present or not. -/
def InEffect (code src : Nat) (s : State) : Prop := faultActive s code src = true

/-- The collector has room for 128 more: for a fault and for those that the same command may raise before it. -/
def roomy (s : State) : Prop := unclearedCount s + s.col.pending.length + 128 ≤ 1024

/-- No record of this code and source is held, and no report of them waits. -/
def Unreported (code src : Nat) (s : State) : Prop :=
  faultActive s code src = false ∧ ∀ r ∈ s.col.records, r.code = code → r.source ≠ src

/-- A fault of this code and source is in effect, if the collector had room for it before (R339, R344). -/
def Raised (code src : Nat) (s t : State) : Prop := roomy s → InEffect code src t

/-- A fault of L2 or above of this code and source is in effect, or 0x0E02 is, of a collector that had no room (R339,
R344). -/
def Reported (code src : Nat) (t : State) : Prop := InEffect code src t ∨ InEffect 0x0E02 0x077E t

/-- No record of this code and source is uncleared with its condition present (R346). -/
def CondGone (code src : Nat) (t : State) : Prop :=
  ∀ r ∈ t.col.records, r.uncleared = true → r.code = code → r.source = src → r.present = false

/-! ### Accesses (R124, R131) -/

/-- An access over the transport `c` has its turn when it comes: no access waits before it, none of its own transport
waits, and none is held that would follow it (R120). -/
def HasTurn (c : Nat) (s : State) : Prop :=
  s.dict.held = [] ∧ turnOf s.time.now c s = true ∧ waitsOf c s = false

/-- A requester's access is served in its turn and not turned away as busy. -/
def Served (r : Requester) (s : State) : Prop :=
  served s r = true ∧ busy r (countLoad (touch r s)).1 = false ∧ HasTurn r.code s

/-- A SESSION operation of a requester that is served comes to its execution: it has its turn, nothing is held that would
follow it, and a KDP request of it that waits is one that the operation takes and has not been answered before (R120, R134,
R135). -/
def SessionTurn (r : Requester) (s : State) : Prop :=
  served s r = true ∧ busy r (countLoad (arrives r s)).1 = false ∧ s.dict.held = [] ∧ itsTurn s r = true
    ∧ sessionRepeat s r = none
    ∧ ∀ fr, sessionFrame s r = some fr → (sessionReq fr).version = 1 ∧ operationKnown (sessionReq fr) = true

/-- The parts that the reading of an object and its answer may write: a page of the Ledger that is read may show an error,
and a record that is read is marked (R347, R457). -/
def readParts : List Area := [.ctl, .dict, .field, .array, .proc, .col, .breach, .test, .net, .led, .draws]

/-- The parts that an answer may write: its frame may meet a full queue, which counts (R330, R386). -/
def answerParts : List Area := [.dict, .col, .breach, .net, .led]

/-- The transport of a requester was answered with this abort code, 0 where the access was accepted. -/
def Answered (r : Requester) (abort : Nat) (t : State) : Prop :=
  (tget {} t.dict.replies r.code).abort = abort

/-- A KDP request of a served requester has its turn, nothing is held that would follow it, and it is not turned away as
busy (R120, R124). -/
def KdpServed (r : Requester) (s : State) : Prop :=
  kdpServed s r = true ∧ itsTurn s r = true ∧ s.dict.held = []
    ∧ busy r (countLoad (takeFrame r (arrives r s))).1 = false

/-- The state in which a KDP request runs: its frame has left its place and is counted, and where the command itself
brings it, the requester's inactivity limit starts anew. -/
def kdpAt (r : Requester) (s : State) : State := (countLoad (takeFrame r (arrives r s))).2

/-- A frame went to a client: behind the host SPI's waiting responses, or out of a station as `kdpSend` sends it. -/
def Sent (r : Requester) (fr : List Byte) (s t : State) : Prop :=
  if r.code = 1 then t.dict.hspi.responses = s.dict.hspi.responses ++ [fr] else t.net = (kdpSend r fr s).net

/-! ### The passes of a core (R292, R293) -/

/-- Every core's shadow pass holds the complement of its primary pass. -/
def PassesAgree (s : State) : Prop := ∀ k, (core s k).shad = (core s k).prim.inv

/-! ### The instructions of a core -/

/-- A core that issues, whose fetch of an instruction is permitted, whose passes agree and whose memories hold no
error runs it (R288, R290, R295, R307). -/
def Runs (s : State) (k : Nat) (compressed : Bool) : Prop :=
  issues s k = true ∧ fetchOk s k compressed = true ∧ (core s k).shad = (core s k).prim.inv ∧ s.proc.upsets = []

/-- Register `r` of the primary pass of core `k`. -/
def xreg (s : State) (k : Nat) (r : BitVec 5) : Word := (core s k).prim.get r

/-- The second operand of core `k`: a register, or the immediate with its sign extended. -/
def src2 (s : State) (k : Nat) : Src2 → Word
  | .reg r => xreg s k r
  | .imm v => v.signExtend 32

/-- An instruction of core `k` writes only that core: its two passes, its skew registers and its counters, and the
count of free values. The other cores, every memory, and the rest of the core's state stay. -/
def OnlyCore (k : Nat) (s t : State) : Prop :=
  OnlyWrites [.proc, .draws] s t ∧ t.proc = { s.proc with cores := t.proc.cores }
    ∧ (∀ j, j ≠ k → core t j = core s j)
    ∧ core t k = { core s k with
      prim := (core t k).prim, shad := (core t k).shad, perf := (core t k).perf, skew := (core t k).skew }

/-- The CSRs of the primary pass of core `k` change only by the counting of one instruction. -/
def CsrsCount (k : Nat) (s t : State) : Prop :=
  ∃ n, (core t k).prim.csrs = (core s k).prim.csrs.count n

/-- Core `k` has the value `v` in register `rd` (nothing, for x0) and every other register as before. -/
def RegWritten (k : Nat) (rd : BitVec 5) (v : Word) (s t : State) : Prop :=
  ∀ r, xreg t k r = if r = rd ∧ rd ≠ 0 then v else xreg s k r

/-- An instruction that writes `v` to `rd`, moves past itself and writes nothing else (R286). -/
def WritesReg (k : Nat) (compressed : Bool) (rd : BitVec 5) (v : Word) (s t : State) : Prop :=
  OnlyCore k s t ∧ CsrsCount k s t ∧ RegWritten k rd v s t
    ∧ (core t k).prim.pc = (core s k).prim.pc + isize compressed

/-- The address of a load or store. -/
def effAddr (s : State) (k : Nat) (rs1 : BitVec 5) (off : BitVec 12) : Nat :=
  (xreg s k rs1 + off.signExtend 32).toNat

/-- Core `k` has trapped with a cause: it issues no more, mepc holds the address of the instruction, mcause the
cause, the pc stands at the trap sink, and 0x0605 is raised for the core (R291). No register and no memory
changes. -/
def TrappedWith (k : Nat) (cause : Word) (s t : State) : Prop :=
  OnlyWrites raiseParts s t ∧ (core t k).trapped = true ∧ (core t k).prim.csrs.mcause = cause
    ∧ (core t k).prim.csrs.mepc = (core s k).prim.pc ∧ (core t k).prim.pc = (core s k).prim.csrs.mtvec
    ∧ RegWritten k 0 0 s t ∧ t.proc.tcms = s.proc.tcms ∧ t.proc.parts = s.proc.parts
    ∧ InEffect 0x0605 (0x0700 + k) t

/-! ### Anti-fuses (R90) -/

/-- Bit `b` of fuse word `w` is blown. -/
def Blown (w b : Nat) (s : State) : Prop := (tget {} s.fuses.array w).value.getLsbD b = true

end Sys2Proof.Machine
end

