-- ==== Sys2Proof/Certificates/Slice0/Obligations.lean ====
section
/-! DEFINITION. The statements about the model that the provers are given. Each names the rules of the manual
that it speaks of; where a clause rests on a choice of the model, its docstring names the log entry. -/

open Sys2Proof Sys2Proof.Machine

/-! ### The block -/

/-- The block takes the command at the front of its queue and runs it on the state with the queue's rest. -/
def Obligations.StepRunsFront : Prop :=
  ∀ (c : Instr) (rest : List Instr) (s : State), s.pending = c :: rest →
    step s = exec c { s with pending := rest }

/-- On an empty queue a step is one cycle of the TIME clock and nothing else (the model's choice, log entry 1):
in RESET every time stands, in FUSE_SENSE the operating time stands, from STARTUP_TEST on all run. The count of PLL A
advances by 10 ns, and so does device time where it is not adjusted, counted in 64 bits with the fraction of the
accumulator (R462, R463). -/
def Obligations.StepIdles : Prop :=
  ∀ s : State, s.pending = [] → ∃ t, step s = .next t ∧ OnlyWrites [.time] s t
    ∧ (s.ctl.st = .reset → t = s)
    ∧ (s.ctl.st ≠ .reset → s.time.adjust = 0 →
      t.time.dev * 2 ^ 32 + t.time.frac = ((s.time.dev + 10) * 2 ^ 32 + s.time.frac) % 2 ^ 96)
    ∧ (s.ctl.st ≠ .reset → t.time.now = s.time.now + 10)
    ∧ (s.ctl.st = .fuseSense → t.time.opNs = s.time.opNs)
    ∧ (s.ctl.st ≠ .reset → s.ctl.st ≠ .fuseSense → t.time.opNs = s.time.opNs + 10)

/-- Every command completes in every state: none faults and none is refused. No command writes a part of the state that
is not its own: the whole frame of the command set. -/
def Obligations.CommandsWriteOnlyTheirParts : Prop :=
  (∀ (c : Instr) (s : State), Completes c s (OnlyWrites (writes c) s))
  ∧ ∀ (c : Instr) (s t : State), exec c s = .next t → OnlyWrites (writes c) s t

/-- A transition of the device state that Table AR-7 does not list does not occur (R42): every step leaves the
state, or changes it by a listed transition. -/
def Obligations.TransitionsAreListed : Prop :=
  ∀ s t : State, step s = .next t → t.ctl.st = s.ctl.st ∨ transitionListed s.ctl.st t.ctl.st = true

/-- Both passes of every core agree after every step that begins with them in agreement: the complement-domain
execution of R292 to R294 holds for every instruction, and a trap, a rollback, a takeover, a handover and a
reset load both passes alike. -/
def Obligations.PassesStayComplementary : Prop :=
  ∀ s t : State, PassesAgree s → step s = .next t → PassesAgree t

/-- A blown fuse stays blown (R90): no step of the block turns a programmed bit of the array back. -/
def Obligations.BlownFusesStay : Prop :=
  ∀ (w b : Nat) (s t : State), Blown w b s → step s = .next t → Blown w b t

/-- In the reset state the device is in RESET with BOOT_ST 0xF and FAULT_N low (R84), the request, the
collector and the queue are empty, both passes of every core agree, and fuse word 1 of the RK-8S part of log entry 7 has
its seven site bits blown. -/
def Obligations.ResetState : Prop :=
  State.reset.ctl.st = .reset ∧ State.reset.ctl.boot = 0xF ∧ faultNLow State.reset = true
    ∧ State.reset.ctl.request = none ∧ State.reset.pending = [] ∧ State.reset.col.pending = []
    ∧ State.reset.col.records = [] ∧ State.reset.ctl.transitions = 0 ∧ PassesAgree State.reset
    ∧ ∀ b, b < 7 → Blown 1 b State.reset

/-! ### The cores (R286 to R294) -/

/-- The register and immediate forms of the arithmetic, logic, shift and comparison instructions, LUI and AUIPC:
the destination takes the result, x0 discards it, the pc moves on, and nothing else changes. A shift takes the
low five bits of its amount. -/
def Obligations.ArithmeticInstructions : Prop :=
  ∀ (s : State) (k : Nat) (c : Bool), Runs s k c →
    (∀ rd rs1 b, Completes (.add k c rd (.src rs1 b)) s
      (WritesReg k c rd (xreg s k rs1 + src2 s k b) s))
    ∧ (∀ rd imm, Completes (.add k c rd (.auipc imm)) s
      (WritesReg k c rd ((Machine.core s k).prim.pc + (imm ++ (0 : BitVec 12))) s))
    ∧ (∀ rd rs1 rs2, Completes (.sub k c rd rs1 rs2) s
      (WritesReg k c rd (xreg s k rs1 - xreg s k rs2) s))
    ∧ (∀ rd rs1 b, Completes (.and k c rd rs1 b) s (WritesReg k c rd (xreg s k rs1 &&& src2 s k b) s))
    ∧ (∀ rd rs1 b, Completes (.or k c rd rs1 b) s (WritesReg k c rd (xreg s k rs1 ||| src2 s k b) s))
    ∧ (∀ rd rs1 b, Completes (.xor k c rd rs1 b) s (WritesReg k c rd (xreg s k rs1 ^^^ src2 s k b) s))
    ∧ (∀ rd rs1 b, Completes (.sll k c rd rs1 b) s
      (WritesReg k c rd (xreg s k rs1 <<< ((src2 s k b).extractLsb' 0 5).toNat) s))
    ∧ (∀ rd rs1 b, Completes (.srl k c rd rs1 b) s
      (WritesReg k c rd (xreg s k rs1 >>> ((src2 s k b).extractLsb' 0 5).toNat) s))
    ∧ (∀ rd rs1 b, Completes (.sra k c rd rs1 b) s
      (WritesReg k c rd ((xreg s k rs1).sshiftRight ((src2 s k b).extractLsb' 0 5).toNat) s))
    ∧ (∀ rd rs1 b, Completes (.slt k c false rd rs1 b) s
      (WritesReg k c rd (if (xreg s k rs1).toInt < (src2 s k b).toInt then 1 else 0) s))
    ∧ (∀ rd rs1 b, Completes (.slt k c true rd rs1 b) s
      (WritesReg k c rd (if (xreg s k rs1).toNat < (src2 s k b).toNat then 1 else 0) s))
    ∧ (∀ rd imm, Completes (.lui k c rd imm) s (WritesReg k c rd (imm ++ (0 : BitVec 12)) s))

/-- The multiplications give the low word, or the high word of the product of two signed, of a signed and an
unsigned, or of two unsigned numbers. The divisions truncate towards zero; a divisor of 0 gives −1 and leaves
the dividend as the remainder (R294). -/
def Obligations.MultiplyAndDivide : Prop :=
  ∀ (s : State) (k : Nat) (rd rs1 rs2 : BitVec 5), Runs s k false →
    let a := xreg s k rs1
    let b := xreg s k rs2
    Completes (.multiply k .mul rd rs1 rs2) s (WritesReg k false rd (a * b) s)
    ∧ Completes (.multiply k .mulh rd rs1 rs2) s
      (WritesReg k false rd ((a.signExtend 64 * b.signExtend 64).extractLsb' 32 32) s)
    ∧ Completes (.multiply k .mulhsu rd rs1 rs2) s
      (WritesReg k false rd ((a.signExtend 64 * b.zeroExtend 64).extractLsb' 32 32) s)
    ∧ Completes (.multiply k .mulhu rd rs1 rs2) s
      (WritesReg k false rd ((a.zeroExtend 64 * b.zeroExtend 64).extractLsb' 32 32) s)
    ∧ Completes (.divide k false rd rs1 rs2) s
      (WritesReg k false rd (if b = 0 then 0xFFFFFFFF else a.sdiv b) s)
    ∧ Completes (.divide k true rd rs1 rs2) s
      (WritesReg k false rd (if b = 0 then 0xFFFFFFFF else a.udiv b) s)
    ∧ Completes (.remainder k false rd rs1 rs2) s (WritesReg k false rd (if b = 0 then a else a.srem b) s)
    ∧ Completes (.remainder k true rd rs1 rs2) s (WritesReg k false rd (if b = 0 then a else a.umod b) s)

/-- A branch whose condition holds goes to its target, another falls through; a jump goes to its target and
writes the address of the instruction after it. The target of a taken branch or a jump has an even address. -/
def Obligations.BranchesAndJumps : Prop :=
  ∀ (s : State) (k : Nat) (c : Bool), Runs s k c →
    (∀ cond rs1 rs2 off, taken cond (xreg s k rs1) (xreg s k rs2) = true →
      ((Machine.core s k).prim.pc + off.signExtend 32).getLsbD 0 = false →
      Completes (.branch k c cond rs1 rs2 off) s (fun t =>
        OnlyCore k s t ∧ CsrsCount k s t ∧ RegWritten k 0 0 s t
          ∧ (Machine.core t k).prim.pc = (Machine.core s k).prim.pc + off.signExtend 32))
    ∧ (∀ cond rs1 rs2 off, taken cond (xreg s k rs1) (xreg s k rs2) = false →
      Completes (.branch k c cond rs1 rs2 off) s (fun t =>
        OnlyCore k s t ∧ CsrsCount k s t ∧ RegWritten k 0 0 s t
          ∧ (Machine.core t k).prim.pc = (Machine.core s k).prim.pc + isize c))
    ∧ (∀ rd off, ((Machine.core s k).prim.pc + off.signExtend 32).getLsbD 0 = false →
      Completes (.jump k c rd (.jal off)) s (fun t =>
        OnlyCore k s t ∧ CsrsCount k s t ∧ RegWritten k rd ((Machine.core s k).prim.pc + isize c) s t
          ∧ (Machine.core t k).prim.pc = (Machine.core s k).prim.pc + off.signExtend 32))
    ∧ (∀ rd rs1 off, Completes (.jump k c rd (.jalr rs1 off)) s (fun t =>
        OnlyCore k s t ∧ CsrsCount k s t ∧ RegWritten k rd ((Machine.core s k).prim.pc + isize c) s t
          ∧ (Machine.core t k).prim.pc = (xreg s k rs1 + off.signExtend 32) &&& 0xFFFFFFFE))

/-- A permitted, aligned load of a word with good check bits: the destination takes the bytes at the address,
least significant first, sign- or zero-extended (R288). -/
def Obligations.Loads : Prop :=
  ∀ (s : State) (k : Nat) (c : Bool) (rd rs1 : BitVec 5) (off : BitVec 12), Runs s k c →
    let a := effAddr s k rs1 off
    let t := target (Machine.core s k).part a
    t.loads = true →
    (∀ m, a % loadSize m = 0 → Completes (.load k c m rd rs1 off .clean) s
      (WritesReg k c rd (loadExt m (loadVal s k a (loadSize m))) s))
    ∧ (∀ m o, a % loadSize m = 0 → t = .dtcm o → loadVal s k a (loadSize m)
      = unle (rdBytes (tcm s (Machine.core s k).set).dmem o (loadSize m)))
    ∧ (∀ v, loadExt .lb v = (BitVec.ofNat 8 v).signExtend 32 ∧ loadExt .lh v = (BitVec.ofNat 16 v).signExtend 32
      ∧ loadExt .lw v = BitVec.ofNat 32 v ∧ loadExt .lbu v = BitVec.ofNat 32 v
      ∧ loadExt .lhu v = BitVec.ofNat 32 v)

/-- A permitted, aligned store with room in the journal: the bytes of the low part of the source land in the data
TCM or in the partition's region, least significant first, and no other byte of a memory changes; the old word
goes to the journal (R288, R299). A store to ESC_RESP or CYCLE_END is posted, and CYCLE_END ends the core's cycle
(R299, R308). No register changes. -/
def Obligations.Stores : Prop :=
  ∀ (s : State) (k : Nat) (c : Bool) (m : StoreKind) (rs1 rs2 : BitVec 5) (off : BitVec 12), Runs s k c →
    let a := effAddr s k rs1 off
    let w := (Machine.core s k).set
    let n := storeSize m
    a % n = 0 → (tcm s w).journal.length < 512 →
    (∀ o, target (Machine.core s k).part a = .dtcm o → Completes (.store k c m rs1 rs2 off) s (fun t =>
      OnlyWrites [.proc, .draws] s t ∧ RegWritten k 0 0 s t
        ∧ (Machine.core t k).prim.pc = (Machine.core s k).prim.pc + isize c
        ∧ (∀ b, rdByte (tcm t w).dmem b = if o ≤ b ∧ b < o + n
            then (xreg s k rs2).extractLsb' (8 * (b - o)) 8 else rdByte (tcm s w).dmem b)
        ∧ (tcm t w).journal = (a - a % 4, rdWord (tcm s w).dmem (o - o % 4)) :: (tcm s w).journal
        ∧ (tcm t w).imem = (tcm s w).imem ∧ (∀ j, j ≠ w → tcm t j = tcm s j) ∧ t.proc.parts = s.proc.parts
        ∧ t.proc.image = s.proc.image))
    ∧ (∀ o, target (Machine.core s k).part a = .region o → Completes (.store k c m rs1 rs2 off) s (fun t =>
      OnlyWrites [.proc, .draws] s t ∧ RegWritten k 0 0 s t
        ∧ (Machine.core t k).prim.pc = (Machine.core s k).prim.pc + isize c
        ∧ (∀ b, rdByte (part t (Machine.core s k).part).region b = if o ≤ b ∧ b < o + n
            then (xreg s k rs2).extractLsb' (8 * (b - o)) 8 else rdByte (part s (Machine.core s k).part).region b)
        ∧ (tcm t w).journal
            = (a - a % 4, rdWord (part s (Machine.core s k).part).region (o - o % 4)) :: (tcm s w).journal
        ∧ (tcm t w).imem = (tcm s w).imem ∧ (tcm t w).dmem = (tcm s w).dmem
        ∧ (∀ j, j ≠ w → tcm t j = tcm s j) ∧ (∀ p, p ≠ (Machine.core s k).part → part t p = part s p)))
    ∧ (target (Machine.core s k).part a = .resp → Completes (.store k c m rs1 rs2 off) s (fun t =>
      OnlyWrites [.proc, .draws] s t ∧ RegWritten k 0 0 s t ∧ t.proc.tcms = s.proc.tcms
        ∧ t.proc.parts = s.proc.parts ∧ (Machine.core t k).posted.length = (Machine.core s k).posted.length + 1
        ∧ (Machine.core t k).ended = (Machine.core s k).ended ∧ (Machine.core t k).prim.pc = (Machine.core s k).prim.pc + isize c))
    ∧ (target (Machine.core s k).part a = .cycleEnd → Completes (.store k c m rs1 rs2 off) s (fun t =>
      OnlyWrites [.proc, .draws] s t ∧ RegWritten k 0 0 s t ∧ t.proc.tcms = s.proc.tcms
        ∧ t.proc.parts = s.proc.parts ∧ (Machine.core t k).posted.length = (Machine.core s k).posted.length + 1
        ∧ (Machine.core t k).ended = true ∧ (Machine.core t k).prim.pc = (Machine.core s k).prim.pc + isize c))

/-- A CSR instruction on an implemented CSR that it may write: the destination takes the old value and the CSR
the new one: written, set or cleared by the operand. A set or clear with operand x0 or 0 writes nothing, so that
it also reads mhartid. FENCE and FENCE.I do nothing but move on (R286). -/
def Obligations.CsrsAndFences : Prop :=
  ∀ (s : State) (k : Nat) (rd : BitVec 5), Runs s k false →
    let c0 := (Machine.core s k).prim.csrs
    (∀ (n : BitVec 12) (r : BitVec 5) old, c0.read k n = some old → n.extractLsb' 10 2 ≠ 3 →
      Completes (.csrAccess k .rw n rd (.reg r)) s (fun t =>
        OnlyCore k s t ∧ RegWritten k rd old s t ∧ (Machine.core t k).prim.pc = (Machine.core s k).prim.pc + 4
          ∧ (n = 0x340 → (Machine.core t k).prim.csrs.mscratch = xreg s k r)
          ∧ (n = 0x341 → (Machine.core t k).prim.csrs.mepc = xreg s k r &&& 0xFFFFFFFE)
          ∧ (n = 0x342 → (Machine.core t k).prim.csrs.mcause = xreg s k r)
          ∧ (n = 0xB00 → (Machine.core t k).prim.csrs.mcycle = xreg s k r)
          ∧ (n = 0xB82 → (Machine.core t k).prim.csrs.minstreth = xreg s k r)))
    ∧ (∀ (u : BitVec 5) (old : Word), c0.read k 0x340 = some old → u ≠ 0 →
      Completes (.csrAccess k .rs 0x340 rd (.uimm u)) s (fun t =>
        OnlyCore k s t ∧ RegWritten k rd old s t
          ∧ (Machine.core t k).prim.csrs.mscratch = old ||| u.zeroExtend 32))
    ∧ (∀ (u : BitVec 5) (old : Word), c0.read k 0x340 = some old → u ≠ 0 →
      Completes (.csrAccess k .rc 0x340 rd (.uimm u)) s (fun t =>
        OnlyCore k s t ∧ RegWritten k rd old s t
          ∧ (Machine.core t k).prim.csrs.mscratch = old &&& ~~~(u.zeroExtend 32)))
    ∧ Completes (.csrAccess k .rs 0xF14 rd (.reg 0)) s (WritesReg k false rd (BitVec.ofNat 32 k) s)
    ∧ Completes (.fence k) s (fun t => OnlyCore k s t ∧ CsrsCount k s t ∧ RegWritten k 0 0 s t
      ∧ (Machine.core t k).prim.pc = (Machine.core s k).prim.pc + 4)
    ∧ Completes (.fenceI k) s (fun t => OnlyCore k s t ∧ CsrsCount k s t ∧ RegWritten k 0 0 s t
      ∧ (Machine.core t k).prim.pc = (Machine.core s k).prim.pc + 4)

/-- ECALL, EBREAK and an illegal encoding trap with causes 11, 3 and 2; so do a write of a read-only CSR, an
access to a CSR that the core does not have (2), a load or store that the map does not permit (5, 7), one off its
alignment (4, 6), a taken branch or a jump to an odd address (0), and an instruction beyond the instruction TCM
(1) (R288, R291). An illegal instruction counts as long as its low two bits say. The passes agree, so that the comparator
lets the trap be reached (the model's reading, log entry 81), and no memory holds an error. -/
def Obligations.Traps : Prop :=
  ∀ (s : State) (k : Nat), issues s k = true → room s → (Machine.core s k).shad = (Machine.core s k).prim.inv →
    s.proc.upsets = [] →
    (fetchOk s k false = true → Completes (.ecall k) s (TrappedWith k 11 s))
    ∧ (∀ c, fetchOk s k c = true → Completes (.ebreak k c) s (TrappedWith k 3 s))
    ∧ (∀ w : Word, fetchOk s k (decide (w.extractLsb' 0 2 ≠ 3)) = true →
      Completes (.illegalInstruction k w) s (TrappedWith k 2 s))
    ∧ (∀ op n rd src, fetchOk s k false = true → (Machine.core s k).prim.csrs.read k n = none →
      Completes (.csrAccess k op n rd src) s (TrappedWith k 2 s))
    ∧ (∀ rd r, fetchOk s k false = true → Completes (.csrAccess k .rw 0xF14 rd (.reg r)) s (TrappedWith k 2 s))
    ∧ (∀ c m rd rs1 off e, fetchOk s k c = true → (target (Machine.core s k).part (effAddr s k rs1 off)).loads = false →
      Completes (.load k c m rd rs1 off e) s (TrappedWith k 5 s))
    ∧ (∀ c m rd rs1 off e, fetchOk s k c = true → (target (Machine.core s k).part (effAddr s k rs1 off)).loads = true →
      effAddr s k rs1 off % loadSize m ≠ 0 → Completes (.load k c m rd rs1 off e) s (TrappedWith k 4 s))
    ∧ (∀ c m rs1 rs2 off, fetchOk s k c = true → (target (Machine.core s k).part (effAddr s k rs1 off)).stores = false →
      Completes (.store k c m rs1 rs2 off) s (TrappedWith k 7 s))
    ∧ (∀ c m rs1 rs2 off, fetchOk s k c = true → (target (Machine.core s k).part (effAddr s k rs1 off)).stores = true →
      effAddr s k rs1 off % storeSize m ≠ 0 → Completes (.store k c m rs1 rs2 off) s (TrappedWith k 6 s))
    ∧ (∀ c cond rs1 rs2 off, fetchOk s k c = true → taken cond (xreg s k rs1) (xreg s k rs2) = true →
      ((Machine.core s k).prim.pc + off.signExtend 32).getLsbD 0 = true →
      Completes (.branch k c cond rs1 rs2 off) s (TrappedWith k 0 s))
    ∧ (∀ rd rs1 rs2, fetchOk s k false = false → Completes (.sub k false rd rs1 rs2) s (TrappedWith k 1 s))

/-! ### Checkpoints, mismatches and handovers (R296 to R306) -/

/-- A checkpoint that is due, whose passes agree and whose chime was seen is confirmed: it becomes the state that a rollback
returns to, it goes to the partition's standby slot, the journal and the posted stores are released, and the retry
ends (R298, R304). A first mismatch on the bus or in the skew parity rolls the core back to its checkpoint, in both
passes, and is recorded at L0; the retry begins (R300, R301). The journal's words hold no error. -/
def Obligations.CheckpointAndRollback : Prop :=
  ∀ (s : State) (k : Nat), runsPart s k = true → s.proc.upsets = [] →
    (checkpointDue s k = true → PassesAgree s → Completes (.checkpoint k ⟨true, true⟩) s (fun t =>
      OnlyWrites raiseParts s t ∧ (Machine.core t k).saved = (Machine.core s k).prim ∧ (Machine.core t k).posted = []
        ∧ (Machine.core t k).retried = false ∧ (tcm t (Machine.core s k).set).journal = []
        ∧ (part t (Machine.core s k).part).slot = (Machine.core s k).prim ∧ (part t (Machine.core s k).part).slotOk = true
        ∧ (Machine.core t k).prim = (Machine.core s k).prim ∧ (Machine.core t k).chime = ((Machine.core s k).chime + 1) % 104))
    ∧ (∀ now, (Machine.core s k).retried = false → Completes (.busMismatch k now) s (fun t =>
      OnlyWrites (.time :: raiseParts) s t ∧ (Machine.core t k).prim = (Machine.core s k).saved
        ∧ (Machine.core t k).shad = (Machine.core s k).saved.inv ∧ (Machine.core t k).retried = true ∧ (Machine.core t k).posted = []
        ∧ (tcm t (Machine.core s k).set).journal = [] ∧ (Machine.core t k).rollbacks = inc32 (Machine.core s k).rollbacks
        ∧ Raised 0x0601 (0x0700 + k) s t))
    ∧ (∀ now, (Machine.core s k).retried = false → Completes (.skewParityError k now) s (fun t =>
      OnlyWrites (.time :: raiseParts) s t ∧ (Machine.core t k).prim = (Machine.core s k).saved
        ∧ (Machine.core t k).shad = (Machine.core s k).saved.inv ∧ (Machine.core t k).retried = true ∧ (Machine.core t k).posted = []
        ∧ (tcm t (Machine.core s k).set).journal = [] ∧ Raised 0x0702 (0x0700 + k) s t))

/-- A rail fault of a comparator removes the core: with a core standing by and an intact standby slot, that core
takes the partition and the TCM set over, with the state words of the slot in both passes (R303, R305). The
planned handover moves a partition to the core that stands by and leaves the old one under test (R304). A
rollback count that has fallen below four ends the condition of 0x0604 (R301). A service of the C-die escapement that is
owed by the guard after the boundary stops the Curfew pattern of every populated site and ends the service (R35, R312). A
rail fault of a comparator takes the core that stands by out too. -/
def Obligations.TakeoverAndHandover : Prop :=
  ∀ (s : State) (k j : Nat), k < 4 → j < 4 →
    (runsPart s k = true → room s → s.proc.upsets = [] → (Machine.core s j).role = .standby →
      (∀ i, i < j → (Machine.core s i).role ≠ .standby) → (part s (Machine.core s k).part).slotOk = true →
      (part s (Machine.core s k).part).copies.length ≤ 3 → Completes (.comparatorRailFault k) s (fun t =>
        OnlyWrites raiseParts s t ∧ InEffect 0x0703 (0x0700 + k) t ∧ (Machine.core t k).role = .removed
          ∧ (Machine.core t j).role = .active ∧ (Machine.core t j).part = (Machine.core s k).part ∧ (Machine.core t j).set = (Machine.core s k).set
          ∧ (Machine.core t j).prim = (part s (Machine.core s k).part).slot
          ∧ (Machine.core t j).shad = (part s (Machine.core s k).part).slot.inv
          ∧ t.proc.takeovers = inc32 s.proc.takeovers))
    ∧ (fromStartup s = true → room s → (Machine.core s k).role = .standby → Completes (.comparatorRailFault k) s (fun t =>
        OnlyWrites raiseParts s t ∧ InEffect 0x0703 (0x0700 + k) t ∧ (Machine.core t k).role = .removed))
    ∧ (∀ p, coreOfPart s p = some k → freeStandby s = some j → evaluating s = true → s.proc.running = true →
      s.test.handover = some p → (part s p).cycleDone = true →
      s.time.now + 10000 ≤ s.proc.boundary + cycleNs s → (item s 0x0B).state ≠ 2 →
      s.proc.upsets = [] → (part s p).slotOk = true → (part s p).copies.length ≤ 3 →
      Completes (.plannedHandover p) s (fun t =>
        OnlyWrites [.proc, .test, .draws] s t ∧ (Machine.core t j).role = .active ∧ (Machine.core t j).part = p
          ∧ (Machine.core t j).set = (Machine.core s k).set ∧ (Machine.core t j).prim = (part s p).slot
          ∧ (Machine.core t k).role = .underTest ∧ (Machine.core t k).part = 0xF
          ∧ t.proc.handovers = inc32 s.proc.handovers ∧ t.test.handover = none))
    ∧ (((Machine.core s k).rolls.filter (fun r => decide (s.time.opNs < r + 1000000000))).length < 4 →
      Completes (.rollbackWindowExpiry k) s (fun t =>
        OnlyWrites [.proc, .col, .breach, .led] s t ∧ CondGone 0x0604 (0x0700 + k) t))
    ∧ (∀ p, s.proc.escapement = true → evaluating s = true → s.proc.running = true → (part s p).owed.isSome = true →
      Completes (.escapementWindowMissed p) s (fun t => OnlyWrites (.time :: raiseParts) s t
        ∧ t.time.now = max s.time.now (s.proc.boundary + escGuard s) ∧ (part t p).owed = none ∧ t.proc.escapement = false ∧ Raised 0x0A07 (0x0708 + p) s t
        ∧ ∀ f, populated s f = true → bit t.col.curfew f = true))

/-- A boundary with an image in force counts the cycle, comes at its time on the grid of the safety cycle, or where it was
given out of the guard (log entry 84), lets every core begin its cycle and records for each partition whether its service was accepted and its checkpoint confirmed. A lane A demand
is published only where a partition whose cycle checkpoint was confirmed owns and demands it; a partition whose
checkpoint is missing has overrun, and 0x0606 names the first such; the words are handed over between 20.5 and 52 µs after
the boundary (R307 to R312, Table PL-6). The scrub reports a corrected word with
0x0801 and an uncorrectable one with 0x0802 (R290). -/
def Obligations.SafetyCycleAndScrub : Prop :=
  (∀ (s : State) (now : Nat), evaluating s = true → s.proc.running = true → configured s = true →
    s.proc.upsets = [] →
    let b := boundaryTime s (max s.time.now now)
    Completes (.safetyCycleBoundary now) s (fun t =>
      t.proc.cycle = s.proc.cycle + 1 ∧ t.proc.boundary = b ∧ t.time.now = max (max s.time.now now) b
        ∧ (∀ k, k < 4 → (Machine.core t k).ended = false)
        ∧ (∀ p, p < 3 → (part t p).confirmed = (part s p).cycleDone ∧ (part t p).cycleDone = false
          ∧ (part t p).served = (decide ((part s p).responses = 1) && !(part s p).wrong)
          ∧ (part t p).responses = 0
          ∧ (part t p).owed = (if (part s p).responses = 0 then some (part s p).challenge else none))
        ∧ (∀ f b, b < 26 → bit (tget 0 t.outs.publishedA f) b = true → ∃ p, p < 3 ∧ (part s p).cycleDone = true
          ∧ bit ((partOf (confOf s) p).owned.getD f 0) b = true ∧ bit (tget 0 (part s p).demands f) b = true)
        ∧ (∃ d, d ≤ 31500 ∧ ∀ f, populated s f = true → tget 0 t.outs.publishTime f = devAt t (b + 20500 + d))
        ∧ (∀ p, p < 3 → (part s p).cycleDone = false → (∀ q, q < p → (part s q).cycleDone = true) →
          Reported 0x0606 (0x0708 + p) t)))
  ∧ (∀ (s : State) (m a : Nat), evaluating s = true → room s → s.proc.upsets = [] →
    Completes (.memoryScrub ⟨[(m, a, .corrected)], []⟩) s (fun t => OnlyWrites raiseParts s t ∧ InEffect 0x0801 m t)
    ∧ Completes (.memoryScrub ⟨[(m, a, .uncorrectable)], []⟩) s (fun t => OnlyWrites raiseParts s t ∧ InEffect 0x0802 m t)
    ∧ Completes (.memoryScrub ⟨[(m, a, .clean)], []⟩) s (fun t => t = s))

/-! ### Reset and startup (R42, R43, R62, R82 to R97, R366, R372) -/

/-- The settled supplies end the power-up hold; after a loss of the supplies the device is in RESET with the fuses
and the NAND part alone as they were (R62, R84, R87). RESET_N low leads from any state into RESET: BOOT_ST 0xF, the
cores halted, the boundaries and the Curfew pattern of every populated site stopped, no request, challenge or
session left, the Ledger flushing where it was mounted, and the transition recorded but not counted (R49, R82). With
RESET_N high, the supplies settled and the flush ended the device goes to FUSE_SENSE with BOOT_ST 1, reads NVSEL and charges VHOLD (R61,
R77, R83). -/
def Obligations.ResetAndRelease : Prop :=
  ∀ s : State,
    (s.ctl.st = .reset → s.ctl.released = false →
      Completes .powerUp s (fun t => t = { s with ctl := { s.ctl with released := true } }))
    ∧ (s.ctl.st ≠ .reset → Completes .powerUp s (fun t =>
        t.ctl.st = .reset ∧ t.ctl.released = true ∧ t.ctl.boot = 0xF ∧ t.fuses.array = s.fuses.array
          ∧ t.fuses.dies = s.fuses.dies ∧ t.fuses.shadow = [] ∧ t.led.ring = s.led.ring
          ∧ t.led.slotA = s.led.slotA ∧ t.led.slotB = s.led.slotB ∧ t.led.backup = s.led.backup
          ∧ t.cfg = {} ∧ t.dict = {} ∧ t.col = {} ∧ t.proc = {} ∧ t.outs = {} ∧ t.array = {} ∧ t.time = {}))
    ∧ (s.ctl.st ≠ .reset → Completes .resetNFall s (fun t =>
        OnlyWrites (writes .resetNFall) s t ∧ t.ctl.st = .reset ∧ t.ctl.resetNLow = true ∧ t.ctl.boot = 0xF
          ∧ t.ctl.request = none ∧ t.ctl.transitions = s.ctl.transitions ∧ t.ctl.lastTime = s.time.dev
          ∧ t.dict.session.state = 0 ∧ t.dict.session.holder = none ∧ t.proc.running = false
          ∧ (∀ k, k < 4 → (Machine.core t k).role = .halted) ∧ (∀ f, populated s f = true → bit t.col.curfew f = true)
          ∧ (s.led.state = 1 → t.led.state = 2)))
    ∧ (s.ctl.st = .reset → Completes .resetNFall s
        (fun t => t = { s with ctl := { s.ctl with resetNLow := true } }))
    ∧ (∀ nv, s.ctl.st = .reset → s.ctl.released = true → s.led.state ≠ 2 → Completes (.resetExit nv) s (fun t =>
        t.ctl.st = .fuseSense ∧ t.ctl.step = .fuseSense ∧ t.ctl.boot = 1 ∧ t.ctl.nvsel33 = nv
          ∧ t.power.charging = true ∧ t.ctl.transitions = inc32 s.ctl.transitions ∧ t.ctl.lastWord = 0x00010100
          ∧ t.fuses.array = s.fuses.array ∧ t.led.slotA = s.led.slotA ∧ t.led.slotB = s.led.slotB))
    ∧ (∀ nv, s.ctl.st = .reset → s.ctl.released = false → Completes (.resetExit nv) s (fun t =>
        t = { s with ctl := { s.ctl with resetNLow := false } }))

/-- The sensing of the fuses loads the shadow registers, each word as its three reads and the code give it: a sound word
as the array holds it; without a hold it leads to STARTUP_TEST, with one the device
stays with the BOOT_ST code of R89 and no step runs (R43, R94 to R97). A step that does not end in time holds the
device with its code (R86). The inventory, the logic BIST with the supply
and clock monitors, and the memory BIST each lead on when they pass and hold the device with their code when they
fail: 0x5, 0xB, 0xC, 0x6 and 0x7 (R43, R63, R103, R126, R366, R372). -/
def Obligations.StartupSteps : Prop :=
  ∀ s : State,
    (∀ found, s.ctl.st = .fuseSense → s.ctl.step = .fuseSense → Completes (.fuseSenseComplete found) s (fun t =>
      t.fuses.array = s.fuses.array
        ∧ (∀ i, i < 256 → tget {} t.fuses.shadow i
          = (foundAt found i (tget {} s.fuses.array i)).sensed (flagWords.contains i))
        ∧ (∀ i, i < 256 → (∀ d ∈ found, d.word ≠ i) → (tget {} s.fuses.array i).weak = 0 →
          (tget {} s.fuses.array i).check = 0 →
          tget {} t.fuses.shadow i = { value := (tget {} s.fuses.array i).value, sense := .accepted })
        ∧ ((t.ctl.st = .startupTest ∧ t.ctl.step = .inventory ∧ t.ctl.boot = 0)
          ∨ (t.ctl.st = .fuseSense ∧ t.ctl.hold = true ∧ t.ctl.step = .none
            ∧ (t.ctl.boot = 2 ∨ t.ctl.boot = 3 ∨ t.ctl.boot = 4)))))
    ∧ (∀ l, s.ctl.st = .startupTest → s.ctl.step = .inventory → inventoryOk s l = true →
      Completes (.fDieInventoryComplete true l) s (fun t =>
        OnlyWrites [.ctl, .power, .array] s t ∧ t.ctl.st = .startupTest ∧ t.ctl.step = .logicBist
          ∧ ∀ f, populated s f = true → (fba t f).challenge = firstChallenge s f))
    ∧ (∀ pll l, s.ctl.st = .startupTest → s.ctl.step = .inventory → (pll = false ∨ inventoryOk s l = false) →
      Completes (.fDieInventoryComplete pll l) s (fun t => t = { s with ctl := { s.ctl with
        boot := if pll then 0x5 else 0xB, hold := true, step := .none } }))
    ∧ (∀ pass clocks rails, s.ctl.st = .startupTest → s.ctl.step = .logicBist →
      Completes (.startupLogicBistComplete pass clocks rails) s (fun t =>
        OnlyWrites [.ctl, .power, .test] s t ∧ t.power.rails = ⟨min 40000 rails.vddc, min 40000 rails.vioc,
            min 40000 rails.vion, min 40000 rails.vaux⟩
          ∧ (if startSupplyBad t then t.ctl.boot = 0xC ∧ t.ctl.hold = true
            else if clocks = false ∨ clocksBad s = true then t.ctl.boot = 0xB ∧ t.ctl.hold = true
            else if pass = false then t.ctl.boot = 0x6 ∧ t.ctl.hold = true
            else t.ctl.step = .memoryBist ∧ t.ctl.st = .startupTest
              ∧ ∀ k, k < 4 → (item t k).passed = s.time.dev)))
    ∧ (∀ pass id, s.ctl.st = .startupTest → s.ctl.step = .memoryBist →
      Completes (.startupMemoryBistComplete pass id) s (fun t =>
        if pass then t.ctl.st = .configLoad ∧ t.ctl.step = .mount ∧ t.fuses.caps = presentCaps s
          ∧ t.ctl.transitions = inc32 s.ctl.transitions
        else t.ctl.st = .startupTest ∧ t.ctl.boot = 0x7 ∧ t.ctl.hold = true))
    ∧ (∀ code, s.ctl.st = .startupTest → ((s.ctl.step = .inventory ∧ code = 0x5)
        ∨ (s.ctl.step = .logicBist ∧ code = 0x6) ∨ (s.ctl.step = .memoryBist ∧ code = 0x7)) →
      Completes .startupStepTimeout s (fun t => t = { s with ctl := { s.ctl with
        boot := code, hold := true, step := .none } }))

/-- A failed mount leads to SAFE unconfigured with BOOT_ST 0x8 and the memories locked; another mounts the Ledger and
goes on to the newer image slot, or to SAFE unconfigured where no slot has an image. The image that passes its
stream checks goes on to its signature, that one to the readback, and with checks and readback passed the image is
in force in SAFE, with the autostart's request where its flag says so; an image that fails is not in force from
this command (R43, R47, R107 to R109, R448, R450, R453). A step that does not end in time fails with its code
(R86). -/
def Obligations.ConfigLoad : Prop :=
  ∀ s : State, s.ctl.st = .configLoad →
    (∀ r, s.ctl.step = .mount → mountFailure r s ≠ 0 → Completes (.nandMount r) s (fun t =>
      t.ctl.st = .safe ∧ t.ctl.boot = 0x8 ∧ t.ctl.locked = true ∧ t.cfg.image = s.cfg.image
        ∧ t.led.result = mountFailure r s))
    ∧ (∀ r, s.ctl.step = .mount → mountFailure r s = 0 → Completes (.nandMount r) s (fun t =>
      t.led.state = 1 ∧ ((t.ctl.st = .configLoad ∧ t.ctl.step = .imageRead) ∨ t.ctl.st = .safe)))
    ∧ (s.ctl.step = .imageRead → Completes .imageReadComplete s (fun t =>
      let i := Config.parseImage (nandSlot s s.cfg.trying).bytes
      if checkStream s i = none ∧ validityOk s s.cfg.trying i = true then
        t = { nandDo [.pageRead] s with
          cfg := { s.cfg with loading := some i }, ctl := { s.ctl with step := .signature } }
      else t.ctl.step ≠ .signature ∧ t.cfg.image = s.cfg.image))
    ∧ (∀ i, s.ctl.step = .signature → s.cfg.loading = some i → Completes .signatureVerificationComplete s (fun t =>
      if checkSigned s (keySlotOf s i) i = none then t = { s with ctl := { s.ctl with step := .readback } }
      else t.ctl.step ≠ .readback ∧ t.cfg.image = s.cfg.image))
    ∧ (∀ i rb id, s.ctl.step = .readback → s.cfg.loading = some i →
      Completes (.readbackAndLockComplete rb id) s (fun t =>
        if checkConf (planOf s (Image.conf i) i.sites) = none ∧ rb = true then
          t.ctl.st = .safe ∧ t.ctl.step = .none ∧ t.ctl.locked = true ∧ t.cfg.image = some i
            ∧ (bit i.flags 0 = true → t.ctl.request = some (0x30, 0))
        else t.cfg.image = s.cfg.image))
    ∧ (s.ctl.step = .mount → Completes .startupStepTimeout s (fun t =>
      t.ctl.st = .safe ∧ t.ctl.boot = 0x8 ∧ t.led.result = 5))
    ∧ ((s.ctl.step = .imageRead ∨ s.ctl.step = .signature ∨ s.ctl.step = .readback) → s.cfg.trying = 1 →
      Completes .startupStepTimeout s (fun t =>
        t.cfg.resultA = (if s.ctl.step = .signature then 0x09 else 0x0A) ∧ t.cfg.image = s.cfg.image))


/-! ### Supplies, temperatures, hold-up and the debug port (R61 to R80, R98, R102) -/

/-- A rail of the C die outside its limits, and PFAIL_N low, are L4 faults: the device is in HALT with BOOT_ST 0xE and
every populated site's Curfew pattern stopped, and the Ledger flushes (R48, R64, R65). VFLD_L outside its limits
turns every input in use of the site OFF in both lanes and raises 0x0B04; its end takes the condition away (R64, R159).
VIO_N in a condition of R61 raises 0x0B09, whose condition ends with it (R64). -/
def Obligations.SupplyTrips : Prop :=
  ∀ s : State, fromStartup s = true →
    (∀ rail mv, railBad rail mv = true → s.ctl.st ≠ .halt → roomy s → faultActive s (railCode rail) 0x0760 = false →
      (∀ p ∈ s.col.pending, p.rep.time ≤ s.time.now) →
      Completes (.cSupplyMonitorTrip rail mv) s (fun t => t.ctl.st = .halt ∧ t.ctl.boot = 0xE ∧ t.ctl.released = false
        ∧ t.power.rails = (setRails (Rails.set rail mv s.power.rails) s).power.rails ∧ InEffect (railCode rail) 0x0760 t
        ∧ (∀ f, populated s f = true → bit t.col.curfew f = true) ∧ (s.led.state = 1 → t.led.state = 2)))
    ∧ (s.ctl.st ≠ .halt → roomy s → faultActive s 0x0B03 0x0760 = false →
      (∀ p ∈ s.col.pending, p.rep.time ≤ s.time.now) → Completes .pfailNLow s (fun t =>
        t.ctl.st = .halt ∧ t.ctl.boot = 0xE ∧ t.power.pfailHigh = false ∧ InEffect 0x0B03 0x0760 t
        ∧ (s.led.state = 1 → t.led.state = 2)))
    ∧ (∀ f mv, populated s f = true → (mv < 16800 ∨ 33000 < mv) → Completes (.vfldLTrip f mv) s (fun t =>
        OnlyWrites (writes (.vfldLTrip f mv)) s t ∧ tget false t.power.vfldLTrip f = true
        ∧ tget 0 t.power.vfldL f = min mv 45000 ∧ Reported 0x0B04 (elemAt f 0x73) t
        ∧ ∀ i ∈ usedInputs (confOf s) f, (input t i).a.on = false ∧ (input t i).b.on = false))
    ∧ (∀ f mv, tget false s.power.vfldLTrip f = true → 16800 ≤ mv → mv ≤ 33000 → (island s f).linkOk = true →
        Completes (.vfldLTripEnd f mv) s (fun t => OnlyWrites (writes (.vfldLTripEnd f mv)) s t
        ∧ tget false t.power.vfldLTrip f = false ∧ tget 0 t.power.vfldL f = mv
        ∧ CondGone 0x0B04 (elemAt f 0x73) t))
    ∧ (∀ mv, s.ctl.st ≠ .startupTest → vioNBad s.ctl.nvsel33 mv = true → Completes (.vioNFault mv) s (fun t =>
        OnlyWrites (writes (.vioNFault mv)) s t ∧ t.power.rails.vion = min 40000 mv ∧ Raised 0x0B09 0x0760 s t))
    ∧ (∀ mv, vioNBad s.ctl.nvsel33 mv = false → Completes (.vioNConditionGone mv) s (fun t =>
        OnlyWrites (writes (.vioNConditionGone mv)) s t ∧ t.power.rails.vion = min 40000 mv ∧ CondGone 0x0B09 0x0760 t))

/-- A die at 140 °C raises 0x0B06, an F die at 155 °C 0x0B07 and the C die 0x0B08; below 135 °C the conditions of the
warning and of the F die's trip are gone (R76). VHOLD below 22 V raises 0x0B05 and the Ledger keeps to its hold-up
measures until VHOLD is charged; a short stops the charger; an exhausted hold-up stops the flush without the pages
that wait (R77, R80, R444). A TAP that leaves Test-Logic-Reset on an open debug port is seen, and in RUN raises 0x0909
(R102). The fuse instruction of an open port programs an unlocked word of its regions by adding bits, and leaves any
other word of the array as it is (R90, R98). -/
def Obligations.TemperaturesHoldupAndDebugPort : Prop :=
  ∀ s : State,
    (fromStartup s = true →
      (∀ d v, hasDie s d = true → 1400 ≤ v → Completes (.dieTemperatureWarning d v) s (fun t =>
        OnlyWrites (writes (.dieTemperatureWarning d v)) s t ∧ tget 0 t.power.temps d = min v 1700
        ∧ Raised 0x0B06 (dieOf d) s t))
      ∧ (∀ f v, populated s f = true → 1550 ≤ v → Completes (.fDieOvertemperature f v) s (fun t =>
        OnlyWrites (writes (.fDieOvertemperature f v)) s t ∧ tget 0 t.power.temps f = min v 1700
        ∧ Raised 0x0B07 (dieSrc f) s t))
      ∧ (∀ v, 1550 ≤ v → Completes (.cDieOvertemperature v) s (fun t =>
        OnlyWrites (writes (.cDieOvertemperature v)) s t ∧ tget 0 t.power.temps 7 = min v 1700 ∧ Raised 0x0B08 0x07FF s t))
      ∧ (∀ d v, hasDie s d = true → v < 1350 → Completes (.dieTemperatureClear d v) s (fun t =>
        OnlyWrites (writes (.dieTemperatureClear d v)) s t ∧ tget 0 t.power.temps d = max (-400) v
        ∧ CondGone 0x0B06 (dieOf d) t ∧ (d < 7 → CondGone 0x0B07 (dieSrc d) t)))
      ∧ (∀ mv, mv < 22000 → Completes (.vholdLow mv) s (fun t => OnlyWrites (writes (.vholdLow mv)) s t
        ∧ t.power.vhold = mv ∧ t.led.holdup = true ∧ Raised 0x0B05 0x0760 s t)))
    ∧ (∀ mv, s.ctl.st ≠ .reset → 22000 ≤ mv → Completes (.vholdCharged mv) s (fun t =>
        OnlyWrites (writes (.vholdCharged mv)) s t ∧ t.power.vhold = min 40000 mv ∧ t.led.holdup = false
        ∧ CondGone 0x0B05 0x0760 t))
    ∧ (∀ mv, s.power.charging = true → mv < 2000 → Completes (.vholdShortDetected mv) s (fun t =>
        t = { s with power := { s.power with charging := false, vhold := mv } }))
    ∧ (s.led.state = 2 → Completes .holdupExhausted s (fun t => OnlyWrites (writes .holdupExhausted) s t
        ∧ t.power.exhausted = true ∧ t.led.state = 3 ∧ t.led.queued = [] ∧ t.led.openRecs = []
        ∧ t.led.ring = s.led.ring))
    ∧ (debugOpen s = true →
      (fromStartup s = true → Completes .tapStateChange s (fun t => OnlyWrites (writes .tapStateChange) s t
        ∧ t.fuses = { s.fuses with tapActive := true } ∧ (s.ctl.st = .run → Raised 0x0909 0x0740 s t)
        ∧ (s.ctl.st ≠ .run → OnlyWrites [.fuses] s t)))
      ∧ (∀ w v, s.ctl.st ≠ .reset → s.ctl.step ≠ .fuseSense → Completes (.jtagFuseProgram [(w, v)] []) s (fun t =>
        OnlyWrites (writes (.jtagFuseProgram [(w, v)] [])) s t
        ∧ (if jtagWord s w then (tget {} t.fuses.array w).value = (tget {} s.fuses.array w).value ||| v
          else t.fuses.array = s.fuses.array)
        ∧ ∀ j, j ≠ w → tget {} t.fuses.array j = tget {} s.fuses.array j)))

/-! ### Connections inside the package (R16 to R36, R39, R232, R235) -/

/-- A valid enable frame sets the island's enables, its polarity and what it announces; one whose CRC fails, or whose
polarity does not alternate in time, changes nothing; 30 µs without one drop all enables (R23). A Curfew monitor that
detects a stop opens the switches that its own side drives, and no other (R33, R34). A status-link frame that passes is taken with its
sequence number and announcements and ends the condition of the link's fault; another raises it, at L3 with a code that the manual does
not give (R16; log entry 18). A die keeps a segment of the ring that passes its check as the last one of its source,
and one that fails reads 0 and raises 0x0504; what it carries is what its source published in that tick. The third
failure in a row counts the segment's channels as faulty and
raises 0x0505; a break raises 0x0506, and the dies that the segments of a site cannot reach read none of them (R30,
R31, R232). A right response of the F-die escapement reports nothing; a late or missed one, a refused write to a locked
memory and a disagreement of the lanes are in effect at once where the collector has room (R26, R36, R39, R235, R339). -/
def Obligations.PackageLinks : Prop :=
  ∀ s : State,
    (∀ f, populated s f = true →
      (∀ w pol st ann, ((island s f).timedOut = true ∨ (island s f).polarity ≠ pol) →
        Completes (.enableFrame f w pol true st ann) s (fun t => OnlyWrites [.array] s t ∧ t.array.fba = s.array.fba
          ∧ (island t f).word = w % 2 ^ 26 ∧ (island t f).polarity = pol ∧ (island t f).timedOut = false
          ∧ (island t f).statusOk = st ∧ (island t f).announced = announceNext s f ann (island s f).announced
          ∧ ∀ g, g ≠ f → island t g = island s g))
      ∧ (∀ w pol crc st ann, (crc = false ∨ ((island s f).timedOut = false ∧ (island s f).polarity = pol)) →
        Completes (.enableFrame f w pol crc st ann) s (fun t => t = s))
      ∧ Completes (.enableFrameTimeout f) s (fun t => OnlyWrites [.array] s t ∧ t.array.fba = s.array.fba
          ∧ (island t f).word = 0 ∧ (island t f).timedOut = true ∧ ∀ g, g ≠ f → island t g = island s g)
      ∧ (∀ isl, Completes (.curfewStopDetected f isl) s (fun t => OnlyWrites (writes (.curfewStopDetected f isl)) s t
          ∧ (if isl then (island t f).islandStopped = true ∧ ∀ el, siteOf el = f → driveA t el = false
            else (island t f).dieStopped = true ∧ ∀ el, siteOf el = f → driveB t el = false)))
      ∧ (∀ n down d ann, n = (if down then (island s f).seqDown else (island s f).seqUp) + 1 →
        Completes (.statusLinkFrame f n true down ⟨d, ann⟩) s (fun t => OnlyWrites raiseParts s t
          ∧ (island t f).linkOk = true
          ∧ (if down then (island t f).seqDown = n ∧ (island t f).seqUp = (island s f).seqUp
              ∧ (island t f).announcedB = announceNext s f ann (island s f).announcedB
            else (island t f).seqUp = n ∧ (island t f).reported = d % 2 ^ 26)
          ∧ CondGone Config.statusLinkCode (dieSrc f) t))
      ∧ (∀ n crc down d ann, fromStartup s = true →
        (crc = false ∨ n ≠ (if down then (island s f).seqDown else (island s f).seqUp) + 1) →
        Completes (.statusLinkFrame f n crc down ⟨d, ann⟩) s (fun t => OnlyWrites raiseParts s t
          ∧ (island t f).linkOk = false ∧ Raised Config.statusLinkCode (dieSrc f) s t
          ∧ (crc = true → (if down then (island t f).seqDown else (island t f).seqUp) = n))))
    ∧ (∀ d m, populated s d = true → populated s m = true → d ≠ m → evaluating s = true →
      (∀ tick bits, Completes (.sharedSignalSegment d m tick bits true) s (fun t => OnlyWrites raiseParts s t
        ∧ tget {} (fba t d).segments (m * 2 + tick % 2) = ⟨segmentWord s m tick bits, tick % 256, true⟩
        ∧ tget 0 (fba t d).good m = segmentWord s m tick bits
        ∧ (tickNear (fba s d).lastTick tick = true → tget 0 (fba t d).fails m = 0) ∧ ∀ g, g ≠ d → fba t g = fba s g))
      ∧ (∀ tick bits, Completes (.sharedSignalSegment d m tick bits false) s (fun t => OnlyWrites raiseParts s t
        ∧ tget {} (fba t d).segments (m * 2 + tick % 2) = ⟨0, tick % 256, false⟩
        ∧ tget 0 (fba t d).good m = tget 0 (fba s d).good m
        ∧ tget 0 (fba t d).fails m = tget 0 (fba s d).fails m + 1 ∧ Raised 0x0504 (dieSrc d) s t))
      ∧ (2 ≤ tget 0 (fba s d).fails m → Completes (.segmentThirdFailure d m) s (fun t => OnlyWrites raiseParts s t
        ∧ 3 ≤ tget 0 (fba t d).fails m ∧ Raised 0x0505 (dieSrc d) s t))
      ∧ Completes (.ringBroken d m) s (fun t => OnlyWrites raiseParts s t ∧ Raised 0x0506 (dieSrc d) s t
        ∧ ∀ g ∈ popSites s, ∀ q r, r < 2 → ringDist (popSites s) q d < ringDist (popSites s) q g →
          tget {} (fba t g).segments (q * 2 + r) = {}
          ∧ (q ∈ popSites s → q ≠ g → 3 ≤ tget 0 (fba t g).fails q)))
    ∧ (fromStartup s = true → room s = true →
      (∀ f dt, populated s f = true →
        (900 ≤ dt → dt ≤ 1100 → Completes (.fEscapementResponse f (fExpected s f) dt) s (fun t =>
          t.col = s.col ∧ t.outs = s.outs))
        ∧ ((dt < 900 ∨ 1100 < dt) → ∀ v, Completes (.fEscapementResponse f v dt) s (fun t =>
          InEffect 0x0507 (dieSrc f) t))
        ∧ Completes (.fEscapementMissed f) s (fun t => InEffect 0x0507 (dieSrc f) t))
      ∧ (∀ i j, s.ctl.locked = true → Completes (.lockedMemoryWrite i j) s (fun t =>
        t.cfg = s.cfg ∧ InEffect 0x0F10 0x0778 t))
      ∧ (∀ e, evaluating s = true → pairKind (confOf s) e ≠ 0 → 10 < (tget {} s.pairs e).apart →
        Completes (.pairLaneDisagreement e) s (fun t => t.pairs = s.pairs ∧ InEffect 0x1004 (0x0800 + e) t))
      ∧ (∀ el, s.ctl.st = .run → populated s (siteOf el) = true → isOutput el = true → demandsApart s el = true →
        (fba s (siteOf el)).state ≠ 2 → elAgree (confOf s) el < 10 * tget 0 (island s (siteOf el)).differC el →
        Completes (.laneAgreementTimeout el) s (fun t => t.outs = s.outs ∧ InEffect 0x1001 el t)))

/-- The F-die escapement: the response that is the challenge rotated left by 5 bits, XOR the die fold, XOR the committed
windows, 900 to 1,100 µs after the last one, is accepted, and the next challenge comes by steps of the LFSR; their number
is a free value (log entry 15). A response with another value or at another time raises 0x0507, and so does a missed one;
each opens every switch of that die (R35, R36). A write to a locked memory is refused: the configuration and the
instruction memories stay, and 0x0F10 is recorded (R39). In RUN a disagreement of the lanes on an element beyond its
lane-agreement time raises 0x1001 to 0x1003 and holds the element's set off; one on an entry of more than 100 µs raises
0x1004 and holds the entry (R26, R235). What a fault holds is stated for a collector with room that has not recorded it
yet. -/
def Obligations.EscapementAndLanes : Prop :=
  ∀ s : State, fromStartup s = true →
    (∀ f, populated s f = true →
      fExpected s f = Nat.xor (Nat.xor (rotl5 (fba s f).challenge) (dieFold s f)) ((fba s f).independent % 2 ^ 16)
      ∧ (∀ v dt, 900 ≤ dt → dt ≤ 1100 → v = fExpected s f →
        Completes (.fEscapementResponse f v dt) s (fun t => OnlyWrites [.array, .draws] s t
          ∧ (∃ n, (fba t f).challenge = lfsrRun n (fba s f).challenge) ∧ (fba t f).independent = 0
          ∧ ∀ g, g ≠ f → fba t g = fba s g))
      ∧ (∀ v dt, (dt < 900 ∨ 1100 < dt ∨ v ≠ fExpected s f) →
        Completes (.fEscapementResponse f v dt) s (fun t => OnlyWrites raiseParts s t
          ∧ (fba t f).challenge = (fba s f).challenge ∧ Raised 0x0507 (dieSrc f) s t
          ∧ (room s = true → Unreported 0x0507 (dieSrc f) s →
            ∀ el, siteOf el = f → driveA t el = false ∧ driveB t el = false)))
      ∧ Completes (.fEscapementMissed f) s (fun t => OnlyWrites raiseParts s t ∧ Raised 0x0507 (dieSrc f) s t
          ∧ (room s = true → Unreported 0x0507 (dieSrc f) s →
            ∀ el, siteOf el = f → driveA t el = false ∧ driveB t el = false)))
    ∧ (∀ i j, s.ctl.locked = true → Completes (.lockedMemoryWrite i j) s (fun t =>
        OnlyWrites raiseParts s t ∧ t.proc.tcms = s.proc.tcms ∧ Raised 0x0F10 0x0778 s t))
    ∧ (∀ el, s.ctl.st = .run → populated s (siteOf el) = true →
        (isOutput el = true ∨ isReturn el = true ∨ isBrake el = true) → demandsApart s el = true →
        (fba s (siteOf el)).state ≠ 2 →
        elAgree (confOf s) el < 10 * tget 0 (island s (siteOf el)).differC el →
        let code := if isOutput el then 0x1001 else if isReturn el then 0x1002 else 0x1003
        Completes (.laneAgreementTimeout el) s (fun t => OnlyWrites raiseParts s t ∧ Raised code el s t
          ∧ (room s = true → Unreported code el s → ∀ m ∈ setMembers (confOf s) el, heldOff t m = true)))
    ∧ (∀ e, evaluating s = true → pairKind (confOf s) e ≠ 0 → 10 < (tget {} s.pairs e).apart →
        Completes (.pairLaneDisagreement e) s (fun t => OnlyWrites raiseParts s t ∧ Raised 0x1004 (0x0800 + e) s t
          ∧ (room s = true → Unreported 0x1004 (0x0800 + e) s → entryHeldByFault t e = true)))

/-! ### Requests for a change of state (R42 to R45, R200) -/

/-- A served request of a permitted transport that no other of its time tick beats (R45): for SAFE, out of RUN or MAINTENANCE, at once; for RUN, out of SAFE with
the conditions of Table AR-7, stored until the next boundary; for CONFIGURE and MAINTENANCE, by the holder of that
session, at once, and CONFIGURE opens the locks and stops the boundaries. A request that
is beaten, and one for SAFE or RUN from a transport that R44 does not permit, is refused and changes no state. The entry into RUN clears every release of an interlocked
pair; where the conditions no longer hold, the request ends without an entry. -/
def Obligations.StateRequests : Prop :=
  ∀ (s : State) (r : Requester),
    (Served r s → requestBeaten s.time.now s = true →
      Completes (.requestSafe r) s (fun t => t.ctl = s.ctl ∧ Answered r 0x08000022 t)
      ∧ Completes (.requestRun r) s (fun t => t.ctl = s.ctl ∧ Answered r 0x08000022 t)
      ∧ Completes (.requestConfigure r) s (fun t => t.ctl = s.ctl ∧ Answered r 0x08000022 t)
      ∧ Completes (.requestMaintenance r) s (fun t => t.ctl = s.ctl ∧ Answered r 0x08000022 t))
    ∧ (Served r s → requestBeaten s.time.now s = false → s.ctl.request = none →
      (transportOk s r = true → (s.ctl.st = .run ∨ s.ctl.st = .maintenance) → Completes (.requestSafe r) s (fun t =>
        t.ctl.st = .safe ∧ t.ctl.lastWord = transitionWord s.ctl.st .safe 2 r.code
        ∧ t.ctl.transitions = inc32 s.ctl.transitions ∧ Answered r 0 t))
      ∧ (transportOk s r = false → (s.ctl.st = .safe ∨ s.ctl.st = .run) →
        Completes (.requestSafe r) s (fun t => t.ctl = s.ctl ∧ Answered r 0x08000022 t)
        ∧ Completes (.requestRun r) s (fun t => t.ctl = s.ctl ∧ Answered r 0x08000022 t))
      ∧ (transportOk s r = true → s.ctl.st = .safe → Completes (.requestRun r) s (fun t =>
        if runReady s then t.ctl = { s.ctl with request := some (0x30, r.code), reqTick := some (tick10 s.time.now) }
          ∧ Answered r 0 t
        else t.ctl = s.ctl ∧ Answered r 0x08000022 t))
      ∧ (s.ctl.st = .safe → Completes (.requestConfigure r) s (fun t =>
        if holdsKind s r 1 then t.ctl.st = .configure ∧ t.ctl.locked = false ∧ t.proc.running = false ∧ Answered r 0 t
        else t.ctl = s.ctl ∧ Answered r 0x08000022 t))
      ∧ (s.ctl.st = .safe → Completes (.requestMaintenance r) s (fun t =>
        if holdsKind s r 2 then t.ctl.st = .maintenance ∧ t.ctl.locked = s.ctl.locked ∧ Answered r 0 t
        else t.ctl = s.ctl ∧ Answered r 0x08000022 t)))
    ∧ (∀ who, s.ctl.request = some (0x30, who) → s.ctl.st = .safe → s.proc.running = true →
      Completes .runEntry s (fun t => OnlyWrites (writes .runEntry) s t ∧ t.ctl.request = none
        ∧ (if runReady s then t.ctl.st = .run ∧ t.ctl.runSince = s.time.now
            ∧ t.ctl.lastWord = transitionWord .safe .run (if who = 0 then 7 else 2) who
            ∧ (∀ e ∈ usedEntries (confOf s), (pairKind (confOf s) e = 1 ∨ pairKind (confOf s) e = 2) →
              pairMode (confOf s) e ≠ 0 → (pair t e).a.release = false ∧ (pair t e).b.release = false)
          else t.ctl.st = .safe)))

/-! ### KDP, the host SPI and sessions (R124, R132 to R145) -/

/-- A served READ, or a READ_MULTI of one object, is answered with the object's bytes, or with the status of the check
that it failed (R133, R138). A WRITE that needs no trailer, or whose trailer is accepted, is executed and answered
with its status; one that arrives again within a second with the same tag is not executed but answered as before
(R135); a holder's WRITE over UDP whose trailer fails is not executed and answered with 0x24 (R145). A version other
than 1 is answered with 0x21; an operation that Table OD-11 does not list, and a SESSION request off 0x2110:00 or with
an unknown sub-operation, with 0x22 (R134; log entry 77). -/
def Obligations.KdpRequests : Prop :=
  ∀ (s : State) (r : Requester) (q : KdpReq), KdpServed r s →
    (q.version = 1 → q.data = [] →
      let x := (readObj r q.index q.sub (Config.freeBits s.draws) (kdpAt r s)).1
      x.dom = false → Completes (.kdpRead r q) s (fun t =>
        OnlyWrites readParts s t
        ∧ (if x.abort = 0 then Sent r (kdpFrame 0x81 q.tag q.index q.sub (gotFlags x) 0 x.data) s t
          else Sent r (kdpFrame 0x81 q.tag q.index q.sub 0 (kdpStatus x.abort) []) s t)))
    ∧ (∀ i k, q.version = 1 → q.index = 0 → q.sub = 0 → i < 65536 → k < 256 → q.data = le 2 i ++ le 1 k →
      let x := (readView multiView r i k (Config.freeBits s.draws) (kdpAt r s)).1
      x.dom = false → x.data.length ≤ 1018 → Completes (.kdpReadMulti r q) s (fun t =>
        OnlyWrites readParts s t
        ∧ (if x.abort = 0 then Sent r (kdpFrame 0x83 q.tag 0 0 (gotFlags x) 0 (multiEntry i k 0 x.data)) s t
          else Sent r (kdpFrame 0x83 q.tag 0 0 0 0 (multiEntry i k (kdpStatus x.abort) [])) s t)))
    ∧ (∀ f, repeated s r q.tag = some f → Completes (.kdpWrite r q) s (fun t =>
        OnlyWrites answerParts s t ∧ t.dict.staging = s.dict.staging
        ∧ t.dict.session = (arrives r s).dict.session ∧ Sent r f s t))
    ∧ (∀ s0 off bs ok, q.version = 1 → repeated s r q.tag = none →
      trailerOk r { q with op := 2 } (kdpAt r s) = some s0 → writeData s0 q = (off, bs, ok) →
      let x := freeSide s0
      let y := writeObj r q.index q.sub off bs { x.1 with badLength := !ok, arrived := cameAt s r } x.2
      Completes (.kdpWrite r q) s (fun t => OnlyWrites answerParts y.2 t
        ∧ t.dict.staging = y.2.dict.staging ∧ t.dict.session = y.2.dict.session
        ∧ Sent r (kdpFrame 0x82 q.tag q.index q.sub 0 (kdpStatus y.1) []) y.2 t))
    ∧ (q.version = 1 → repeated s r q.tag = none → r.code = 4 → holdsSession s r = true → q.trailer = none →
      Completes (.kdpWrite r q) s (fun t => OnlyWrites answerParts s t
        ∧ t.dict.staging = s.dict.staging ∧ t.dict.session = (arrives r s).dict.session
        ∧ Sent r (kdpFrame 0x82 q.tag q.index q.sub 0 0x24 []) s t))
    ∧ (q.version ≠ 1 → Completes (.kdpUnknownOperation r q) s (fun t =>
        OnlyWrites answerParts s t
        ∧ Sent r (kdpFrame (0x80 + q.op % 128) q.tag q.index q.sub 0 0x21 []) s t))
    ∧ (q.version = 1 → operationKnown q = false → Completes (.kdpUnknownOperation r q) s (fun t =>
        OnlyWrites answerParts s t
        ∧ Sent r (kdpFrame (0x80 + q.op % 128) q.tag q.index q.sub 0 0x22 []) s t))

/-- A SUBSCRIBE request for a readable object with parameters in range takes a free slot, and one in mode 0 cancels the
subscription (R139). A notification goes out when the period has elapsed, in mode 1 only for a value that differs
from the one last sent. A subscription whose lease has ended leaves. -/
def Obligations.Subscriptions : Prop :=
  ∀ s : State,
    (∀ (r : Requester) (q : KdpReq), KdpServed r s → q.version = 1 → q.data.length = 5 →
      let mode := unle (q.data.take 1)
      let period := unle ((q.data.drop 1).take 2)
      let lease := unle ((q.data.drop 3).take 2)
      (mode = 0 → Completes (.kdpSubscribe r q) s (fun t => OnlyWrites answerParts s t
        ∧ ∀ e ∈ t.dict.subs, e.2.of r q = false))
      ∧ (1 ≤ mode → mode ≤ 2 → 1 ≤ period → period ≤ 60000 → 1 ≤ lease → lease ≤ 600 →
        (readObj r q.index q.sub 0 (kdpAt r s)).1.abort = 0 → (∃ n, n < 64 ∧ ∀ e ∈ s.dict.subs, e.1 ≠ n) →
        Completes (.kdpSubscribe r q) s (fun t => OnlyWrites answerParts s t
          ∧ ∃ n y, (n, y) ∈ t.dict.subs ∧ y.of r q = true ∧ y.mode = mode ∧ y.period = period
            ∧ y.lease = lease ∧ y.since = s.time.opNs)))
    ∧ (∀ n y c, subOf s n = some y → kdpServed s y.client = true → y.sentAt + y.period * 1000000 ≤ s.time.opNs →
      let x := (readObj y.client y.index y.sub (Config.freeBits s.draws) s).1
      Completes (.subscriptionNotification n c) s (fun t => OnlyWrites (writes (.subscriptionNotification n c)) s t
        ∧ (if y.mode = 1 ∧ x.abort = 0 ∧ noted x = y.last then t = s
          else Sent y.client (kdpFrame 0x81 y.tag y.index y.sub (gotFlags x + 8 * b2n c) (kdpStatus x.abort) (noted x)) s t
            ∧ subOf t n = some { y with sentAt := s.time.opNs, last := noted x })))
    ∧ (∀ n y, subOf s n = some y → y.since + y.lease * 1000000000 ≤ s.time.opNs →
      Completes (.subscriptionLapse n) s (fun t => OnlyWrites [.dict] s t ∧ subOf t n = none
        ∧ ∀ m, m ≠ n → subOf t m = subOf s m))

/-- The host SPI: a good frame joins a queue of four, one that finds it full is lost and sets bit 2 of the status byte
until that byte is read, a bad one is counted; a response is read oldest first, and zeros where none waits, and
HSPI_IRQ_N is low while one waits; an unknown command is counted (R136, R137). -/
def Obligations.HostSpi : Prop :=
  ∀ s : State, hspiOn s = true → s.dict.held = [] →
    let h := s.dict.hspi
    (∀ fr, kdpFrameOk fr = true → h.requests.length < 4 → Completes (.hspiWriteRequest fr) s (fun t =>
        OnlyWrites [.dict] s t ∧ t.dict.hspi.requests = h.requests ++ [⟨{ code := 1 }, fr, s.time.now⟩]
        ∧ t.dict.hspi.discards = h.discards
        ∧ t.dict.hspi.transactions = inc32 h.transactions))
    ∧ (∀ fr, 4 ≤ h.requests.length → Completes (.hspiWriteRequest fr) s (fun t => OnlyWrites [.dict] s t
        ∧ t.dict.hspi.requests = h.requests ∧ t.dict.hspi.lost = true ∧ t.dict.hspi.lostCount = inc32 h.lostCount))
    ∧ (∀ fr, kdpFrameOk fr = false → h.requests.length < 4 → Completes (.hspiWriteRequest fr) s (fun t =>
        OnlyWrites [.dict] s t ∧ t.dict.hspi.requests = h.requests ∧ t.dict.hspi.discards = inc32 h.discards))
    ∧ Completes .hspiReadResponse s (fun t => OnlyWrites [.dict] s t
        ∧ t.dict.hspi.miso = h.responses.headD [0] ∧ t.dict.hspi.responses = h.responses.drop 1
        ∧ (hspiIrqLow t = true ↔ 1 < h.responses.length))
    ∧ Completes .hspiReadStatus s (fun t => OnlyWrites [.dict] s t ∧ t.dict.hspi.lost = false
        ∧ t.dict.hspi.miso = [BitVec.ofNat 8 ((if h.responses = [] then 0 else 1)
          + (if h.requests.length < 4 then 2 else 0) + (if h.lost then 4 else 0))])
    ∧ (∀ c, c ≠ 2 → c ≠ 3 → c ≠ 5 → Completes (.hspiUnknownCommand c) s (fun t => OnlyWrites [.dict] s t
        ∧ t.dict.hspi.unknown = inc32 h.unknown ∧ t.dict.hspi.requests = h.requests))

/-- In SAFE or RUN, with neither challenge nor session and an unretired part, a challenge is issued to its requester,
with the nonce of the request or the one that the same requester wrote before (R140 to R143). The right answer of its
requester opens the session; a wrong one ends the challenge and is counted, and the fifth in a row locks out (R141,
R142). The holder's close ends session and staging, and leaves CONFIGURE and MAINTENANCE for SAFE (R144); over UDP only
with a trailer that is accepted, and with another it is answered with 0x24 (R145). -/
def Obligations.Sessions : Prop :=
  ∀ (s : State) (r : Requester), SessionTurn r s → s.dict.staging.running = 0 →
    let x := s.dict.session
    let closing := trailerOk r (sessionReq ((sessionFrame s r).getD [])) (countLoad (arrives r s)).2
    (∀ kind n, (kind = 1 ∨ kind = 2) → n.length = 16 → mayOpen s = true → retired s = false → x.state = 0 →
      Completes (.sessionChallenge r kind (some n)) s (fun t => t.dict.session.state = 1 ∧ t.dict.session.kind = kind
        ∧ t.dict.session.holder = some r ∧ t.dict.session.clientNonce = n
        ∧ t.dict.session.lastRequest = s.time.opNs ∧ t.ctl = s.ctl ∧ Answered r 0 t))
    ∧ (∀ kind n, (kind = 1 ∨ kind = 2) → n.length = 16 → mayOpen s = true → retired s = false → x.state = 0 →
      x.nonceStore = some (r, n) → Served r s → Completes (.sessionChallenge r kind none) s (fun t => t.dict.session.state = 1
        ∧ t.dict.session.kind = kind ∧ t.dict.session.holder = some r ∧ t.dict.session.clientNonce = n
        ∧ t.dict.session.nonceStore = none ∧ t.ctl = s.ctl ∧ Answered r 0 t))
    ∧ (∀ kind n, (kind = 1 ∨ kind = 2) → n.length = 16 → sessionState s = true → retired s = false →
      (x.state = 1 ∨ x.state = 2 ∨ x.state = 3) → Completes (.sessionChallenge r kind (some n)) s (fun t =>
        t.dict.session.state = x.state ∧ t.dict.session.holder = x.holder ∧ Answered r 0x08000021 t))
    ∧ (∀ n, sessionState s = true → n.length = 16 → Served r s → Completes (.clientNonceWrite r n) s (fun t =>
        OnlyWrites [.dict] s t ∧ t.dict.session.nonceStore = some (r, n) ∧ Answered r 0 t))
    ∧ (∀ h mac, mayOpen s = true → x.state = 1 → x.holder = some h → sameRequester h r = true → mac.length = 32 →
      Completes (.sessionAnswer r mac) s (fun t => t.ctl = s.ctl
        ∧ (if mac = hmac (sessionKey s) (answerMsg s r) then t.dict.session.state = x.kind + 1
            ∧ t.dict.session.holder = some h ∧ t.dict.session.wrongRow = 0 ∧ Answered r 0 t
          else t.dict.session.state = (if 5 ≤ x.wrongRow + 1 then 4 else 0) ∧ t.dict.session.holder = none
            ∧ t.dict.session.failures = inc16 x.failures ∧ Answered r 0x06090030 t)))
    ∧ (sessionState s = true → holdsSession s r = true → (closing.isSome = true ∨ r.code = 2 ∨ r.code = 3) →
      Completes (.sessionClose r) s (fun t =>
        t.dict.session.state = 0 ∧ t.dict.session.holder = none ∧ t.dict.staging.kind = 0
        ∧ t.dict.staging.bytes = [] ∧ Answered r 0 t
        ∧ t.ctl.st = (if s.ctl.st = .configure ∨ s.ctl.st = .maintenance then .safe else s.ctl.st)))
    ∧ (sessionState s = true → closing.isSome = false → r.code = 4 → Completes (.sessionClose r) s (fun t =>
        t.dict.session.state = x.state ∧ t.dict.session.holder = x.holder ∧ t.ctl = s.ctl ∧ Answered r 0x24 t))

/-- A challenge expires 10 s after its issue and a lockout 600 s after its cause; a session ends with the time of
0x2110:06 without a request of its holder, as a close ends it (R141, R142, R144). None of them comes early. -/
def Obligations.SessionTimers : Prop :=
  ∀ s : State,
    let x := s.dict.session
    (x.state = 1 → Completes .challengeExpiry s (fun t =>
      if x.lastRequest + 10 * 1000000000 ≤ s.time.opNs then OnlyWrites [.dict] s t ∧ t.dict.session.state = 0
        ∧ t.dict.session.holder = none ∧ t.dict.session.deviceNonce = [] else t = s))
    ∧ (∀ e, x.state = 4 → x.lockout = some e → Completes .lockoutEnd s (fun t =>
      if e ≤ s.time.opNs then OnlyWrites [.dict] s t ∧ t.dict.session.state = 0 ∧ t.dict.session.lockout = none
      else t = s))
    ∧ ((x.state = 2 ∨ x.state = 3) → s.dict.staging.running = 0 → s.dict.staging.closing = false →
      Completes .sessionTimeout s (fun t =>
      if x.lastRequest + x.timeout * 1000000000 ≤ s.time.opNs then t.dict.session.state = 0
        ∧ t.dict.session.holder = none ∧ t.dict.staging.kind = 0
        ∧ t.ctl.st = (if s.ctl.st = .configure ∨ s.ctl.st = .maintenance then .safe else s.ctl.st)
      else t = s))

/-! ### SDO (R121, R122, R130) -/

/-- The SDO server of a CAN port writes 0x1017 when an expedited download or the last segment of a segmented one
arrives; a segment before the last is kept and the toggle bit alternates; a wrong toggle bit aborts with 0x05030000
and leaves the object as it was. An upload of an object that cannot be read aborts with the code of R483, one of up to 4
bytes is answered at once, a longer one in segments of 7. The client's abort ends a transfer, and so do 500 ms without
its frame, with 0x05040000. Each access has its turn when it comes (R120). -/
def Obligations.SdoSegmented : Prop :=
  ∀ (s : State) (n : Nat), sdoOn s n = true → HasTurn (2 + n) s →
    let x := { sdo s n with at_ := s.time.opNs }
    let s' := touch (sdoReq n) (if x.mode = 0 then s else setSdo n x s)
    (∀ sz data, sessionState s = true → data.length = 2 →
      Completes (.sdoInitiateDownload n 0x1017 0 true sz data) s (fun t =>
        t.dict.heartbeat = unle data ∧ sdo t n = {} ∧ t.ctl = s.ctl ∧ Answered (sdoReq n) 0 t))
    ∧ (∀ i j sz data, Completes (.sdoInitiateDownload n i j false sz data) s (fun t => OnlyWrites (.draws :: answerParts) s t
        ∧ sdo t n = { mode := 1, index := i, sub := j, size := sz, at_ := s.time.opNs } ∧ Answered (sdoReq n) 0 t))
    ∧ (∀ data, x.mode = 1 → Completes (.sdoDownloadSegment n x.toggle false data) s (fun t =>
        OnlyWrites (.draws :: answerParts) s t ∧ sdo t n = { x with data := x.data ++ data, toggle := !x.toggle }
        ∧ Answered (sdoReq n) 0 t))
    ∧ (∀ data, x.mode = 1 → sessionState s = true → x.index = 0x1017 → x.sub = 0 → (x.data ++ data).length = 2 →
      (x.size = 0 ∨ x.size = 2) → Completes (.sdoDownloadSegment n x.toggle true data) s (fun t =>
        t.dict.heartbeat = unle (x.data ++ data) ∧ sdo t n = {} ∧ Answered (sdoReq n) 0 t))
    ∧ (∀ l data, x.mode = 1 → Completes (.sdoDownloadSegment n (!x.toggle) l data) s (fun t =>
        OnlyWrites (.draws :: answerParts) s t ∧ t.dict.heartbeat = s.dict.heartbeat ∧ sdo t n = {}
        ∧ Answered (sdoReq n) 0x05030000 t))
    ∧ (∀ i j, Completes (.sdoInitiateUpload n i j) s (fun t =>
        let g := (readView objView (sdoReq n) i j (Config.freeBits s.draws) (draw (countLoad s').2).2).1
        if g.abort ≠ 0 then sdo t n = {} ∧ Answered (sdoReq n) g.abort t
        else if g.data.length ≤ 4 ∧ g.dom = false then sdo t n = {} ∧ (tget {} t.dict.replies (2 + n)).data = g.data
        else (sdo t n).mode = 2 ∧ (sdo t n).data = g.data ∧ (sdo t n).pos = 0 ∧ (sdo t n).toggle = false
          ∧ (tget {} t.dict.replies (2 + n)).data = le 4 g.data.length))
    ∧ (x.mode = 2 → changed s x = false → Completes (.sdoUploadSegment n x.toggle) s (fun t =>
        OnlyWrites (.draws :: answerParts) s t ∧ (tget {} t.dict.replies (2 + n)).data = (x.data.drop x.pos).take 7
        ∧ (if x.data.length ≤ x.pos + 7 then sdo t n = {}
          else sdo t n = { x with pos := x.pos + 7, toggle := !x.toggle })))
    ∧ (∀ code, Completes (.sdoAbortTransfer n code) s (fun t => OnlyWrites [.dict] s t ∧ sdo t n = {}
        ∧ t.dict.heartbeat = s.dict.heartbeat))
    ∧ ((sdo s n).mode ≠ 0 → (sdo s n).at_ + 500000000 ≤ s.time.opNs → Completes (.sdoTimeout n) s (fun t =>
        OnlyWrites (.draws :: answerParts) s t ∧ sdo t n = {} ∧ Answered (sdoReq n) 0x05040000 t))

/-- A block download begins with a size of 1 to 127 segments that the server chooses (a free value), takes the next
segment in order, and writes 0x1017 at its end where the CRC matches; another CRC aborts with 0x05040004. A block
upload of 1 to 127 segments sends up to that many on its start and ends with the client's confirmation. -/
def Obligations.SdoBlocks : Prop :=
  ∀ (s : State) (n : Nat), sdoOn s n = true → HasTurn (2 + n) s →
    let x := { sdo s n with at_ := s.time.opNs }
    (∀ i j crc sz, Completes (.sdoBlockDownload n (.initiate i j crc sz)) s (fun t => OnlyWrites (.draws :: answerParts) s t
        ∧ ∃ b, 1 ≤ b ∧ b ≤ 127 ∧ (tget {} t.dict.replies (2 + n)).data = [BitVec.ofNat 8 b]
          ∧ sdo t n = { mode := 3, index := i, sub := j, size := sz, crc := crc, blksize := b, at_ := s.time.opNs }))
    ∧ (∀ data, x.mode = 3 → x.ending = false → x.seq + 1 < x.blksize →
      Completes (.sdoBlockDownload n (.segment (x.seq + 1) false data)) s (fun t => OnlyWrites [.dict] s t
        ∧ sdo t n = { x with seq := x.seq + 1, data := x.data ++ data }))
    ∧ (∀ unused crc, x.mode = 3 → x.ending = true → sessionState s = true → x.index = 0x1017 → x.sub = 0 →
      (x.size = 0 ∨ x.size = 2) → (x.data.take (x.data.length - unused)).length = 2 →
      Completes (.sdoBlockDownload n (.finish unused crc)) s (fun t => sdo t n = {}
        ∧ (if x.crc = true ∧ crc ≠ sdoCrc (x.data.take (x.data.length - unused)) then
            t.dict.heartbeat = s.dict.heartbeat ∧ Answered (sdoReq n) 0x05040004 t
          else t.dict.heartbeat = unle (x.data.take (x.data.length - unused)) ∧ Answered (sdoReq n) 0 t)))
    ∧ (∀ i j b crc, (b = 0 ∨ 127 < b) → Completes (.sdoBlockUpload n (.initiate i j b crc)) s (fun t =>
        OnlyWrites (.draws :: answerParts) s t ∧ sdo t n = {} ∧ Answered (sdoReq n) 0x05040002 t))
    ∧ (x.mode = 4 → x.seq = 0 → x.ending = false → Completes (.sdoBlockUpload n .start) s (fun t =>
        OnlyWrites (.draws :: answerParts) s t
        ∧ (tget {} t.dict.replies (2 + n)).data = (x.data.drop x.pos).take (7 * x.blksize)
        ∧ 1 ≤ (sdo t n).seq ∧ (sdo t n).pos = x.pos))
    ∧ (x.mode = 4 → x.ending = true → Completes (.sdoBlockUpload n .finish) s (fun t =>
        OnlyWrites [.dict] s t ∧ sdo t n = {}))

/-! ### Writes, staging and commits (R104 to R108, R147 to R149, R372, R452, R483) -/

/-- A served write of an object: one that the device does not have is refused with the code of the first check, one
that is not writable with 0x06010002, and 0x1017 takes its value (R119, R483). In CONFIGURE the session holder stages
an image by its bytes, and a declared parameter within its bound by its value; nothing in force changes (R147, R148).
Another requester is refused with 0x08000021, an undeclared parameter with 0x08000020, a value beyond its bound with
0x06090030. Discarding leaves nothing staged. -/
def Obligations.WritesAndStaging : Prop :=
  ∀ (s : State) (r : Requester), Served r s →
    (∀ i k c data, findObj s i k = .error c → Completes (.objectWrite r i k data) s (fun t =>
        OnlyWrites [.dict, .draws] s t ∧ t.dict.staging = s.dict.staging ∧ Answered r c t))
    ∧ (∀ i k g e row data, findObj s i k = .ok (g, e, row) → row.acc.writable = false →
      Completes (.objectWrite r i k data) s (fun t => OnlyWrites [.dict, .draws] s t
        ∧ t.dict.staging = s.dict.staging ∧ Answered r 0x06010002 t))
    ∧ (∀ data, sessionState s = true → data.length = 2 → Completes (.objectWrite r 0x1017 0 data) s (fun t =>
        OnlyWrites [.dict, .draws] s t ∧ t.dict.heartbeat = unle data ∧ Answered r 0 t))
    ∧ (s.ctl.st = .configure → s.dict.staging.running = 0 →
      (∀ off data, s.dict.staging.kind ≠ 2 → off + data.length ≤ 1048576 →
        Completes (.imageStagingWrite r off data) s (fun t => OnlyWrites [.dict] s t
          ∧ (if holdsSession s r then Answered r 0 t ∧ t.dict.staging.kind = 1
            ∧ ∀ a, rdByte t.dict.staging.bytes a = if off ≤ a ∧ a < off + data.length then data.getD (a - off) 0
              else rdByte s.dict.staging.bytes a
            else Answered r 0x08000021 t ∧ t.dict.staging = s.dict.staging)))
      ∧ (∀ i k g e row data, findObj s i k = .ok (g, e, row) → row.acc = .srw → row.ty.size.isSome = true →
        narrowed s r g k data = false → dataCheck row data = 0 → s.dict.staging.kind ≠ 1 →
        Completes (.parameterStagingWrite r i k data) s (fun t => OnlyWrites [.dict] s t
          ∧ (if holdsSession s r = false then Answered r 0x08000021 t ∧ t.dict.staging = s.dict.staging
            else match declared s i k with
              | none => Answered r 0x08000020 t ∧ t.dict.staging = s.dict.staging
              | some b => if withinBound row.ty b data then Answered r 0 t ∧ t.dict.staging.kind = 2
                  ∧ tfind t.dict.staging.nums (okey i k) = some (unle data)
                else Answered r 0x06090030 t ∧ t.dict.staging = s.dict.staging)))
      ∧ (holdsSession s r = true → Completes (.discardStaging r) s (fun t => OnlyWrites [.dict] s t
        ∧ t.dict.staging.kind = 0 ∧ t.dict.staging.bytes = [] ∧ t.dict.staging.nums = []
        ∧ t.dict.staging.result = s.dict.staging.result ∧ Answered r 0 t)))

/-- The holder's commit of a staged image that passes every check begins with the erase of a slot; one that fails a
check ends the commit with its result, the device in SAFE and the configuration as it was (R105, R108, R372). A slot
that was written while no page of the Ledger waits (R445), and read back, goes on with its fuse requests, which add their
bits, and then with the validity page; without the supplies of R106 the requests wait, and a word that fails its verification ends the commit with 0x83. With
the validity page the image is in force and the session ends with result 2. -/
def Obligations.ImageCommit : Prop :=
  ∀ s : State, s.ctl.st = .configure →
    (∀ r m, Served r s → holdsSession s r = true → s.dict.staging.running = 0 → s.dict.staging.kind = 1 →
      let i := Config.parseImage (rdBytes s.dict.staging.bytes 0 (Staging.contiguous s.dict.staging))
      Completes (.imageCommit r m) s (fun t =>
        if checkStream s i = none ∧ checkSigned s (commitKey s i) i = none
            ∧ checkConf (planOf s (Image.conf i) i.sites) = none ∧ badReq s i ((commitKey s i).getD 0) (fuseList i) s = none
            ∧ nextCommit s ≤ 0xFFFFFFFF ∧ s.led.state = 1 ∧ m.filter (bistCovers s i) = none then
          t.dict.staging.running = 1 ∧ t.dict.staging.result = 1 ∧ t.dict.staging.image = some i
            ∧ t.dict.staging.slot = commitSlot s ∧ t.ctl.st = .configure ∧ t.cfg = s.cfg
            ∧ (nandSlot t (commitSlot s) = { header := slotHeader (nextCommit s) i.length }
              ∨ nandSlot t (commitSlot s) = nandSlot s (commitSlot s))
        else t.ctl.st = .safe ∧ t.dict.staging.running = 0 ∧ 0x80 ≤ t.dict.staging.result
          ∧ t.dict.session.state = 0 ∧ t.cfg.image = s.cfg.image ∧ t.cfg.nums = s.cfg.nums))
    ∧ (∀ i w rb v, s.dict.staging.running = 1 → s.dict.staging.image = some i → slotMay s = true →
      (w = false ∨ rb = false) → Completes (.imageSlotWritten w rb v) s (fun t => t.ctl.st = .safe
        ∧ t.dict.staging.result = (if w = true ∧ s.led.state = 1 then 0x84 else 0x85) ∧ t.cfg.image = s.cfg.image
        ∧ t.fuses.array = s.fuses.array))
    ∧ (∀ i, s.dict.staging.running = 1 → s.dict.staging.image = some i → slotMay s = true → s.led.state = 1 →
      (fuseList i = [] ∨ mayBlow s = true) →
      Completes (.imageSlotWritten true true []) s (fun t => t.ctl.st = .configure ∧ t.dict.staging.running = 2
        ∧ (nandSlot t s.dict.staging.slot).bytes
          = rdBytes s.dict.staging.bytes 0 (Staging.contiguous s.dict.staging)
        ∧ ((nandSlot s s.dict.staging.slot).seq ≠ some s.dict.staging.sequence →
          (nandSlot t s.dict.staging.slot).header = slotHeader s.dict.staging.sequence i.length)
        ∧ ∀ q ∈ fuseList i, (tget {} t.fuses.array q.word).value &&& q.bits = q.bits))
    ∧ (∀ i, s.dict.staging.running = 1 → s.dict.staging.image = some i → slotMay s = true → s.led.state = 1 →
      fuseList i ≠ [] →
      (mayBlow s = false → Completes (.imageSlotWritten true true []) s (fun t => t.ctl.st = .configure
        ∧ t.dict.staging.running = 4 ∧ t.fuses.array = s.fuses.array))
      ∧ (mayBlow s = true → Completes (.imageSlotWritten true true [{ verified := false }]) s (fun t =>
        t.ctl.st = .safe ∧ t.dict.staging.result = 0x83 ∧ t.cfg.image = s.cfg.image)))
    ∧ (∀ i ok id, s.dict.staging.running = 2 → s.dict.staging.image = some i → slotMay s = true →
      Completes (.commitComplete ok id) s (fun t => t.ctl.st = .safe ∧ t.dict.staging.running = 0
        ∧ t.dict.session.state = 0
        ∧ (if ok = true ∧ s.led.state = 1 then
            t.cfg.image = some i ∧ t.dict.staging.result = 2 ∧ t.cfg.sequence = s.dict.staging.sequence
            ∧ (nandSlot t s.dict.staging.slot).validity = validityPage s.dict.staging.sequence (Image.digest i)
          else t.cfg.image = s.cfg.image ∧ t.dict.staging.result = 0x85)))

/-- A commit of staged parameters that stay within their bounds and pass the checks starts the write of the overlay;
another ends with its result and the values as they were. The overlay's end brings the staged values into force beside
the others, with result 2, and ends the session; a readback that fails leaves them out (R148, R149). -/
def Obligations.ParameterCommit : Prop :=
  ∀ s : State, s.ctl.st = .configure →
    (∀ r, Served r s → holdsSession s r = true → s.dict.staging.running = 0 → s.dict.staging.kind = 2 →
      Completes (.parameterCommit r) s (fun t =>
        if s.dict.staging.nums.all (stagedOk s) = true
            ∧ checkConf (planOf s (stagedConf s) (((s.cfg.image).map (·.sites)).getD 0)) = none ∧ s.led.state = 1 then
          t.dict.staging.running = 3 ∧ t.dict.staging.result = 1 ∧ t.ctl.st = .configure ∧ t.cfg = s.cfg
        else t.ctl.st = .safe ∧ (t.dict.staging.result = 0x86 ∨ t.dict.staging.result = 0x85)
          ∧ t.dict.session.state = 0 ∧ t.cfg.nums = s.cfg.nums ∧ t.cfg.strs = s.cfg.strs))
    ∧ (∀ ok, s.dict.staging.running = 3 → slotMay s = true →
      Completes (.parameterCommitComplete ok) s (fun t => t.ctl.st = .safe
        ∧ t.dict.staging.running = 0 ∧ t.dict.session.state = 0 ∧ t.cfg.image = s.cfg.image
        ∧ (if ok = true ∧ s.led.state = 1 then t.cfg.nums = tmerge s.cfg.nums s.dict.staging.nums
            ∧ t.cfg.strs = tmerge s.cfg.strs s.dict.staging.strs ∧ t.dict.staging.result = 2
          else t.cfg.nums = s.cfg.nums ∧ t.cfg.strs = s.cfg.strs
            ∧ t.dict.staging.result = (if ok then 0x85 else 0x84))))

/-! ### Field inputs (R153 to R183) -/

/-- A raw change of a running input sets each lane's sample: an input that is ON counts LOW samples from the first,
one that is OFF counts HIGH samples from the first, and inside its own mask from the mask's end (R155, R156). A lane
whose run is complete flips its filtered state, with the edge at the device time of the first sample of the run and the
change at that of its last, both in whole µs, and the other lane and every input that shares no entry with it stay; an input whose OSSD tolerance is exceeded turns OFF (R155, R157, R192,
R195). -/
def Obligations.InputLevels : Prop :=
  ∀ (s : State) (f i T : Nat), inputRuns s i = true →
    (∀ la lb, Completes (.rawStateChange f i la lb T) s (fun t => OnlyWrites [.field, .time] s t
      ∧ (∀ j, j ≠ i → input t j = input s j)
      ∧ ∀ l, let x := laneIn s l i
        let y := laneIn t l i
        let lev := if l = .a then la else lb
        y.on = x.on ∧ y.raw = lev ∧ (x.on = true → y.first = if lev then none else x.first.or (some T))
        ∧ (x.on = false → ownMask (advance T s) l i T = none →
          y.first = if lev then (if x.raw then x.first.or (some T) else some T) else none)
        ∧ (∀ m, x.on = false → ownMask (advance T s) l i T = some m →
          y.first = if lev then x.first.or (some m) else x.first)))
    ∧ (∀ l, inputForced s i = false → (bit (inFlags (confOf s) i) 2 = false ∨ (laneIn s l i).on = false) →
      runDone s l i T (inFilter (confOf s) i) = true → Completes (.filteredChange f i l T) s (fun t =>
        OnlyWrites (writes (.filteredChange f i l T)) s t ∧ (laneIn t l i).on = !(laneIn s l i).on
        ∧ (laneIn t l i).flip = T
        ∧ (laneIn t l i).change = devAt (advance T s) T - devAt (advance T s) T % 1000
        ∧ (∀ n, (laneIn s l i).first = some n →
          (laneIn t l i).edge = devAt (advance T s) n - devAt (advance T s) n % 1000)
        ∧ laneIn t l.other i = laneIn s l.other i ∧ ∀ j, j ≠ i →
          (∀ e ∈ entriesOf (confOf s) i, (pairChans (confOf s) e).contains j = false) → input t j = input s j))
    ∧ (∀ l, inputForced s i = false → bit (inFlags (confOf s) i) 2 = true → (laneIn s l i).on = true →
      runDone s l i T (inTol (confOf s) i + 1) = true → Completes (.ossdOff f i l T) s (fun t =>
        OnlyWrites (writes (.ossdOff f i l T)) s t ∧ (laneIn t l i).on = false
        ∧ laneIn t l.other i = laneIn s l.other i ∧ ∀ j, j ≠ i →
          (∀ e ∈ entriesOf (confOf s) i, (pairChans (confOf s) e).contains j = false) → input t j = input s j))

/-- The checks of a running input that are not suspended, where it carries no fault of Table IN-3: an overvoltage
raises 0x0107, lanes apart for longer than their limit 0x0103, a reading that contradicts the filtered state for longer
than its time 0x0104 unless the readback is invalid, and one in the transition region for as long 0x0105 where it is
checked (R154, R158, R171, R177). A readback shows the voltages and currents it brings, clamped to
their ranges and in the converter's steps, and a calibration out of tolerance marks the site's readback invalid with 0x0106 (R175, R176). Reading
the event queue delivers its oldest event and removes it (R178). -/
def Obligations.InputChecksAndReadback : Prop :=
  ∀ (s : State) (f : Nat),
    (∀ i, inputRuns s i = true → inputSuspended s i = false → inputFaulted s i = false →
      Completes (.inputOvervoltage f i) s (fun t => OnlyWrites raiseParts s t ∧ Raised 0x0107 i s t)
      ∧ ((input s i).a.on ≠ (input s i).b.on → Completes (.laneInputDisagreement f i) s (fun t =>
        OnlyWrites (writes (.laneInputDisagreement f i)) s t ∧ Raised 0x0103 i s t
        ∧ t.time.now = max s.time.now
          (max (input s i).a.flip (input s i).b.flip + agreementLimit (confOf s) i + 10)))
      ∧ (∀ l n, (siteIn s f).invalid = false → siteOf i = f → ((input s i).plain l).since = some n →
        contradicts (inType (confOf s) i) (fieldSide (input s i)) (laneIn s l i).on = true →
        Completes (.plausibilityFault f i l) s (fun t => OnlyWrites (writes (.plausibilityFault f i l)) s t
          ∧ Raised 0x0104 i s t ∧ t.time.now = max s.time.now (n + inFilter (confOf s) i * 1000 + 1000010)))
      ∧ (∀ n, bit (inFlags (confOf s) i) 1 = true → (input s i).trans.since = some n →
        Completes (.transitionRegionFault f i) s (fun t => OnlyWrites (writes (.transitionRegionFault f i)) s t
          ∧ Raised 0x0105 i s t
          ∧ t.time.now = max s.time.now (n + max (inFilter (confOf s) i * 1000) 10000000 + 10))))
    ∧ (populated s f = true → evaluating s = true →
      (∀ i u c, inputRuns s i = true → siteOf i = f → Completes (.readbackUpdate f [⟨i, u, c⟩] []) s (fun t =>
        OnlyWrites (writes (.readbackUpdate f [⟨i, u, c⟩] [])) s t ∧ (input t i).land = min u 40920 / 40 * 40
        ∧ (input t i).sink = min c 4092 / 4 * 4 ∧ (input t i).a = (input s i).a ∧ (input t i).b = (input s i).b))
      ∧ (∀ k u c, k < 8 → Completes (.readbackUpdate f [] [⟨elemAt f (0x20 + k), u, c⟩]) s (fun t =>
        OnlyWrites [.field] s t ∧ (source t (elemAt f (0x20 + k))).mv = min u 45000
        ∧ (source t (elemAt f (0x20 + k))).ma = min c 600))
      ∧ (∀ ok, Completes (.readbackCalibration f ok) s (fun t => OnlyWrites (writes (.readbackCalibration f ok)) s t
        ∧ (siteIn t f).invalid = !ok ∧ (if ok then CondGone 0x0106 (dieSrc f) t else Raised 0x0106 (dieSrc f) s t))))
    ∧ (∀ r, Served r s → sessionState s = true → populated s f = true → (fba s f).state ≠ 2 →
      Completes (.nextEventRead r f) s (fun t => (siteIn t f).events = (siteIn s f).events.drop 1
        ∧ Answered r 0 t ∧ (tget {} t.dict.replies r.code).data = le 8 ((siteIn s f).events.headD 0)))

/-- A source that pulses opens for its width where the aligned count meets its phase and no window of its die is open
(R162, R164); at the last sample tick the pulse ends, the measured time constant
enters the last eight, the next width follows from them, and the terminal failures in a row are counted (R162, R165,
R172). A source at its current limit is switched off with 0x0201, tried again once while its supply stands, and when it has run its time
the condition is gone (R160). -/
def Obligations.TestPulses : Prop :=
  ∀ (s : State) (f j : Nat), sourceRuns s j = true →
    (∀ T, (source s j).status = 2 → (source s j).pulse = false →
      alignedUs (advance T s) (siteOf j) T % srcPeriod (confOf s) j = srcPhase (confOf s) j →
      windowOpen (advance T s) (siteOf j) T = false →
      Completes (.testPulseStart f j T) s (fun t =>
      OnlyWrites [.field, .time] s t ∧ (source t j).pulse = true ∧ (source t j).start = T
      ∧ (source t j).cur = (source s j).width ∧ (source t j).pulses = inc32 (source s j).pulses
      ∧ ∀ i l, (laneIn t l i).on = (laneIn s l i).on ∧ (laneIn t l i).raw = (laneIn s l i).raw))
    ∧ (∀ r : PulseReading, (source s j).pulse = true →
      Completes (.testPulseEvaluation f j r) s (fun t =>
        let taus := (min 1000 (r.tau.getD 1000) :: (source s j).taus).take 8
        OnlyWrites (writes (.testPulseEvaluation f j r)) s t ∧ (source t j).pulse = false ∧ (source t j).taus = taus
        ∧ (source t j).width = nextWidth (confOf s) j taus
        ∧ (source t j).tau = (r.tau.map (min · 1000)).getD 0xFFFF
        ∧ (source t j).terminalFails = if r.terminalOk then 0 else (source s j).terminalFails + 1))
    ∧ (((source s j).status = 1 ∨ (source s j).status = 2) → Completes (.sourceCurrentLimit f j) s (fun t =>
        OnlyWrites (writes (.sourceCurrentLimit f j)) s t ∧ (source t j).status = 3 ∧ (source t j).pulse = false
        ∧ Raised 0x0201 j s t))
    ∧ ((source s j).status = 3 → tpTripped s (siteOf j) = false → Completes (.sourceRetry f j) s (fun t => OnlyWrites [.field] s t
        ∧ (source t j).status = srcOn (confOf s) j ∧ (source t j).retry = true))
    ∧ ((source s j).retry = true → Completes (.sourceRetryConditionGone f j) s (fun t =>
        OnlyWrites (writes (.sourceRetryConditionGone f j)) s t ∧ (source t j).retry = false ∧ CondGone 0x0201 j t))

/-! ### The pair table (R184 to R206) -/

/-- At the discrepancy deadline an entry that still waits with its leading channel on is in DISC_ON with 0x010A, and
one that waits to go inactive is in DISC_OFF with 0x0109 (R187, R192, R194). When the sampling-start hold of a
one-channel entry ends, the entry takes the state of its channel, and a reset button found closed is stuck (R193,
R205). A press beyond its time is discarded with 0x010C; beyond ten times it the button is stuck with 0x010B until its
signal has been 0 in both lanes for 1,000 ms (R203, R204). No other channel of the entry changes in the tick of a
deadline for DISC_ON, and it serves few enough doors for the collector to keep room. -/
def Obligations.PairTimers : Prop :=
  ∀ (s : State) (e : Nat), evaluating s = true → pairKind (confOf s) e ≠ 0 →
    let ch := (pairChan (confOf s) e 1).getD 0xFFFF
    let few := (doorsOf (confOf s) e).length ≤ 16
    (∀ l, let x := pairLane s l e
      let at_ := x.t0 + discNs (confOf s) l e + 1000
      x.code = 1 → (∀ i ∈ pairChans (confOf s) e, dueAt s l at_ i = false) → x.starting = false → heldOut s l e = false → twoChan (confOf s) e = true →
      (x.lead = 1 ∨ x.lead = 2) → chanOn s l e x.lead = true → Completes (.discrepancyDeadline e l) s (fun t =>
        OnlyWrites (writes (.discrepancyDeadline e l)) s t ∧ (pairLane t l e).code = 4 ∧ (few → Raised 0x010A ch s t)
        ∧ t.time.now = max s.time.now at_))
    ∧ (∀ l, let x := pairLane s l e
      let src := (pairChan (confOf s) e (3 - x.lead)).getD 0xFFFF
      x.code = 3 → x.starting = false → heldOut s l e = false → twoChan (confOf s) e = true → Completes (.discrepancyDeadline e l) s (fun t =>
        OnlyWrites (writes (.discrepancyDeadline e l)) s t ∧ (pairLane t l e).code = 5 ∧ (few → Raised 0x0109 src s t)))
    ∧ (∀ l T, (pairLane s l e).starting = true → (pairLane s l e).soft = true → heldOut s l e = false →
      twoChan (confOf s) e = false → Completes (.samplingStartHoldEnd e l T) s (fun t =>
        OnlyWrites (writes (.samplingStartHoldEnd e l T)) s t ∧ (pairLane t l e).starting = false
        ∧ (pairLane t l e).code = (if chanOn s l e 1 then 2 else 0)
        ∧ (pairKind (confOf s) e = 3 → chanOn s l e 1 = true → (pair s e).stuck = false →
          (pair t e).stuck = true ∧ (few → Raised 0x010B ch s t))))
    ∧ (∀ l b, (pairLane s l e).press = some b → pairKind (confOf s) e = 3 → (pairLane s l e).code = 2 →
      (pairLane s l e).discard = false → Completes (.resetPressOverlong e l) s (fun t =>
        OnlyWrites (writes (.resetPressOverlong e l)) s t ∧ (pairLane t l e).discard = true ∧ Raised 0x010C ch s t
        ∧ t.time.now = max s.time.now (b + (pairTmax (confOf s) e * 1000 + 1) * 1000)))
    ∧ (∀ b, (pair s e).b.press = some b → pairKind (confOf s) e = 3 → (pair s e).stuck = false →
      Completes (.resetButtonStuck e) s (fun t => OnlyWrites (writes (.resetButtonStuck e)) s t
        ∧ (pair t e).stuck = true ∧ Raised 0x010B ch s t
        ∧ t.time.now = max s.time.now (b + (10 * pairTmax (confOf s) e * 1000 + 1) * 1000)))
    ∧ (∀ m n, (pair s e).stuck = true → (pair s e).a.zero = some m → (pair s e).b.zero = some n →
      Completes (.resetStuckLift e) s (fun t => OnlyWrites (writes (.resetStuckLift e)) s t
        ∧ (pair t e).stuck = false ∧ CondGone 0x010B ch t ∧ t.time.now = max s.time.now (max m n + 1000000000)))

/-! ### The function block arrays (R218 to R237, R365 to R369) -/

/-- A window of an array that evaluates commits: the tick is counted and remembered, RUN is remembered for the next
window, 16 more records are scanned, a scan finding is counted, and so is a net whose two rails differ where the first
slot reads it: a slot's output, or a source net that an upset strikes after the latch (R216); device time stands at the end
of the tick (R218, R236, R237). While the array is held, or stopped by a record that is not cleared, its blocks stay as they are (R236, R368). An overrun raises
0x0508 and leaves the committed demands; a third invalid island status raises 0x0509 at the end of its tick (R221,
R233). -/
def Obligations.ArrayWindows : Prop :=
  ∀ (s : State) (f tick : Nat), populated s f = true → evaluating s = true →
    (∀ upset scan, (fba s f).state = 1 → Completes (.evaluationWindow f tick upset scan) s (fun t =>
      OnlyWrites (writes (.evaluationWindow f tick upset scan)) s t ∧ (fba t f).ticks = (fba s f).ticks + 1
      ∧ (fba t f).lastTick = tick ∧ (fba t f).wasRun = inRun s ∧ (fba t f).scan = ((fba s f).scan + 16) % 512
      ∧ t.time.now = max s.time.now (10000 * tick + 10000)
      ∧ (∀ x i, (fba s f).slots.head? = some x → i ∈ x.ins → (fba s f).railFaults < 0xFFFFFFFF →
        ((netSlot i).isSome = true ∧ netSound s f i = false) ∨ (i < 0x70 ∧ upset = some (4096 + i)) →
        (fba s f).railFaults < (fba t f).railFaults)
      ∧ (∀ n, scan = .corrected n → (fba t f).corrected = inc32 (fba s f).corrected)))
    ∧ (∀ upset scan, (fba s f).state ≠ 1 → ((fba s f).state = 3 → arrayStopped s f = true) →
      Completes (.evaluationWindow f tick upset scan) s (fun t =>
      (fba t f).blocks = (fba s f).blocks ∧ (fba t f).demands = (fba s f).demands
      ∧ (fba t f).ticks = (fba s f).ticks ∧ t.time.now = max s.time.now (10000 * tick + 10000)))
    ∧ ((fba s f).state = 1 → Completes (.windowOverrun f) s (fun t => OnlyWrites raiseParts s t
      ∧ (fba t f).demands = (fba s f).demands ∧ Raised 0x0508 (dieSrc f) s t))
    ∧ (hasAlane s f = true → (island s f).statusOk = false → 2 ≤ (fba s f).invalid →
      Completes (.islandStatusInvalid f) s (fun t => OnlyWrites (.time :: raiseParts) s t
      ∧ t.time.now = max s.time.now (10000 * (fba s f).lastTick + 20000)
      ∧ (fba t f).invalid = 3 ∧ (fba t f).validRun = 0 ∧ Raised 0x0509 (dieSrc f) s t))

/-- At the tick in which its time has passed, a TON with its input held gives 1, a TOF and a TP without it give 0, with
the nets as they are latched at the end of that tick (R218, R224). An EDM block in PICKUP whose feedback is still closed goes to FAULT with 0x030C, and one in DROPOUT whose
feedback is still open with 0x030D (R228, R269). A BRAKE block goes from PULL_IN to HOLD (R230). A mechanical test goes
to its next phase, and after its last it has passed (R278). -/
def Obligations.BlockTimes : Prop :=
  ∀ (s : State) (f n tick : Nat), populated s f = true → evaluating s = true → (fba s f).state = 1 →
    let x := (fba s f).slots.getD n {}
    let b := blk s f n
    let el := elemAt f (0x40 + x.p2)
    let br := elemAt f (0x60 + x.p0)
    let z := latchNets f (advance (10000 * tick + 10000) s)
    let sound := ∀ i ∈ x.ins, netSound z f i = true
    (x.ty = 8 → x.ins ≠ [] → b.prev = true → slotIn z f x 0 = true → x.p0 ≤ 10 * tick + 10 - b.t0 →
      Completes (.blockTimerExpiry f n tick) s (fun t => OnlyWrites (writes (.blockTimerExpiry f n tick)) s t
        ∧ tget 0 (fba t f).outs n = 1))
    ∧ ((x.ty = 9 ∨ x.ty = 0xA) → x.ins ≠ [] → b.prev = false → slotIn z f x 0 = false →
      x.p0 ≤ 10 * tick + 10 - b.t0 → Completes (.blockTimerExpiry f n tick) s (fun t =>
        OnlyWrites (writes (.blockTimerExpiry f n tick)) s t ∧ tget 0 (fba t f).outs n = 0))
    ∧ (x.ty = 0x18 → b.ran = true → b.code = 1 → x.p0 < 10 * tick + 10 - b.t0 → slotIn z f x 0 = true →
      slotIn z f x 1 = true → inRun s = true → heldB s el = false → sound → Completes (.edmTimeout f n tick) s (fun t =>
        OnlyWrites (writes (.edmTimeout f n tick)) s t ∧ (blk t f n).code = 4 ∧ Raised 0x030C el s t))
    ∧ (x.ty = 0x18 → b.ran = true → b.code = 3 → x.p1 < 10 * tick + 10 - b.t0 → slotIn z f x 1 = false →
      Completes (.edmTimeout f n tick) s (fun t =>
        OnlyWrites (writes (.edmTimeout f n tick)) s t ∧ (blk t f n).code = 4 ∧ Raised 0x030D el s t))
    ∧ (x.ty = 0x19 → b.code = 1 → x.p2 ≤ 10 * tick + 10 - b.t0 → slotIn z f x 0 = true → inRun s = true →
      heldB s br = false → brakeBlocked s br = false → sound → Completes (.brakePullInElapsed f n tick) s (fun t =>
        OnlyWrites (writes (.brakePullInElapsed f n tick)) s t ∧ (blk t f n).code = 2))
    ∧ (∀ k, brakeSlot s k = some n → inRun s = true → b.code = 3 → Completes (.mechanicalTestPhaseEnd f k) s (fun t =>
        OnlyWrites (writes (.mechanicalTestPhaseEnd f k)) s t
        ∧ t.time.now = max s.time.now (max (b.t0 + phaseUs (confOf s) k b.phase) (fba s f).resumed * 1000)
        ∧ (if b.phase < 3 then (blk t f n).phase = b.phase + 1 ∧ (blk t f n).code = 3
          else (blk t f n).code = 0 ∧ (blk t f n).mark = false ∧ (brake t k).mech = 1)))

/-- The oldest array that may be tested is held with a copy of its block states; with a good result and a good restore
it evaluates again from the copy unless a record that is not cleared stops it, its age starts anew and the conditions of 0x0E12, 0x0E13 and 0x0E17 are gone; with
another result it is stopped, eligible again, and 0x0E12 or 0x0E13 is raised (R236, R365, R368, R369, R376). -/
def Obligations.ArrayTests : Prop :=
  ∀ (s : State) (f : Nat),
    (evaluating s = true → arrayMay s f = true → (∀ g, g < 7 → (item s (4 + g)).state ≠ 2 ∧
        (arrayMay s g = true → itemAge s (4 + g) ≤ itemAge s (4 + f))) → Completes (.arrayBistStart f) s (fun t =>
      OnlyWrites [.array, .test] s t ∧ (fba t f).state = 2 ∧ (item t (4 + f)).state = 2
      ∧ (item t (4 + f)).copy = (fba s f).blocks))
    ∧ (∀ tick (r : BistResult), fromStartup s = true → (item s (4 + f)).state = 2 → (fba s f).state = 2 →
      (bistJudge (4 + f) r s = 1 → Completes (.arrayBistEnd f tick r true) s (fun t =>
        OnlyWrites (writes (.arrayBistEnd f tick r true)) s t
        ∧ (fba t f).state = (if arrayStopped s f then 3 else 1)
        ∧ (fba t f).blocks = (item s (4 + f)).copy ∧ (fba t f).slots = netlist (confOf s) f
        ∧ (item t (4 + f)).state = 0 ∧ (item t (4 + f)).result = 1 ∧ CondGone 0x0E12 (dieSrc f) t
        ∧ CondGone 0x0E13 (dieSrc f) t ∧ CondGone 0x0E17 (dieSrc f) t))
      ∧ (bistJudge (4 + f) r s ≠ 1 → Completes (.arrayBistEnd f tick r true) s (fun t =>
        OnlyWrites (writes (.arrayBistEnd f tick r true)) s t ∧ (fba t f).state = 3 ∧ (item t (4 + f)).state = 1
        ∧ Raised (if bistJudge (4 + f) r s = 2 then 0x0E12 else 0x0E13) (dieSrc f) s t)))

/-! ### Outputs, returns, supplies and brakes (R245 to R285) -/

/-- The monitors of elements: a current limit raises 0x0301 on an output and 0x030B on a return; the group's sum enters
its last 1,000 and a mean above 6 A raises 0x0308; an external feed of an output that is off raises 0x0304 until the
land has been below 5 V; currents that do not match raise 0x0309, a load below the minimum 0x0307, until they match or reach it (R245 to R253). -/
def Obligations.OutputMonitors : Prop :=
  ∀ (s : State) (f q : Nat),
    (isOutput q = true → elOn s q = true → Completes (.outputCurrentLimit f q) s (fun t =>
      OnlyWrites (writes (.outputCurrentLimit f q)) s t ∧ Raised 0x0301 q s t))
    ∧ (isReturn q = true → elOn s q = true → Completes (.returnCurrentLimit f q) s (fun t =>
      OnlyWrites (writes (.returnCurrentLimit f q)) s t ∧ Raised 0x030B q s t))
    ∧ (∀ g x, populated s f = true → evaluating s = true → g < 2 → Completes (.groupCurrentMean f g x) s (fun t =>
      OnlyWrites (writes (.groupCurrentMean f g x)) s t
      ∧ tget [] t.outs.sums (groupKey f g) = (x :: tget [] s.outs.sums (groupKey f g)).take 1000
      ∧ (groupOver t f g = true → Raised 0x0308 (dieSrc f) s t)
      ∧ (groupOver t f g = false → groupOver t f (1 - g) = false → CondGone 0x0308 (dieSrc f) t)))
    ∧ (∀ v, isOutput q = true → populated s (siteOf q) = true → evaluating s = true → elOff s q = true → 1100 < v →
      Completes (.externalFeed f q v) s (fun t => OnlyWrites (writes (.externalFeed f q v)) s t
        ∧ (elem t q).land = clamp (-3000) 4500 v ∧ (feedOther s 0x0304 q = false → Raised 0x0304 q s t)))
    ∧ (∀ v, isOutput q = true → populated s (siteOf q) = true → v < 500 → Completes (.externalFeedGone f q v) s (fun t =>
      OnlyWrites (writes (.externalFeedGone f q v)) s t ∧ (elem t q).land = clamp (-3000) 4500 v
      ∧ CondGone 0x0304 q t))
    ∧ (∀ m sum ret, outReturn (confOf s) q = some m → isOutput q = true → elOn s q = true → elOn s m = true →
      (elem s q).calBad = false → (elem s m).calBad = false →
      Completes (.pmCurrentMismatch f ⟨q, sum, ret⟩) s (fun t => OnlyWrites (writes (.pmCurrentMismatch f ⟨q, sum, ret⟩)) s t
        ∧ (pmDiffers sum ret = true → Raised 0x0309 q s t) ∧ (pmDiffers sum ret = false → CondGone 0x0309 q t)))
    ∧ (∀ ma, isOutput q = true → elOn s q = true → bit (outFlags (confOf s) q) 1 = true → (elem s q).test = 0 →
      (elem s q).calBad = false → (elem s q).since + 100000000 ≤ s.time.opNs →
      Completes (.minimumLoad f ⟨q, ma⟩) s (fun t => OnlyWrites (writes (.minimumLoad f ⟨q, ma⟩)) s t
        ∧ (elem t q).ma = min ma 6000 ∧ (ma < minLoad (confOf s) q → Raised 0x0307 q s t)
        ∧ (minLoad (confOf s) q ≤ ma → CondGone 0x0307 q t)))

/-- A dark test opens the announced switch of every member of an element's set 100 µs into its slot of a frame in which
it is due; a result that passes on both sides is counted, and when the whole set has passed the other switch comes next;
a first failure of a side is kept for its confirmation, and a confirmed one raises 0x0302, 0x030A or 0x0408 (R254 to
R258). A light test closes an output that is off; its second failure in a row
raises 0x0306 (R261). -/
def Obligations.OutputTests : Prop :=
  ∀ (s : State) (q : Nat),
    let i := island s (siteOf q)
    let sw := (lowElem s q).next
    (∀ T, elOn s q = true → (elem s q).test = 0 → inSlot s q T = true →
      (testDue s q T = true ∨ repeatDue s q = true ∨ (lowElem s q).owed = true) →
      names (if sw = 0 then i.announcedB else i.announced) s q T sw = true → (fba s (siteOf q)).state = 1 →
      (isBrake q = false ∨ brakeCode s q = 2) → Completes (.darkTestStart q T) s (fun t =>
        OnlyWrites [.outs, .time] s t ∧ ∀ m ∈ setMembers (confOf s) q,
          (elem t m).test = 1 ∧ (elem t m).begun = T ∧ (elem t m).sw = sw))
    ∧ (∀ rB rA : DarkReading, (elem s q).test = 1 → elOn s q = true → rB.offFalls = [] → rA.offFalls = [] →
      let kB := darkOutcome q rB
      let kA := darkOutcome q rA
      let x := elem s q
      (kB = 0 → kA = 0 → Completes (.darkTestEvaluation q ⟨rB, rA⟩) s (fun t =>
        OnlyWrites (writes (.darkTestEvaluation q ⟨rB, rA⟩)) s t ∧ (elem t q).test = 0 ∧ (elem t q).failed = 0
        ∧ (elem t q).failedA = 0 ∧ (elem t q).tests = inc32 x.tests ∧ (elem t q).lastTestTime = devAt (advance (x.begun + (dtWidth (confOf s) q - 1) * 1000) s) x.begun
        ∧ (lowElem t q).next = (if (lowElem s q).setBad then x.sw else 1 - x.sw)))
      ∧ ((kB ≠ 0 ∨ kA ≠ 0) → x.failed = 0 → x.failedA = 0 → Completes (.darkTestEvaluation q ⟨rB, rA⟩) s (fun t =>
        OnlyWrites [.outs, .time] s t ∧ (elem t q).test = 0 ∧ (elem t q).failed = kB ∧ (elem t q).failedA = kA
        ∧ (lowElem t q).next = x.sw))
      ∧ (((kB = 1 ∧ x.failed ≠ 0) ∨ (kA = 1 ∧ x.failedA ≠ 0 ∧ (x.failed = 0 ∨ kB = 0))) → fromStartup s = true →
        (isOutput q = true ∨ isReturn q = true ∨ isBrake q = true) →
        Completes (.darkTestEvaluation q ⟨rB, rA⟩) s (fun t => OnlyWrites (writes (.darkTestEvaluation q ⟨rB, rA⟩)) s t
          ∧ (elem t q).test = 0 ∧ (elem t q).failed = 0 ∧ (elem t q).failedA = 0
          ∧ Raised (if isBrake q then 0x0408 else if isReturn q then 0x030A else 0x0302) q s t)))
    ∧ (∀ f T, isOutput q = true → elUsed s q = true → inRun s = true → elOff s q = true → heldA s q = false →
      heldB s q = false → bit (outFlags (confOf s) q) 0 = true → (elem s q).test = 0 → inSlot s q T = true →
      testDue s q T = true → names i.announced s q T 2 = true → names i.announcedB s q T 2 = true → lightFree s q = true →
      (fba s (siteOf q)).state = 1 →
      Completes (.lightTestStart f q T) s (fun t => OnlyWrites [.outs, .time] s t
        ∧ ∀ m ∈ setMembers (confOf s) q, (elem t m).test = 2 ∧ (elem t m).begun = T))
    ∧ (∀ f v, (elem s q).test = 2 → elOff s q = true → lightFree s q = true → fromStartup s = true → Completes (.lightTestEvaluation f q v) s (fun t =>
        OnlyWrites (writes (.lightTestEvaluation f q v)) s t ∧ (elem t q).test = 0
        ∧ (elem t q).land = clamp (-3000) 4500 v
        ∧ (1100 ≤ v → (elem t q).lightFails = 0)
        ∧ (v < 1100 → (elem s q).lightFails = 1 → Raised 0x0306 q s t ∧ (elem t q).lightFails = 0)))

/-- A monitored group supply that has been present: below 19.2 V 0x0B21 is raised until it is above 19.7 V; below 16.8 V and above 33 V the
supply has tripped, 0x0B22 or 0x0B23 is raised, and lane B closes no output or brake that it feeds; back within 18 V
to 32 V it is present and the conditions of its trips are gone (R263, R264). -/
def Obligations.GroupSupplies : Prop :=
  ∀ (s : State) (f v mv : Nat), monitors s v = true →
    (supplySeen s v = true → mv < 19200 → Completes (.groupSupplyWarning f v mv) s (fun t =>
      OnlyWrites (writes (.groupSupplyWarning f v mv)) s t
      ∧ supply t v = { status := if supplyOk s v then 2 else 3, mv := min mv 45000 }
      ∧ Raised 0x0B21 v s t))
    ∧ (19700 < mv → Completes (.groupSupplyWarningClear f v mv) s (fun t =>
      OnlyWrites (writes (.groupSupplyWarningClear f v mv)) s t ∧ (supply t v).status ≠ 2 ∧ CondGone 0x0B21 v t))
    ∧ (supplySeen s v = true → mv < 16800 → Completes (.groupSupplyUndervoltage f v mv) s (fun t =>
      OnlyWrites (writes (.groupSupplyUndervoltage f v mv)) s t ∧ (supply t v).status = 3 ∧ Reported 0x0B22 v t
      ∧ ∀ el, (isOutput el = true ∨ isBrake el = true) → groupSupply el = v → driveB t el = false))
    ∧ (supplySeen s v = true → 33000 < mv → Completes (.groupSupplyOvervoltage f v mv) s (fun t =>
      OnlyWrites (writes (.groupSupplyOvervoltage f v mv)) s t ∧ (supply t v).status = 3 ∧ Reported 0x0B23 v t
      ∧ ∀ el, (isOutput el = true ∨ isBrake el = true) → groupSupply el = v → driveB t el = false))
    ∧ (18000 ≤ mv → mv ≤ 32000 → ((supply s v).status = 0 ∨ (supply s v).status = 3) →
      Completes (.groupSupplyPresent f v mv) s (fun t => OnlyWrites (writes (.groupSupplyPresent f v mv)) s t
        ∧ supply t v = { status := 1, mv := mv } ∧ CondGone 0x0B22 v t ∧ CondGone 0x0B23 v t))

/-- The coil of a brake that is checked: no current raises 0x0401, an overcurrent 0x0402, a holding current off by more
than 20 % 0x0405 (R274). A pull-in whose signature fails raises 0x0403 or 0x0404 and one that passes enters the
learning where it is asked for; its waveform is kept where it failed or flag bit 2 asks for it; an interval without a passed mechanical test raises 0x0407 (R275, R276, R278). The
Relearn subindex of an output or brake clears what was learned of it (R285), and what has changed goes to the backup
(R271). -/
def Obligations.BrakesAndLearning : Prop :=
  ∀ (s : State) (f b : Nat),
    (coilChecked s b = true →
      (elOn s b = true → (elem s b).since + 20000000 ≤ s.time.opNs → Completes (.coilOpen f b) s (fun t => OnlyWrites (writes (.coilOpen f b)) s t
        ∧ Raised 0x0401 b s t))
      ∧ (∀ ma, driveB s b = true → Completes (.coilOvercurrent f b ma) s (fun t =>
        OnlyWrites (writes (.coilOvercurrent f b ma)) s t ∧ (brake t b).ma = min ma 4000 ∧ Raised 0x0402 b s t))
      ∧ (∀ ma, driveB s b = true → holdFor s b 30000 = true →
        brakeCfg (confOf s) b 3 2000 * 20 < ndist ma (brakeCfg (confOf s) b 3 2000) * 100 →
        Completes (.holdingCurrentFault f b ma) s (fun t => OnlyWrites (writes (.holdingCurrentFault f b ma)) s t
          ∧ (brake t b).ma = min ma 4000 ∧ Raised 0x0405 b s t))
      ∧ (∀ l, (brake s b).pending = true → bit (brakeCfg (confOf s) b 9 3) 0 = true → fromStartup s = true →
        let dip := findDip (brakeCfg (confOf s) b 6 200000) l 0 0 0
        let code := signature (confOf s) b (brakeLearn s b).base dip
        Completes (.signatureDecision f b l) s (fun t => OnlyWrites (writes (.signatureDecision f b l)) s t
          ∧ (brake t b).pending = false ∧ (brake t b).dip = dip.getD 0xFFFFFFFF
          ∧ ((code ≠ 0 ∨ bit (brakeCfg (confOf s) b 9 3) 2 = true) → (brake t b).wave = l.take 2048)
          ∧ (code ≠ 0 → Raised code b s t ∧ (brakeLearn t b).sigFails = inc32 (brakeLearn s b).sigFails)
          ∧ (code = 0 → bit (brakeCfg (confOf s) b 9 3) 1 = true →
            (brakeLearn t b).dips = (dip.getD 0 :: (brakeLearn s b).dips).take 64))))
    ∧ (isBrake b = true → elUsed s b = true → brakeCfg (confOf s) b 0xC 0 ≠ 0 → fromStartup s = true →
      (brakeLearn s b).lastPass + brakeCfg (confOf s) b 0xC 0 * 3600 * 1000000000 ≤ s.time.opNs →
      Completes (.mechanicalTestOverdue f b) s (fun t => OnlyWrites raiseParts s t ∧ Raised 0x0407 b s t))
    ∧ (∀ r q, Served r s → s.ctl.st = .maintenance → holdsSession s r = true → populated s f = true → q < 16 →
      Completes (.relearn r (0x6000 + 0x20 * f + q)) s (fun t => Answered r 0 t
        ∧ learn t (elemAt f (0x40 + q)) = { learn s (elemAt f (0x40 + q)) with
          learned := 0, n := 0, total := 0, last16 := [], drift := 0 }
        ∧ t.led.dirty = true))
    ∧ (∀ r k, Served r s → s.ctl.st = .maintenance → holdsSession s r = true → populated s f = true → k < 2 →
      Completes (.relearn r (0x6010 + 0x20 * f + k)) s (fun t => Answered r 0 t
        ∧ brakeLearn t (elemAt f (0x60 + k)) = { brakeLearn s (elemAt f (0x60 + k)) with
          dips := [], base := 0, initial := 0, n := 0 }
        ∧ t.led.dirty = true))
    ∧ Completes .learnedValuePersist s (fun t => OnlyWrites [.col, .breach, .led] s t
      ∧ (paramMay s = true → s.led.dirty = true → t = persist s) ∧ (s.led.dirty = false → (∀ e ∈ s.outs.elems, e.2.on = false) → t = s))

/-! ### Fault collection (R338 to R363) -/

/-- A report of a code and sources that the tables define, not more than 20 µs old, is in effect at once where the
collector has room (R332 to R334); one of L4 that was not in effect stops the Curfew pattern
of every populated site, halts every core and ends a waiting request (R34, R45, R334, R338). Without room a report of
L2 or above raises 0x0E02 in its place (R344). A commit, 20 µs after the report's
timestamp and not before, gives the front report the next sequence number and, where no uncleared record is of its code
and source and nothing escalates it, its defined level; at L4 the device is in HALT (R42, R341). A record whose quiet period has passed
recovers and is counted, or becomes permanent at the limit of its class (R352, R353). -/
def Obligations.Collector : Prop :=
  ∀ s : State, fromStartup s = true →
    (∀ a, room s → reportable a = true → s.time.now ≤ tick10 a.time + 20000 → Completes (.faultReport a) s (fun t =>
        OnlyWrites (writes (.faultReport a)) s t ∧ InEffect a.code a.source t))
    ∧ (∀ a, room s → reportable a = true → s.time.now ≤ tick10 a.time + 20000 → a.lvl = 4 → faultActive s a.code a.source = false → Completes (.faultReport a) s (fun t =>
        (∀ f, populated s f = true → bit t.col.curfew f = true) ∧ (∀ k, k < 4 → (Machine.core t k).role = .halted)
        ∧ t.ctl.request = none))
    ∧ (∀ a, ¬ room s → reportable a = true → s.time.now ≤ tick10 a.time + 20000 → 2 ≤ a.lvl → Unreported a.code a.source s → Completes (.faultReport a) s (fun t =>
        InEffect 0x0E02 0x077E t ∧ ∀ f, populated s f = true → bit t.col.curfew f = true))
    ∧ (∀ T p ps, s.col.pending = p :: ps → max s.time.now T < p.rep.time + 20000 →
      Completes (.faultRecordCommit T) s (fun t => t = advance T s))
    ∧ (∀ T p ps, s.col.pending = p :: ps → p.rep.time + 20000 ≤ max s.time.now T →
      (p.present = true ∨ 2 ≤ p.rep.lvl) → p.force4 = false → p.superseded = false →
      s.col.records.any (Record.sameAs · p.rep) = false →
      s.col.records.any (Record.escalates · p.rep) = false → Completes (.faultRecordCommit T) s (fun t =>
        OnlyWrites (writes (.faultRecordCommit T)) s t ∧ t.col.next = nextSeq s.col.next
        ∧ t.col.total = inc32 s.col.total
        ∧ (∃ r ∈ t.col.records, r.seq = s.col.next ∧ r.code = p.rep.code ∧ r.source = p.rep.source
          ∧ r.time = p.stamp ∧ r.detail = p.rep.detail ∧ r.level = p.rep.lvl ∧ r.uncleared = true)
        ∧ (p.rep.lvl = 4 → t.ctl.st = .halt) ∧ (p.rep.lvl ≠ 4 → t.ctl.st = s.ctl.st)))
    ∧ (∀ n r, recOf s.col.records n = some r → (∀ x ∈ s.col.records, x.seq = n → x = r) → r.uncleared = true →
      r.present = false → (r.level = 2 ∨ r.level = 3) → r.permanent = false → s.ctl.st ≠ .halt →
      let q := quietOf (confOf s) (codeClass r.code)
      q ≠ 0 → r.goneAt + q * 1000000000 ≤ s.time.opNs → Completes (.quietPeriodEnd n) s (fun t =>
        OnlyWrites (writes (.quietPeriodEnd n)) s t
        ∧ (if limitOf (confOf s) (codeClass r.code) ≤ (windowOf s (codeClass r.code)).length then
            ∀ x ∈ t.col.records, x.seq = n → x.permanent = true
          else (tget {} t.col.classes (codeClass r.code)).counter
              = inc16 (tget {} s.col.classes (codeClass r.code)).counter
            ∧ ∀ x ∈ t.col.records, x.seq = n → x.uncleared = false ∧ x.recovered = true)))

/-- The accesses to the collector. An acknowledgement over a permitted transport clears a record whose condition is gone
and is refused while it is present; without such a record it fails with 0x06090030 (R355, R356). One that comes in the
time tick of the record's automatic recovery takes that recovery's count back (R354). Clearing the history
leaves the uncleared records in it, and the session holder releases a first-fault record that is cleared (R361). A read
of a record whose condition is gone marks it read (R347). In MAINTENANCE the holder starts an injection and clears a
class's recovery counter (R358, R362). -/
def Obligations.CollectorAccesses : Prop :=
  ∀ (s : State) (r : Requester), Served r s →
    (sessionState s = true → transportOk s r = true →
      (∀ n x, 1 ≤ n → n < 0xFFFFFFFF → recOf s.col.records n = some x → (∀ y ∈ s.col.records, y.seq = n → y = x) →
        x.uncleared = true → x.level < 4 → x.permanent = false → Completes (.acknowledge r n) s (fun t =>
          if x.present then Answered r 0x08000022 t ∧ t.col = s.col
          else Answered r 0 t ∧ t.col.lastAck = 1
            ∧ ∀ y ∈ t.col.records, y.seq = n → y.uncleared = false ∧ y.acked = true))
      ∧ (∀ n x, 1 ≤ n → n < 0xFFFFFFFF → recOf s.col.records n = some x → (∀ y ∈ s.col.records, y.seq = n → y = x) →
        (s.col.records.filter (fun y => decide (y.seq = n))).length = 1 →
        x.uncleared = false → recoveredNow s x = true → Completes (.acknowledge r n) s (fun t =>
          Answered r 0 t ∧ t.col.lastAck = 1 ∧ (tget {} t.col.classes (codeClass x.code)).counter
              = (tget {} s.col.classes (codeClass x.code)).counter - 1
            ∧ ∀ y ∈ t.col.records, y.seq = n → y.acked = true ∧ y.recovered = false))
      ∧ (∀ n, 1 ≤ n → n < 0xFFFFFFFF → recOf s.col.records n = none → Completes (.acknowledge r n) s (fun t =>
        Answered r 0x06090030 t ∧ t.col = s.col))
      ∧ Completes (.clearHistory r) s (fun t => Answered r 0 t ∧ ∀ n ∈ t.col.history, n ∈ s.col.history
        ∧ ∃ x, recOf s.col.records n = some x ∧ x.uncleared = true))
    ∧ (sessionState s = true → holdsSession s r = true → ∀ n x, s.col.first = some n →
      recOf s.col.records n = some x → Completes (.releaseFirstFault r) s (fun t =>
        if x.uncleared then Answered r 0x08000022 t ∧ t.col.first = some n
        else Answered r 0 t ∧ t.col.first = none ∧ t.col.since = 0))
    ∧ (∀ i k x, (i = 0x2500 ∨ i = 0x2501) → shownRec s i k = some x → x.present = false →
      (sessionState s = true ∨ s.ctl.st = .halt) → Completes (.faultRecordRead r i k) s (fun t => Answered r 0 t
        ∧ (tget {} t.dict.replies r.code).data = x.bytes ∧ ∀ y ∈ t.col.records, y.seq = x.seq → y.read = true))
    ∧ (s.ctl.st = .maintenance → holdsSession s r = true →
      Completes (.faultInjectionStart r) s (fun t => if s.col.result = 1 then Answered r 0x08000022 t ∧ t.col = s.col
        else Answered r 0 t ∧ t.col.result = 1 ∧ t.col.made = 0 ∧ t.col.seen = 0)
      ∧ (∀ c, 1 ≤ c → c ≤ 16 → Completes (.resetRecoveryCounter r c) s (fun t => Answered r 0 t
        ∧ (tget {} t.col.classes c).counter = 0 ∧ ∀ d, d ≠ c → tget {} t.col.classes d = tget {} s.col.classes d)))

/-- A chime round is counted and leaves the count of good injections of a missed checker at 0 and of a seen one above
it (R357). A manual injection is counted, seen or missed; a missed one raises the checker's code of Table FC-7, and in
with-fault mode one that is seen raises the fault of a real error (R358). The window of a breach rank that holds a count
ends 1,000 ms after its begin with a summary record (R330). -/
def Obligations.ChimeAndSummaries : Prop :=
  ∀ s : State,
    (∀ l, chimeRuns s = true → Completes (.chimeRound l) s (fun t => OnlyWrites (writes (.chimeRound l)) s t
      ∧ t.col.rounds = inc32 s.col.rounds ∧ (∀ n ∈ roundCheckers s, n ∈ l → tget 3 t.col.good n = 0)
      ∧ (∀ n ∈ roundCheckers s, n ∉ l → tget 3 t.col.good n ≠ 0) ∧ (l = [] → t.col.misses = s.col.misses)))
    ∧ (∀ d, s.ctl.st = .maintenance → s.col.result = 1 → Completes (.faultInjection d) s (fun t =>
      OnlyWrites (writes (.faultInjection d)) s t ∧ t.col.made = s.col.made + 1 ∧ t.col.seen = s.col.seen + b2n d
      ∧ t.col.result = (if s.col.made + 1 < s.col.count then 1
        else if s.col.seen + b2n d = s.col.made + 1 then 2 else 3)
      ∧ (d = false → t.col.misses = inc32 s.col.misses
        ∧ Raised (chimeFault s.col.checker).1 (chimeFault s.col.checker).2 s t)
      ∧ (d = true → s.col.mode = 2 → ∀ x, realFault s s.col.checker s.draws = some x → Raised x.code x.source s t)))
    ∧ (∀ k, tget 0 s.breach.window k ≠ 0 → s.led.state = 1 → s.led.openRecs ≠ [] →
      s.led.openRecs.length + 1 < pageRoom s s.led.nextPage → Completes (.summaryRecordWindow k) s (fun t =>
        OnlyWrites [.col, .breach, .led, .time] s t ∧ tget 0 t.breach.window k = 0
        ∧ t.time.now = max s.time.now (tget 0 s.breach.windowFrom k + 1000000000)
        ∧ ∃ x, t.led.openRecs = s.led.openRecs ++ [x] ∧ x.type = 7 ∧ x.rank = 3 ∧ x.time = t.time.dev))

/-! ### Self-test (R364 to R380) -/

/-- An item becomes eligible at 90 % of its interval and not before, or on request; a core's item brings the others of
its round (R376, R379). A rotation step, begun at a boundary, tests the core that stands by or asks for the handover of the next (R370). A
core that passes stands by again and its age starts anew; one that fails is out until the next reset, with 0x0E10 or
0x0E11 (R365, R370, R371). TS3 is tested with a core standing by; a failure takes it out of use with 0x0E14 (R372). A
calibration out of tolerance marks the readback invalid with 0x0E19, one overdue raises 0x0E18 (R374, R375). An item at
its interval raises 0x0E15, at twice its interval 0x0E16 (R377). -/
def Obligations.SelfTests : Prop :=
  ∀ s : State,
    (∀ n, scheduling s = true → itemExists s n = true → ((item s n).state = 0 ∨ (item s n).state = 3) →
      Completes (.itemEligible n) s (fun t => OnlyWrites [.test] s t
      ∧ (if itemInterval s n * 9 ≤ itemAge s n * 10 then (item t n).state = 1
          ∧ (n < 4 → s.test.untested = [] → s.test.step = 0 →
            t.test.untested = if (roundOrder s).contains n then roundOrder s else roundOrder s ++ [n])
          ∧ (n < 4 → s.test.untested ≠ [] → n ∈ t.test.untested)
        else t = s)))
    ∧ (∀ r n, Served r s → sessionState s = true → transportOk s r = true → n ≤ 0xB →
      Completes (.testRequest r n) s (fun t => if itemExists s n then Answered r 0 t
          ∧ (item t n).state = (if (item s n).state = 0 ∨ (item s n).state = 3 then 1 else (item s n).state)
        else Answered r 0x06090030 t ∧ t.test = s.test))
    ∧ (∀ k l, evaluating s = true → s.proc.running = true → coreTesting s = false → liveRound s = k :: l →
      (freeStandby s).isSome = true → (item s 0x0B).state ≠ 2 →
      (stepMay s = true ∨ (s.test.step = 4 - min 3 l.length ∧ (Machine.core s k).role = .standby)) →
      Completes .rotationStep s (fun t =>
        OnlyWrites [.proc, .test] s t
        ∧ (if (Machine.core s k).role = .standby then (Machine.core t k).role = .underTest ∧ (item t k).state = 2 ∧ t.test.untested = l
          else t.test.handover = some (Machine.core s k).part)))
    ∧ (∀ k r, k < 4 → fromStartup s = true → (Machine.core s k).role = .underTest → (item s k).state = 2 →
      Completes (.coreBistComplete k r) s (fun t => OnlyWrites raiseParts s t
        ∧ (if bistJudge k r s = 1 then (Machine.core t k).role = .standby ∧ (item t k).state = 0 ∧ (item t k).result = 1
            ∧ (item t k).ageFrom = s.time.opNs
          else (Machine.core t k).bist = 3
            ∧ Raised (if bistJudge k r s = 2 then 0x0E10 else 0x0E11) (0x0700 + k) s t)))
    ∧ (evaluating s = true → (item s 0x0B).state = 1 → (freeStandby s).isSome = true → coreTesting s = false →
      Completes .ts3MemoryBistStart s (fun t => OnlyWrites [.test] s t ∧ (item t 0x0B).state = 2))
    ∧ (∀ ok, (item s 0x0B).state = 2 → fromStartup s = true → Completes (.ts3MemoryBistComplete ok) s (fun t =>
        OnlyWrites raiseParts s t ∧ (if ok then (item t 0x0B).state = 0 ∧ (item t 0x0B).result = 1
          else (item t 0x0B).state = 4 ∧ Raised 0x0E14 0x0733 s t)))
    ∧ (∀ el r, calMay s el r.ma = true → calDue s el = true → Completes (.calibration el r) s (fun t =>
        OnlyWrites (writes (.calibration el r)) s t ∧ (elem t el).calBad = !r.ok ∧ (elem t el).calAt = s.time.opNs + 1
        ∧ (if r.ok then (elem t el).calLate = false ∧ CondGone 0x0E18 el t ∧ CondGone 0x0E19 el t
          else Raised 0x0E19 el s t)))
    ∧ (∀ el, fromStartup s = true → srcExists s el = true → calMay s el 0 = false →
      calSince s el + 86400 * 1000000000 ≤ s.time.opNs → Completes (.calibrationOverdue el) s (fun t =>
        OnlyWrites (writes (.calibrationOverdue el)) s t ∧ (elem t el).calLate = true ∧ Raised 0x0E18 el s t))
    ∧ (∀ n, scheduling s = true → itemExists s n = true → itemInterval s n ≤ itemAge s n →
      Completes (.testOverdue n) s (fun t => OnlyWrites (writes (.testOverdue n)) s t
        ∧ Raised 0x0E15 (itemSrc n) s t ∧ (2 * itemInterval s n ≤ itemAge s n → Raised 0x0E16 (itemSrc n) s t)))

/-! ### Ethernet, CAN and Genxon links (R382 to R397) -/

/-- A port that is enabled takes the link state that its PHY shows, and a half-duplex link is held down (R382). A
received frame that fails its check or is too long is dropped and counted, another is counted, its source learned, and
a good KDP datagram for the station waits for the dictionary (R132, R383). ARP fills the cache of 64, entries age
out, at most 10 echo requests a second are answered, redundant frames are numbered, and the supervision of a
redundant port is lost and found (R384, R387, R388). The port sends by strict priority (R386). -/
def Obligations.EthernetPorts : Prop :=
  ∀ s : State,
    (∀ p up v half, portEnabled s p = true →
      Completes (.portLinkChange p up v half) s (fun t => OnlyWrites [.col, .breach, .net, .led] s t
        ∧ (ethPort t p).up = (up && !half) ∧ (ethPort t p).speed = if up then v % 4 else 0)
      ∧ Completes (.phyStatusPoll [⟨p, up, v, half⟩]) s (fun t => OnlyWrites [.col, .breach, .net, .led] s t
        ∧ (ethPort t p).up = (up && !half) ∧ (ethPort t p).speed = if up then v % 4 else 0))
    ∧ (∀ p (fr : EthFrame), portUp s p = true →
      ((fr.crcOk = false ∨ 1522 < fr.length) → Completes (.ethernetFrameReceived p fr) s (fun t => OnlyWrites [.net] s t
        ∧ (ethPort t p).dropped = inc32 (ethPort s p).dropped ∧ (ethPort t p).rx = (ethPort s p).rx))
      ∧ (fr.crcOk = true → fr.length ≤ 1522 → switchMode s (p / 4) = 0 → isGroup fr.src = false →
        (switch s (p / 4)).macs.length < 1024 → Completes (.ethernetFrameReceived p fr) s (fun t =>
          OnlyWrites (writes (.ethernetFrameReceived p fr)) s t ∧ (ethPort t p).rx = inc32 (ethPort s p).rx
          ∧ tfind (switch t (p / 4)).macs fr.src = some p
          ∧ (∀ ip port bs, fr.dst = stationMac s (p / 4) → stationIp s (p / 4) ≠ 0 →
            fr.content = .kdp ip port 38417 false bs → bs.length ≤ 1064 → kdpFrameOk bs = true →
            t.dict.udp = s.dict.udp ++ [⟨{ code := 4, ip := ip, port := port }, bs, s.time.now⟩]))))
    ∧ (∀ w ip mac rq, netOn s = true → stationIp s w ≠ 0 → (switch s w).arp.length < 64 →
      Completes (.arpRequest w rq ip mac (stationIp s w)) s (fun t => OnlyWrites [.col, .breach, .net] s t
        ∧ tfind (switch t w).arp ip = some mac))
    ∧ (∀ w ip, Completes (.arpEntryExpiry w ip) s (fun t => OnlyWrites [.net, .time] s t
      ∧ tfind (switch t w).arp ip = none ∧ ∀ k, k ≠ ip → tfind (switch t w).arp k = tfind (switch s w).arp k))
    ∧ (∀ w m, Completes (.addressEntryAgeing w m) s (fun t => OnlyWrites [.net, .time] s t
      ∧ tfind (switch t w).macs m = none ∧ ∀ k, k ≠ m → tfind (switch t w).macs k = tfind (switch s w).macs k))
    ∧ (∀ w ip, netOn s = true → stationIp s w ≠ 0 → Completes (.icmpEchoRequest w ip) s (fun t =>
      let l := icmpRecent s w
      OnlyWrites [.col, .breach, .net] s t ∧ (switch t w).icmp = (if l.length < 10 then l ++ [s.time.opNs] else l)
      ∧ (10 ≤ l.length → t.net.ports = s.net.ports)))
    ∧ (∀ p fr, portUp s p = true → (ethPort s p).sending = some fr → Completes (.frameTransmitComplete p) s (fun t =>
      OnlyWrites [.net] s t ∧ (ethPort t p).tx = inc32 (ethPort s p).tx
      ∧ (∀ a l, (ethPort s p).q3 = a :: l → (ethPort t p).q3 = l ∧ (ptpOf a = none → (ethPort t p).sending = some a))
      ∧ (∀ a l m, (ethPort s p).q3 = [] → (ethPort s p).q2 = [] → (ethPort s p).q1 = [] → (ethPort s p).q0 = a :: l →
        ptpOf a = some m → a.arrived ≠ 0 → m.kind = .sync →
        (ethPort t p).sending = some a ∧ (ethPort t p).q0 = l
        ∧ (ethPort t p).residences = (m, stamp8 s.time.now - stamp8 (a.arrived - 1)) :: (ethPort s p).residences)
      ∧ ((ethPort s p).q3 = [] → (ethPort s p).q2 = [] → (ethPort s p).q1 = [] → (ethPort s p).q0 = [] →
        (ethPort t p).sending = none)))
    ∧ (∀ w, netOn s = true → switchMode s w ≠ 0 → Completes (.supervisionFrameSend w) s (fun t =>
      OnlyWrites [.col, .breach, .net, .time] s t ∧ (switch t w).redSeq = ((switch s w).redSeq + 1) % 65536))
    ∧ (∀ p, p % 4 < 2 → switchMode s (p / 4) ≠ 0 → portUp s p = true →
      Completes (.supervisionFrameReceived p) s (fun t => OnlyWrites [.col, .breach, .net, .led] s t
        ∧ (ethPort t p).supLost = false)
      ∧ Completes (.supervisionLoss p) s (fun t => OnlyWrites [.col, .breach, .net, .led, .time] s t
        ∧ (ethPort t p).supLost = true ∧ t.time = (afterStamp (ethPort s p).supAt 6000000000 s).time))
    ∧ (∀ w m q, Completes (.duplicateEntryForget w m q) s (fun t => OnlyWrites [.net, .time] s t
      ∧ ∀ e, e ∈ (switch t w).dups ↔ e ∈ (switch s w).dups ∧ (e.1 ≠ m ∨ e.2 % 65536 ≠ q)))

/-- A CAN port that runs counts a frame and moves its receive error count, whose passing 127 makes it error passive;
bus-off and the recovery from it follow the transmit count (R390). An NMT command for its node or for all moves it,
not in HALT, and a reset sends the boot-up message (R391, R392). The heartbeat carries the NMT state (R392). -/
def Obligations.CanPorts : Prop :=
  ∀ (s : State) (n : Nat), canRuns s n = true →
    ((canPort s n).bus ≤ 1 →
      (∀ id ext fd ok data, Completes (.canFrameReceived n id ext fd ok data) s (fun t =>
        let r := if ok = false then (canPort s n).recv + 1
          else if 127 < (canPort s n).recv then 127 else (canPort s n).recv - 1
        OnlyWrites (writes (.canFrameReceived n id ext fd ok data)) s t
        ∧ ((ok = false ∨ fd = true ∨ id ≠ 0x600 + canNode s n) → (canPort t n).recv = r
          ∧ (canPort t n).rx = (if ok then inc32 (canPort s n).rx else (canPort s n).rx)
          ∧ ((ok = false ∨ fd = true ∨ id ≠ 0) →
            (canPort t n).bus = if 128 ≤ (canPort s n).tec ∨ 128 ≤ r then 1 else 0))))
      ∧ Completes (.busOff n) s (fun t => OnlyWrites [.col, .breach, .net, .led] s t ∧ (canPort t n).bus = 2)
      ∧ (∀ d, (d = 0 ∨ d = canNode s n) → s.ctl.st ≠ .halt →
        Completes (.nmtStart n d) s (fun t => OnlyWrites [.net] s t ∧ (canPort t n).nmt = 5)
        ∧ Completes (.nmtStop n d) s (fun t => OnlyWrites [.net] s t ∧ (canPort t n).nmt = 4)
        ∧ Completes (.nmtEnterPreOperational n d) s (fun t => OnlyWrites [.net] s t ∧ (canPort t n).nmt = 0x7F))
      ∧ (∀ d, (d = 0 ∨ d = canNode s n) →
        Completes (.nmtResetCommunication n d) s (fun t => OnlyWrites (writes (.nmtResetCommunication n d)) s t ∧ (canPort t n).nmt = 0x7F
          ∧ (canPort t n).out = (canPort s n).out ++ [{ id := 0x700 + canNode s n, data := [0] }])
        ∧ Completes (.nmtResetNode n d) s (fun t => OnlyWrites (writes (.nmtResetNode n d)) s t ∧ (canPort t n).nmt = 0x7F
          ∧ (canPort t n).out = (canPort s n).out ++ [{ id := 0x700 + canNode s n, data := [0] }]))
      ∧ (∀ d, s.ctl.st = .halt → Completes (.nmtStart n d) s (fun t => t = s))
      ∧ (s.dict.heartbeat ≠ 0 → Completes .heartbeat s (fun t => OnlyWrites (writes .heartbeat) s t
        ∧ (canPort t n).out = (canPort s n).out
          ++ [{ id := 0x700 + canNode s n, data := le 1 (canPort s n).nmt }])))
    ∧ ((canPort s n).bus = 2 → Completes (.busOffRecovery n) s (fun t => OnlyWrites [.col, .breach, .net, .led] s t
      ∧ (canPort t n).bus = 0 ∧ (canPort t n).tec = 0 ∧ (canPort t n).recv = 0
      ∧ (canPort t n).offs = inc32 (canPort s n).offs))

/-- A Genxon link goes from down to syncing with commas, then sends hellos; a hello that matches the expected peer
brings it up and ends the condition of 0x0C10, another brings peer mismatch and raises it, and it goes down without
symbols or hellos (R396). A frame that fails its check is discarded and counted, and so is an interrupted one (R395,
R397). -/
def Obligations.GenxonLinks : Prop :=
  ∀ (s : State) (l : Nat), linkOn s l = true →
    ((link s l).state = 0 → Completes (.commaAlignment l) s (fun t => OnlyWrites [.col, .breach, .net, .led] s t
      ∧ (link t l).state = 1))
    ∧ ((link s l).state = 1 → Completes (.linkSynced l) s (fun t => OnlyWrites [.net] s t
      ∧ (link t l).synced = true ∧ (link t l).state = 1))
    ∧ ((link s l).state ≠ 0 → Completes (.linkSymbolLoss l) s (fun t => OnlyWrites (writes (.linkSymbolLoss l)) s t
      ∧ (link t l).state = 0 ∧ (link t l).synced = false))
    ∧ ((link s l).state = 2 → Completes (.helloTimeout l) s (fun t => OnlyWrites [.col, .breach, .net, .led, .time] s t
      ∧ (link t l).state = 0 ∧ t.time = (afterStamp (link s l).heardAt 5000000 s).time))
    ∧ ((link s l).state ≠ 0 → Completes (.frameInterrupted l) s (fun t => OnlyWrites [.net, .draws] s t
      ∧ (link t l).interrupted = inc32 (link s l).interrupted))
    ∧ ((link s l).synced = true →
      Completes (.helloSend l) s (fun t => OnlyWrites [.net, .time] s t ∧ (link t l).out = (link s l).out
        ++ [linkFrame 2 (be 4 (domainId s) ++ be 2 (deviceNum s) ++ be 1 l ++ be 8 (serialNo s))])
      ∧ (∀ h, Completes (.helloReceived l h) s (fun t => OnlyWrites (writes (.helloReceived l h)) s t
        ∧ (link t l).serial = h.serial ∧ (if helloMatches (confOf s) l h then (link t l).state = 2
            ∧ CondGone 0x0C10 (0x0720 + l) t else (link t l).state = 3 ∧ Raised 0x0C10 (0x0720 + l) s t)))
      ∧ (∀ bs, linkFrameOk bs = false → Completes (.linkFrameReceived l bs) s (fun t => OnlyWrites [.net] s t
        ∧ (link t l).discarded = inc32 (link s l).discarded ∧ (link t l).state = (link s l).state))
      ∧ (∀ bs, linkFrameOk bs = true → unle (bs.take 1) = 2 → Completes (.linkFrameReceived l bs) s (fun t =>
        (link t l).rx = inc32 (link s l).rx
        ∧ (link t l).state = if helloMatches (confOf s) l (helloOf bs) then 2 else 3)))

/-! ### Genxon Safe (R399 to R418) -/

/-- The frames of a link with a telegram ahead of the hellos whose sending has not begun (R395). -/
def aheadOn (s : State) (l : Nat) (fr : List Byte) : List (List Byte) :=
  queueFrame linkTelegram (begunAt s.time.now (link s l).outAt (link s l).begun (link s l).out.length) fr (link s l).out

/-- Table NW-4, while the engine runs: a telegram of a bad shape is counted, one with a bad CRC counts on the connection
that it names too, a repeat is discarded and counted, and one that passes every check is taken: its payload stands in
the slot, the watchdog starts, and the third in a row makes the connection valid and ends 0x0C01 (R407, R410). An
expired watchdog, at the first step of PLL A's 100 µs timer after the time expectation, makes a connection that does not
wait not valid, with 0x0C01 or 0x0C22 (R409, R416; the phase of the timer is the model's choice, log entry 91). The pairing
connection sends its exchange and its check on both links, and a disagreement of its inputs raises 0x0C20 (R414 to
R417). -/
def Obligations.SafeConnections : Prop :=
  ∀ s : State, evaluating s = true →
    (configured s = true → ∀ r bs T,
      let x := parseTel bs
      (telShape s r bs x = false → Completes (.telegramReceived r bs T) s (fun t => OnlyWrites [.net, .time] s t
        ∧ t.net = { s.net with formatCrc := inc32 s.net.formatCrc }))
      ∧ (∀ k, telShape s r bs x = true → recvConn s x.ident = some k → (connRoutes (confOf s) k).contains r = true →
        (x.crc ≠ safeCrc (domainId s) x.covered → Completes (.telegramReceived r bs T) s (fun t =>
          OnlyWrites (writes (.telegramReceived r bs T)) s t ∧ t.net.formatCrc = inc32 s.net.formatCrc
          ∧ (conn t k).crc = inc32 (conn s k).crc ∧ (conn t k).payload = (conn s k).payload))
        ∧ (x.crc = safeCrc (domainId s) x.covered → (connMac (confOf s) k = false
            ∨ (retired s = false ∧ x.mac = (cmac (connKey s k) x.body).take 8)) →
          let d := mod32 (x.seq + 2 ^ 32 - (conn s k).seq)
          ((conn s k).fixed = true → (d = 0 ∨ 2 ^ 31 ≤ d) → Completes (.telegramReceived r bs T) s (fun t =>
            OnlyWrites [.net, .time] s t
            ∧ conn t k = { conn s k with repeats := inc32 (conn s k).repeats, route := (conn t k).route }))
          ∧ (connDir (confOf s) k ≠ 3 → ((conn s k).fixed = true → d ≠ 0 ∧ d < 2 ^ 31
              ∧ d ≤ connCfg (confOf s) k 0xB 8) → bit (connCfg (confOf s) k 7 0) 1 = false →
            Completes (.telegramReceived r bs T) s (fun t => OnlyWrites (writes (.telegramReceived r bs T)) s t
              ∧ (conn t k).seq = x.seq ∧ (conn t k).last = x.seq ∧ (conn t k).payload = x.payload ∧ (conn t k).dog = true
              ∧ (conn t k).fixed = true ∧ (conn t k).lastAt = max s.time.now T
              ∧ (conn t k).telegrams = inc32 (conn s k).telegrams
              ∧ ((conn s k).fixed = true → 2 ≤ (conn s k).run → x.seq = mod32 ((conn s k).last + 1) →
                max s.time.now T ≤ (conn s k).lastAt + watchdogTime s k →
                ((conn s k).dog = false ∨ tick10 (max s.time.now T) ≠ tick10 (expiryStep s k)) →
                (conn t k).state = 2 ∧ CondGone 0x0C01 (0x1000 + k) t))))))
    ∧ (∀ k, receives s k = true → (conn s k).dog = true → (conn s k).expiry = 0 → Completes (.watchdogExpiry k) s (fun t =>
        OnlyWrites (writes (.watchdogExpiry k)) s t ∧ (conn t k).dog = false
        ∧ t.time.now = max s.time.now (((conn s k).lastAt + watchdogTime s k + 99999) / 100000 * 100000)
        ∧ (if (conn s k).state = 1 then (conn t k).state = 1 ∧ t.col = s.col
          else (conn t k).state = 3
            ∧ Raised (if connDir (confOf s) k = 3 then 0x0C22 else 0x0C01) (0x1000 + k) s t)))
    ∧ (∀ k, pairingConn s = some k → retired s = false →
      let q := mod32 (s.net.pairing.seq + 1)
      let ident := connIdent (confOf s) s.fuses.caps k
      let u := advance (exchangeStep s) s
      let v := afterStamp s.net.pairing.checkAt 1000000000 s
      Completes .pairingExchangeSend s (fun t => OnlyWrites (writes .pairingExchangeSend) s t ∧ t.net.pairing.seq = q
        ∧ ∀ l m, connRoutes (confOf s) k = [4 + l, 4 + m] → l ≠ m → (link s l).state = 2 → (link s m).state = 2 →
          let fr := linkFrame 1 (telSeal s k (telBody 2 1 ident q (stampOf u) (exchangePayload s)))
          (link t l).out = aheadOn u l fr ∧ (link t m).out = aheadOn u m fr)
      ∧ Completes .pairingCheckSend s (fun t => OnlyWrites (writes .pairingCheckSend) s t ∧ t.net.pairing.seq = q
        ∧ ∀ l m, connRoutes (confOf s) k = [4 + l, 4 + m] → l ≠ m → (link s l).state = 2 → (link s m).state = 2 →
          let fr := linkFrame 1 (telSeal s k (telBody 3 1 ident q (stampOf v) (checkPayload s)))
          (link t l).out = aheadOn v l fr ∧ (link t m).out = aheadOn v m fr))
    ∧ (∀ k i, pairingConn s = some k → s.net.pairing.differing.contains i = true →
      Completes (.pairedInputDisagreement i) s (fun t => OnlyWrites (writes (.pairedInputDisagreement i)) s t
        ∧ (if (conn s k).state = 1 then t.net = s.net ∧ t.col = s.col
          else t.net.pairing.detected = true ∧ t.net.pairing.lastInput = i ∧ Raised 0x0C20 (0x1000 + k) s t)))

/-! ### Serial ports and performance monitors (R420 to R424, R477 to R482) -/

/-- An SPI transfer that ends leaves its bytes for the slot of the next boundary (R420). A UART streams the page that
is due, or a gap frame where it has left the ring, sends status frames, and obeys XOFF and XON (R422); a write sets
where its stream starts (R424). A sensor's read gives its temperature and the warning 0x0B0A, its third failure 0x0B0B
(R423). -/
def Obligations.SerialPorts : Prop :=
  ∀ s : State,
    (∀ j bs, evaluating s = true → spiUsed s j = true → (spi s j).busy = true →
      Completes (.spiTransferComplete j bs) s (fun t => OnlyWrites [.net, .time] s t ∧ (spi t j).busy = false
        ∧ (spi t j).done = inc32 (spi s j).done
        ∧ (spi t j).received = some (padTo (cnum (confOf s) (0x2B30 + j) 4 1) bs)))
    ∧ (∀ u p, uartMode s u = 1 → (uart s u).held = false → s.led.state = 1 →
      let n := uartNext s u
      s.led.ring.find? (fun q => decide (n ≤ q.seq)) = some p →
      (n < p.seq → Completes (.uartLedgerPage u) s (fun t => OnlyWrites [.net] s t
        ∧ (uart t u).line = uartFrame 2 (le 8 n ++ le 8 (p.seq - 1)) ∧ (uart t u).next = p.seq
        ∧ (uart t u).gaps = inc32 (uart s u).gaps ∧ (uart t u).frames = inc32 (uart s u).frames))
      ∧ (p.seq = n →
        let bits := pageBits s.led.part.pageSize (Config.freeBits s.draws) p
        Completes (.uartLedgerPage u) s (fun t => OnlyWrites (writes (.uartLedgerPage u)) s t
          ∧ (uart t u).line = uartFrame 1 (le 8 n ++ if bits.isNone then [] else pageBytes s.led.part.pageSize p)
          ∧ (uart t u).next = n + 1
          ∧ (uart t u).gaps = (uart s u).gaps ∧ (uart t u).frames = inc32 (uart s u).frames)))
    ∧ (∀ u, uartMode s u = 2 → Completes (.uartStatusFrame u) s (fun t => OnlyWrites [.net, .time] s t
      ∧ (uart t u).line = uartFrame 3 (statusPayload
        (afterStamp (uart s u).statusAt (cnum (confOf s) (0x2B38 + u) 3 1000 * 1000000) s)) ∧ (uart t u).frames = inc32 (uart s u).frames))
    ∧ (∀ u, uartMode s u = 1 →
      Completes (.uartXoff u) s (fun t => OnlyWrites [.net] s t ∧ uart t u = { uart s u with held := true })
      ∧ Completes (.uartXon u) s (fun t => OnlyWrites [.net] s t ∧ uart t u = { uart s u with held := false }))
    ∧ (∀ r u page, Served r s → sessionState s = true → u < 4 → page < 2 ^ 64 →
      Completes (.streamStartWrite r u page) s (fun t => Answered r 0 t ∧ (uart t u).start = page
        ∧ (uart t u).next = streamPage s page))
    ∧ (∀ n, sessionState s = true → sensorUsed s n = true →
      (∀ raw, Completes (.temperatureSensorPoll [(n, some raw)]) s (fun t =>
        OnlyWrites (writes (.temperatureSensorPoll [(n, some raw)])) s t ∧ (sensor t n).value = deciOf (sensorRaw raw)
        ∧ (sensor t n).bad = 0
        ∧ (above (sensorLimit s n) (sensorRaw raw) = true → (sensor s n).high = 1 →
          (sensor t n).high = 2 ∧ Raised 0x0B0A 0x07FF s t)))
      ∧ Completes (.temperatureSensorPoll [(n, none)]) s (fun t => t.net.i2cFails = inc32 s.net.i2cFails
        ∧ (sensor t n).value = (sensor s n).value
        ∧ ((sensor s n).bad = 2 → (sensor t n).bad = 3 ∧ Raised 0x0B0B 0x07FF s t)))

/-- Writes to the monitors of a core whose domain runs: a selector, a counter, whose flag is set where an increment of
the same cycle would have wrapped it, the overflow flags, which keep the overflows of the same cycle, the sampling
interval, the clearing of the samples, and the reset of the execution statistics (R477 to R480, R482). -/
def Obligations.PerformanceMonitors : Prop :=
  ∀ (s : State) (r : Requester), Served r s → sessionState s = true →
    (∀ k, k < 4 →
      let u := settleIdle s
      (∀ c e, c < 4 → e < 16 → Completes (.eventSelectWrite r k c e) s (fun t => Answered r 0 t
        ∧ (Machine.core t k).perf = { (Machine.core u k).perf with select := tset 0 (Machine.core u k).perf.select c e }
        ∧ ∀ j, j ≠ k → Machine.core t j = Machine.core u j))
      ∧ (∀ c v w, c < 9 → v < 2 ^ 32 → Completes (.counterWrite r k (6 + c) v w) s (fun t => Answered r 0 t
        ∧ (if c < 4 then tget 0 (Machine.core t k).perf.events c = v ∧ (Machine.core t k).perf.slots = (Machine.core u k).perf.slots
          else tget 0 (Machine.core t k).perf.slots (c - 4) = v ∧ (Machine.core t k).perf.events = (Machine.core u k).perf.events)
        ∧ (Machine.core t k).perf.flags = (if w then setBit (Machine.core u k).perf.flags c true else (Machine.core u k).perf.flags)))
      ∧ (∀ o, Completes (.overflowFlagsWrite r k 0 o) s (fun t => Answered r 0 t
        ∧ (Machine.core t k).perf = { (Machine.core u k).perf with flags := o % 512 }))
      ∧ (∀ v o, 0 < v → v < 65536 → Completes (.overflowFlagsWrite r k v o) s (fun t => Answered r 0x06090030 t
        ∧ t.proc = s.proc))
      ∧ (∀ n, n < 2 ^ 32 → Completes (.samplingIntervalWrite r k n) s (fun t =>
        if 1048576 < n then Answered r 0x06090031 t ∧ t.proc = s.proc
        else if n < 64 then Answered r 0x06090032 t ∧ t.proc = s.proc
        else Answered r 0 t ∧ (Machine.core t k).perf.interval = n
          ∧ ((Machine.core s k).perf.jitter = false → (Machine.core t k).perf.toNext = n)))
      ∧ Completes (.clearSamples r k) s (fun t => Answered r 0 t ∧ (Machine.core t k).perf.samples = []
        ∧ (Machine.core t k).perf.events = (Machine.core u k).perf.events))
    ∧ Completes (.resetStatistics r) s (fun t => Answered r 0 t ∧ t.proc.statsReset = s.time.dev
      ∧ ∀ p, p < 3 → (part t p).measured = 0 ∧ (part t p).longest = 0 ∧ (part t p).shortest = 0
        ∧ (part t p).recent = [] ∧ (part t p).longestCycle = 0)

/-! ### The Ledger (R430 to R458) -/

/-- The buffer and the NAND part of a mounted Ledger. A record with room goes behind the others of the open page with
its time, and the page that it fills is sealed; a rank 5 record that finds no free page is dropped and counted (R443,
R446). The open page is
sealed and queued after 60 s, or in hold-up mode 1,000 µs after a rank 3 record (R444). A page that passes leaves the
buffer for the ring, one that fails has its block retired with 0x0D04 and stays in front, and a flush ends with the
program of the parameter delta page, or at a failure (R435, R443, R447); with no page queued a page of a pin that is
being copied is programmed (R455). A second timeout of a chip enable stops the Ledger with 0x0D0E
(R433). A format ends mounted and empty, with 0x0D0D for its missing parameter sets (R438). The parameter backup takes
the learned values and what else waits for it, a write deferred beyond 60 s being a breach of rank 5, and the operating
time (R271, R328, R451, R463); a scrub pass shows what it
found (R454), static content of a little worn block changes places with the most worn block of the ring (R436), and the
copy of a pin's pages begins, each in its turn (R445, R455). -/
def Obligations.LedgerPages : Prop :=
  ∀ s : State,
    (∀ r, s.led.state = 1 →
      (s.led.openRecs ≠ [] → s.led.openRecs.length + 1 < pageRoom s s.led.nextPage →
        Completes (.ledgerRecord r) s (fun t => OnlyWrites [.col, .breach, .led] s t ∧ t.led.queued = s.led.queued
          ∧ t.led.openRecs = s.led.openRecs ++ [{ r with time := s.time.dev }]))
      ∧ (s.led.openRecs ≠ [] → s.led.openRecs.length + 1 = pageRoom s s.led.nextPage →
        Completes (.ledgerRecord r) s (fun t => OnlyWrites [.col, .breach, .led] s t ∧ t.led.openRecs = []
          ∧ ∃ p, t.led.queued = s.led.queued ++ [p] ∧ p.recs = s.led.openRecs ++ [{ r with time := s.time.dev }]))
      ∧ (s.led.openRecs = [] → s.led.fill ≤ s.led.queued.length + 1 → r.rank = 5 →
        Completes (.ledgerRecord r) s (fun t => OnlyWrites [.col, .breach, .led] s t
          ∧ t.led.openRecs = [] ∧ t.led.queued = s.led.queued ∧ t.led.dropped = inc32 s.led.dropped
          ∧ tget 0 t.breach.counts 5 = inc32 (tget 0 s.breach.counts 5))))
    ∧ (s.led.state = 1 → s.led.openRecs ≠ [] → s.led.openSince + 60000000000 ≤ s.time.now →
      Completes .pageAgeSeal s (fun t => OnlyWrites [.led] s t ∧ t.led.openRecs = []
        ∧ ∃ p, t.led.queued = s.led.queued ++ [p] ∧ p.recs = s.led.openRecs ∧ p.seq = s.led.nextPage))
    ∧ (∀ r, s.led.state = 1 → s.led.holdup = true → r ∈ s.led.openRecs → r.rank = 3 →
      s.led.rank3Since + 1000000 ≤ s.time.now →
      Completes .holdupPageSeal s (fun t => OnlyWrites [.led] s t ∧ t.led.openRecs = []
        ∧ ∃ p, t.led.queued = s.led.queued ++ [p] ∧ p.recs = s.led.openRecs ∧ p.seq = s.led.nextPage))
    ∧ (∀ p ps e, s.led.queued = p :: ps →
      (e.what = .passed → (s.led.state = 1 ∨ s.led.state = 2) → Completes (.pageProgramComplete e) s (fun t =>
        OnlyWrites raiseParts s t ∧ (pinCopies s = false → OnlyWrites [.led] s t ∧ t.led.queued = ps)
        ∧ ∃ q, t.led.ring.getLast? = some q ∧ q.seq = p.seq ∧ t.led.stored = s.led.stored + q.recs.length))
      ∧ (e.what ≠ .passed → s.led.state = 1 → fromStartup s = true → Completes (.pageProgramComplete e) s (fun t =>
        OnlyWrites raiseParts s t ∧ t.led.tables.grown.length = s.led.tables.grown.length + 1
        ∧ (∃ q qs, t.led.queued = q :: qs ∧ q.seq = p.seq) ∧ Raised 0x0D04 0x0770 s t))
      ∧ (e.what ≠ .passed → s.led.state = 2 → Completes (.pageProgramComplete e) s (fun t =>
        OnlyWrites [.col, .breach, .led] s t ∧ t.led.state = 3 ∧ t.led.queued = [] ∧ t.led.ring = s.led.ring)))
    ∧ (∀ e, s.led.queued = [] →
      (e.what = .passed → s.led.state = 2 → Completes (.pageProgramComplete e) s (fun t => OnlyWrites [.breach, .led] s t
        ∧ t.led.state = 3 ∧ t.led.dirty = false
        ∧ ∃ d, t.led.delta = some d ∧ d.base = s.led.backup ∧ d.now = backupOf s))
      ∧ (∀ n q, e.what = .passed → s.led.state = 1 → pinMay s = true → pinRoom s ≠ 0 →
        (upto 16).find? (fun n => decide ((tget {} s.led.pins n).state = 2)
          && (nextCopy s (tget {} s.led.pins n)).isSome) = some n → nextCopy s (tget {} s.led.pins n) = some q →
        Completes (.pageProgramComplete e) s (fun t => OnlyWrites raiseParts s t
          ∧ ∃ x, (tget {} t.led.pins n).pages = (tget {} s.led.pins n).pages ++ [x] ∧ x.seq = q.seq ∧ x.recs = q.recs))
      ∧ (e.what ≠ .passed → s.led.state = 1 → fromStartup s = true → e.block < ringBase s →
        (e.block < spareBase s ∨ pinBase s ≤ e.block) → Completes (.pageProgramComplete e) s (fun t => OnlyWrites raiseParts s t
          ∧ t.led.tables.grown.length = s.led.tables.grown.length + 1 ∧ Raised 0x0D04 0x0770 s t)))
    ∧ ((s.led.state = 1 ∨ s.led.state = 2 ∨ s.led.state = 4) →
      (s.led.retried ≠ some (nandChip s) → Completes .nandBusyTimeout s (fun t => OnlyWrites [.led] s t
        ∧ t.led = { s.led with retried := some (nandChip s), cmds := .reset :: (nandOp s).toList }))
      ∧ (s.led.retried = some (nandChip s) → fromStartup s = true → Completes .nandBusyTimeout s (fun t =>
        OnlyWrites (writes .nandBusyTimeout) s t ∧ t.led.state = 3 ∧ t.led.queued = []
        ∧ Reported 0x0D0E 0x0770 t)))
    ∧ (∀ r marks, s.led.state = 4 → fromStartup s = true →
      let why := mountFailure { ce0 := r.ce0, ce1 := r.ce1 } (modLed (fun l => { l with control := [] }) s)
      Completes (.formatComplete r marks) s (fun t => OnlyWrites (writes (.formatComplete r marks)) s t
        ∧ (if why = 0 then t.led.state = 1 ∧ t.led.result = 0 ∧ t.led.ring = [] ∧ t.led.slotA = {}
            ∧ t.led.slotB = {} ∧ t.led.pins = []
            ∧ (unclearedCount s + s.col.pending.length + s.col.records.length + 8 ≤ 1024 → InEffect 0x0D0D 0x0770 t)
          else t.led.state = 0 ∧ t.led.result = why)))
    ∧ (s.led.state = 1 →
      (paramMay s = true → s.led.dirty = true →
        Completes .parameterSetWrite s (fun t => OnlyWrites [.breach, .led] s t ∧ t.led.older = s.led.backup
          ∧ t.led.backup = { backupOf s with generation := nextGeneration s } ∧ t.led.delta = none
          ∧ t.led.dirty = false)
        ∧ Completes .learnedValuePersist s (fun t => OnlyWrites [.breach, .led] s t ∧ t.led.older = s.led.backup
          ∧ t.led.backup = { backupOf s with generation := nextGeneration s } ∧ t.led.delta = none
          ∧ t.led.dirty = false))
      ∧ (paramMay s = true → Completes .operatingTimePersist s (fun t => OnlyWrites [.breach, .led] s t
        ∧ t.led.older = s.led.backup ∧ t.led.backup = { backupOf s with generation := nextGeneration s }
        ∧ t.led.backup.opNs = s.time.opNs))
      ∧ (∀ l n bad, moveMay s = true → fromStartup s = true →
        let worst := ((l.zip n).map (·.2)).foldl max 0
        Completes (.scrubPass l n bad) s (fun t => OnlyWrites (writes (.scrubPass l n bad)) s t
          ∧ t.led.scrubTime = t.time.dev ∧ t.led.worst = min 8 worst ∧ t.led.tables.scrubFrom = t.time.opNs
          ∧ t.led.tables.scrubDays = (if 4 ≤ worst then 1 else 7)
          ∧ t.led.uncorrectable = inc32 s.led.uncorrectable bad ∧ (4 ≤ worst → Raised 0x0D06 0x0770 s t)
          ∧ (bad ≠ 0 → Raised 0x0D05 0x0770 s t)))
      ∧ (∀ b w, moveMay s = true → mostWorn s = some w → staticBlock s b = true →
        tget 0 s.led.tables.erases b + 100 ≤ ringMean s →
        Completes (.wearLevellingMove b) s (fun t => OnlyWrites [.col, .breach, .led] s t
          ∧ tget 0 t.led.tables.erases b = tget 0 s.led.tables.erases w
          ∧ tget 0 t.led.tables.erases w = tget 0 s.led.tables.erases b + 1
          ∧ tget 0 t.led.tables.map b = physOf s w + 1 ∧ tget 0 t.led.tables.map w = physOf s b + 1))
      ∧ (∀ n, let p := tget {} s.led.pins n
        pinMay s = true → p.state = 1 → (p.auto = true ∨ p.stop < s.time.dev) →
        Completes (.pinCopyStart n) s (fun t =>
          let q := tget {} t.led.pins n
          OnlyWrites [.col, .breach, .led] s t ∧ q.start = p.start ∧ q.stop = p.stop ∧ q.pages = p.pages
          ∧ ((nextCopy s p).isSome = true → pinRoom s ≠ 0 → q.state = 2)
          ∧ ((nextCopy s p).isSome = true → pinRoom s = 0 → q.state = 4)
          ∧ ((nextCopy s p).isNone = true → windowDone s p = true → q.state = if p.cut then 4 else 3))))

/-- The accesses to the Ledger. A format begins in MAINTENANCE for the session holder while the Ledger is not mounted
(R438; that a flushing, stopped or formatting one refuses it is the model's reading, log entry 53). A pin request is accepted over a
permitted transport while it is mounted: it takes a free pin, or its result says why not; a release frees one (R455,
R456). A page is read from the ring or a pin, by its worst sector (R457). -/
def Obligations.LedgerAccesses : Prop :=
  ∀ (s : State) (r : Requester), Served r s →
    (s.ctl.st = .maintenance → holdsSession s r = true →
      Completes (.format r) s (fun t => if s.led.state = 0 then Answered r 0 t ∧ t.led.state = 4
        else Answered r 0x08000022 t ∧ t.led = s.led)
      ∧ (∀ n, n < 16 → Completes (.releasePin r n) s (fun t =>
        if (tget {} s.led.pins n).state = 0 then Answered r 0x06090030 t ∧ t.led = s.led
        else Answered r 0 t ∧ tget {} t.led.pins n = {} ∧ ∀ m, m ≠ n → tget {} t.led.pins m = tget {} s.led.pins m)))
    ∧ (sessionState s = true → transportOk s r = true →
      (s.led.state ≠ 1 → Completes (.pinRequest r) s (fun t => Answered r 0x08000022 t ∧ t.led = s.led))
      ∧ (s.led.state = 1 →
        let a := s.led.pinTime - s.led.pinBefore * 1000000000
        let b := s.led.pinTime + s.led.pinAfter * 1000000000
        let free := (upto 16).find? (fun n => decide ((tget {} s.led.pins n).state = 0))
        (free = none → Completes (.pinRequest r) s (fun t => Answered r 0 t ∧ t.led.pinResult = 3
          ∧ t.led.pins = s.led.pins))
        ∧ (∀ n, free = some n → pinRoom s = 0 → Completes (.pinRequest r) s (fun t => Answered r 0 t
          ∧ t.led.pinResult = 2 ∧ t.led.pins = s.led.pins))
        ∧ (∀ n, free = some n → pinRoom s ≠ 0 → (∀ o, ringOldest s = some o → o ≤ b) →
          Completes (.pinRequest r) s (fun t => Answered r 0 t ∧ t.led.pinResult = 1 ∧ t.led.lastPin = n
            ∧ tget {} t.led.pins n = { ({} : Pin) with
              state := 1, start := a, stop := b, time := s.time.dev, auto := false
              cut := (ringOldest s).any (fun o => decide (a < o)) }))
        ∧ (∀ n o, free = some n → pinRoom s ≠ 0 → ringOldest s = some o → b < o →
          Completes (.pinRequest r) s (fun t => Answered r 0 t ∧ t.led.pinResult = 4 ∧ t.led.pins = s.led.pins))))
    ∧ (sessionState s = true → bit s.power.domainsFailed 6 = false → ∀ w,
      let bits := fun (p : Page) (n : Nat) => pageBits s.led.part.pageSize n p
      (∀ p, s.led.state = 1 → s.led.ring.find? (fun q => decide (q.seq = s.led.readPage)) = some p →
        Completes (.ledgerPageRead r w) s (fun t => Answered r 0 t ∧ t.led.pageStatus = pageCode (bits p w)
          ∧ (tget {} t.dict.replies r.code).data
            = if (bits p w).isNone then [] else pageBytes s.led.part.pageSize p))
      ∧ (s.led.ring.find? (fun q => decide (q.seq = s.led.readPage)) = none → s.led.queued = [] → s.led.openRecs = [] →
        Completes (.ledgerPageRead r w) s (fun t => Answered r 0 t ∧ t.led.pageStatus = 2
          ∧ (tget {} t.dict.replies r.code).data = []))
      ∧ (∀ p, s.led.state = 1 → (tget {} s.led.pins s.led.readPin).pages[s.led.pinIndex]? = some p →
        Completes (.pinnedPageRead r w) s (fun t => Answered r 0 t ∧ t.led.pinStatus = pageCode (bits p w)
          ∧ (tget {} t.dict.replies r.code).data
            = if (bits p w).isNone then [] else pageBytes s.led.part.pageSize p))
      ∧ ((tget {} s.led.pins s.led.readPin).pages[s.led.pinIndex]? = none →
        Completes (.pinnedPageRead r w) s (fun t => Answered r 0 t ∧ t.led.pinStatus = 2
          ∧ (tget {} t.dict.replies r.code).data = [])))

/-! ### Clocks and time (R389, R460 to R471) -/

/-- The supervision of clocks and power domains from STARTUP_TEST on: a domain outside its limit of Table CK-1 raises
its fault, one found within it no longer holds it (log entry 36); a die three alignment frames in a row more than 5 µs
off raises 0x0A04, one beyond 3 % 0x0A03 (R468, R469); a power domain that fails is switched off with 0x0B31, and
stops the Ledger where it is its own (R470). The time source in use may be lost, which from LOCKED leads to HOLDOVER
with 0x0A08, and HOLDOVER ends in FREE_RUN with 0x0A09 (R464). -/
def Obligations.ClocksAndDomains : Prop :=
  ∀ s : State, fromStartup s = true →
    (∀ n f dev lim, clockLimit n = some lim → (n ≠ 7 ∨ populated s f = true) →
      (n ≠ 8 ∨ f = 7 ∨ populated s f = true) →
      (s.ctl.st ≠ .startupTest → Completes (.clockMonitorFault n f dev) s (fun t =>
        OnlyWrites (writes (.clockMonitorFault n f dev)) s t
        ∧ (if (lim : Int) < dev ∨ dev < -(lim : Int) then bit t.power.clockStatus n = true
            ∧ Raised (clockFault n f).1 (clockFault n f).2 s t
          else (n ≠ 7 → n ≠ 8 → bit t.power.clockStatus n = false)
            ∧ (sharedBad n t = false → CondGone (clockFault n f).1 (clockFault n f).2 t))))
      ∧ (s.ctl.st = .startupTest → (lim : Int) < dev → n ≠ 7 → (n ≠ 8 ∨ f = 7) →
        Completes (.clockMonitorFault n f dev) s (fun t => OnlyWrites [.ctl, .power] s t ∧ t.ctl.boot = 0xB
          ∧ t.ctl.hold = true)))
    ∧ (∀ f off ratio step, populated s f = true → Completes (.alignmentFrame f off ratio step) s (fun t =>
        OnlyWrites (writes (.alignmentFrame f off ratio step)) s t ∧ (tget {} t.power.align f).offset = off
        ∧ (tget {} t.power.align f).ratio = clamp (-300) 300 ratio
        ∧ (tget {} t.power.align f).rest = (if step then 0 else off - clamp (-1000) 1000 off)
        ∧ (tget {} t.power.align f).off
          = (if 5000 < off.natAbs ∧ step = false then (tget {} s.power.align f).off + 1 else 0)
        ∧ (5000 < off.natAbs → step = false → 2 ≤ (tget {} s.power.align f).off →
          Raised 0x0A04 (elemAt f 0xFF) s t)
        ∧ (off.natAbs ≤ 5000 → CondGone 0x0A04 (elemAt f 0xFF) t)
        ∧ (if 300 < ratio.natAbs then Raised 0x0A03 (elemAt f 0xFF) s t else CondGone 0x0A03 (elemAt f 0xFF) t)))
    ∧ (∀ n, domainExists s n = true → Completes (.powerGoodTimeout n) s (fun t =>
        OnlyWrites (writes (.powerGoodTimeout n)) s t ∧ bit t.power.domainsFailed n = true
        ∧ Raised 0x0B31 (domainSrc n) s t ∧ (n = 6 → t.led.state = 3)))
    ∧ (s.time.source ≠ 0 → Completes .timeSourceLost s (fun t => OnlyWrites (writes .timeSourceLost) s t
      ∧ t.time.source ≠ s.time.source ∧ tget [] t.time.updates s.time.source = []
      ∧ (t.time.source ≠ 0 → Raised 0x0A08 0x0750 s t)
      ∧ ((∀ k, k ≠ s.time.source → usable s k = false) → t.time.source = 0
        ∧ (s.time.spring = 2 → t.time.spring = 3 ∧ Raised 0x0A08 0x0750 s t))))
    ∧ (s.time.spring = 3 → Completes .holdoverLimit s (fun t => OnlyWrites (writes .holdoverLimit) s t
      ∧ t.time.spring = 0 ∧ CondGone 0x0A08 0x0750 t ∧ Raised 0x0A09 0x0750 s t))

/-- Device time: a write sets it in FREE_RUN over a permitted transport, counted and recorded as 0x0A0A (R465); the next
second is a whole one (R467). An edge of an enabled PPS input is kept to the 10 ns tick, less its delay, and PPSO rises
where it is enabled and, gated, while the time is synchronised (R467). A PTP slave takes its offset from Sync and
Follow_Up and the path delay from its request's answer, or in HSR from the peer exchange (R389; the role is the model's
free choice, log entry 39). -/
def Obligations.DeviceTime : Prop :=
  ∀ s : State,
    (∀ r ns, Served r s → sessionState s = true → ns < 2 ^ 64 →
      (transportOk s r = true → Completes (.setDeviceTime r ns) s (fun t =>
        if s.time.spring = 0 then Answered r 0 t ∧ t.time.dev = ns ∧ t.time.now = s.time.now ∧ t.time.steps = inc32 s.time.steps
          ∧ Raised 0x0A0A 0x0750 s t
        else Answered r 0x08000022 t ∧ t.time = s.time))
      ∧ Completes (.nextSecond r ns) s (fun t => if ns % 1000000000 = 0 then Answered r 0 t ∧ t.time.second = some ns
        else Answered r 0x06090030 t ∧ t.time = s.time))
    ∧ (∀ p, ppsOn s p = true →
      (∀ T d, 1000 ≤ d → (tget 0 s.time.rawEdges p = 0 ∨ tget 0 s.time.rawEdges p + 500000000 ≤ tick10 T) →
        Completes (.ppsEdge p ⟨T, d⟩) s (fun t => OnlyWrites (writes (.ppsEdge p ⟨T, d⟩)) s t
          ∧ tget 0 t.time.rawEdges p = tick10 T
          ∧ tget 0 t.time.edges p = tick10 (devAt (advance T s) T) - cnum (confOf s) 0x2302 (2 + p) 0
          ∧ bit t.time.ppsLost p = false))
      ∧ (∀ T d, d < 1000 → Completes (.ppsEdge p ⟨T, d⟩) s (fun t => t = advance T s))
      ∧ Completes (.ppsLost p) s (fun t => OnlyWrites (writes (.ppsLost p)) s t ∧ bit t.time.ppsLost p = true
        ∧ bit t.time.ppsUsable p = false ∧ tget [] t.time.updates (3 + p) = []))
    ∧ Completes .ppsoSecond s (fun t => OnlyWrites [.time] s t ∧ (t.time.ppso = true ↔ fromStartup s = true
      ∧ configured s = true ∧ bit (cnum (confOf s) 0x2302 1 0) 2 = true
      ∧ (bit (cnum (confOf s) 0x2302 1 0) 3 = true → s.time.spring = 2 ∨ s.time.spring = 3)))
    ∧ (∀ p (h : PtpHeader) T, netOn s = true → stationIp s (p / 4) ≠ 0 →
      let w := p / 4
      let u := advance T s
      ((switch s w).role = 2 → h.domain = ptpDomain s → Completes (.ptpSync p .received h T) s (fun t =>
        OnlyWrites [.net, .time] s t ∧ (switch t w).syncSeq = h.seq ∧ (switch t w).syncTime = (stampIn u p T).toNat))
      ∧ (h.domain ≠ ptpDomain s → (switch s w).role ≠ 0 → Completes (.ptpSync p .received h T) s (fun t => t = u))
      ∧ ((switch s w).role = 1 → Completes (.ptpSync p .sent h T) s (fun t =>
        OnlyWrites (writes (.ptpSync p .sent h T)) s t
        ∧ (switch t w).syncSeq = h.seq ∧ (switch t w).syncTime = (stampOut u p T).toNat))
      ∧ (switchMode s w ≠ 2 → (switch s w).role = 2 → Completes (.ptpDelayReq p .sent h T) s (fun t =>
        OnlyWrites (writes (.ptpDelayReq p .sent h T)) s t
        ∧ (switch t w).delaySeq = h.seq ∧ (switch t w).delayTime = (stampOut u p T).toNat))
      ∧ (∀ a b c : Nat, switchMode s w = 2 → (switch s w).role ≠ 0 →
        Completes (.ptpPeerDelay p (ptpDomain s) a (b, c) T) s (fun t => OnlyWrites [.net, .time] s t
          ∧ (switch t w).pathDelay = ((stampIn u p T - stampOut u p a) - ((c : Int) - b)).fdiv 2)))
    ∧ (∀ w, netOn s = true → stationIp s w ≠ 0 → (switch s w).role = 2 →
      (∀ (h : PtpHeader) o l, h.domain = ptpDomain s → (switch s w).syncTime ≠ 0 → (switch s w).syncSeq = h.seq →
        Completes (.ptpFollowUp w h o l) s (fun t =>
          OnlyWrites (writes (.ptpFollowUp w h o l)) s t
          ∧ (switch t w).syncTime = 0 ∧ (switch t w).down = ((switch s w).syncTime : Int) - o - h.correction
          ∧ (switch t w).syncInterval = logNs l
          ∧ ((sources s).contains (1 + w) = true →
            tget [] t.time.updates (1 + w) = (s.time.now :: tget [] s.time.updates (1 + w)).take 3)))
      ∧ (∀ (h : PtpHeader) (T : Nat), h.domain = ptpDomain s → switchMode s w ≠ 2 → (switch s w).delayTime ≠ 0 →
        (switch s w).delaySeq = h.seq → Completes (.ptpDelayResp w h T) s (fun t => OnlyWrites [.net] s t ∧ (switch t w).delayTime = 0
          ∧ (switch t w).pathDelay = ((switch s w).down + ((T : Int) - h.correction - (switch s w).delayTime)).fdiv 2)))
end

