-- ==== Sys2Proof/Laws/Frames.lean ====
section
/-! SUPPORT. What each shared operation leaves as it was: one lemma an operation, naming every part of the state
that it does not write. They are simp lemmas, so that a claim about a command needs to unfold only what writes
the part it speaks of. -/

namespace Sys2Proof.Machine

@[simp] theorem ite_pending (p : Prop) [Decidable p] (a b : State) :
    (if p then a else b).pending = if p then a.pending else b.pending := by split <;> rfl

@[simp] theorem fold_pending {α : Type} (l : List α) (f : State → α → State) (h : ∀ a x, (f a x).pending = a.pending) (s : State) :
    (l.foldl f s).pending = s.pending := by
  induction l generalizing s with
  | nil => rfl
  | cons x xs ih => simp only [List.foldl_cons, ih, h]

@[simp] theorem ite_ctl (p : Prop) [Decidable p] (a b : State) :
    (if p then a else b).ctl = if p then a.ctl else b.ctl := by split <;> rfl

@[simp] theorem fold_ctl {α : Type} (l : List α) (f : State → α → State) (h : ∀ a x, (f a x).ctl = a.ctl) (s : State) :
    (l.foldl f s).ctl = s.ctl := by
  induction l generalizing s with
  | nil => rfl
  | cons x xs ih => simp only [List.foldl_cons, ih, h]

@[simp] theorem ite_power (p : Prop) [Decidable p] (a b : State) :
    (if p then a else b).power = if p then a.power else b.power := by split <;> rfl

@[simp] theorem fold_power {α : Type} (l : List α) (f : State → α → State) (h : ∀ a x, (f a x).power = a.power) (s : State) :
    (l.foldl f s).power = s.power := by
  induction l generalizing s with
  | nil => rfl
  | cons x xs ih => simp only [List.foldl_cons, ih, h]

@[simp] theorem ite_fuses (p : Prop) [Decidable p] (a b : State) :
    (if p then a else b).fuses = if p then a.fuses else b.fuses := by split <;> rfl

@[simp] theorem fold_fuses {α : Type} (l : List α) (f : State → α → State) (h : ∀ a x, (f a x).fuses = a.fuses) (s : State) :
    (l.foldl f s).fuses = s.fuses := by
  induction l generalizing s with
  | nil => rfl
  | cons x xs ih => simp only [List.foldl_cons, ih, h]

@[simp] theorem ite_cfg (p : Prop) [Decidable p] (a b : State) :
    (if p then a else b).cfg = if p then a.cfg else b.cfg := by split <;> rfl

@[simp] theorem fold_cfg {α : Type} (l : List α) (f : State → α → State) (h : ∀ a x, (f a x).cfg = a.cfg) (s : State) :
    (l.foldl f s).cfg = s.cfg := by
  induction l generalizing s with
  | nil => rfl
  | cons x xs ih => simp only [List.foldl_cons, ih, h]

@[simp] theorem ite_dict (p : Prop) [Decidable p] (a b : State) :
    (if p then a else b).dict = if p then a.dict else b.dict := by split <;> rfl

@[simp] theorem fold_dict {α : Type} (l : List α) (f : State → α → State) (h : ∀ a x, (f a x).dict = a.dict) (s : State) :
    (l.foldl f s).dict = s.dict := by
  induction l generalizing s with
  | nil => rfl
  | cons x xs ih => simp only [List.foldl_cons, ih, h]

@[simp] theorem ite_field (p : Prop) [Decidable p] (a b : State) :
    (if p then a else b).field = if p then a.field else b.field := by split <;> rfl

@[simp] theorem fold_field {α : Type} (l : List α) (f : State → α → State) (h : ∀ a x, (f a x).field = a.field) (s : State) :
    (l.foldl f s).field = s.field := by
  induction l generalizing s with
  | nil => rfl
  | cons x xs ih => simp only [List.foldl_cons, ih, h]

@[simp] theorem ite_pairs (p : Prop) [Decidable p] (a b : State) :
    (if p then a else b).pairs = if p then a.pairs else b.pairs := by split <;> rfl

@[simp] theorem fold_pairs {α : Type} (l : List α) (f : State → α → State) (h : ∀ a x, (f a x).pairs = a.pairs) (s : State) :
    (l.foldl f s).pairs = s.pairs := by
  induction l generalizing s with
  | nil => rfl
  | cons x xs ih => simp only [List.foldl_cons, ih, h]

@[simp] theorem ite_array (p : Prop) [Decidable p] (a b : State) :
    (if p then a else b).array = if p then a.array else b.array := by split <;> rfl

@[simp] theorem fold_array {α : Type} (l : List α) (f : State → α → State) (h : ∀ a x, (f a x).array = a.array) (s : State) :
    (l.foldl f s).array = s.array := by
  induction l generalizing s with
  | nil => rfl
  | cons x xs ih => simp only [List.foldl_cons, ih, h]

@[simp] theorem ite_outs (p : Prop) [Decidable p] (a b : State) :
    (if p then a else b).outs = if p then a.outs else b.outs := by split <;> rfl

@[simp] theorem fold_outs {α : Type} (l : List α) (f : State → α → State) (h : ∀ a x, (f a x).outs = a.outs) (s : State) :
    (l.foldl f s).outs = s.outs := by
  induction l generalizing s with
  | nil => rfl
  | cons x xs ih => simp only [List.foldl_cons, ih, h]

@[simp] theorem ite_proc (p : Prop) [Decidable p] (a b : State) :
    (if p then a else b).proc = if p then a.proc else b.proc := by split <;> rfl

@[simp] theorem fold_proc {α : Type} (l : List α) (f : State → α → State) (h : ∀ a x, (f a x).proc = a.proc) (s : State) :
    (l.foldl f s).proc = s.proc := by
  induction l generalizing s with
  | nil => rfl
  | cons x xs ih => simp only [List.foldl_cons, ih, h]

@[simp] theorem ite_col (p : Prop) [Decidable p] (a b : State) :
    (if p then a else b).col = if p then a.col else b.col := by split <;> rfl

@[simp] theorem fold_col {α : Type} (l : List α) (f : State → α → State) (h : ∀ a x, (f a x).col = a.col) (s : State) :
    (l.foldl f s).col = s.col := by
  induction l generalizing s with
  | nil => rfl
  | cons x xs ih => simp only [List.foldl_cons, ih, h]

@[simp] theorem ite_breach (p : Prop) [Decidable p] (a b : State) :
    (if p then a else b).breach = if p then a.breach else b.breach := by split <;> rfl

@[simp] theorem fold_breach {α : Type} (l : List α) (f : State → α → State) (h : ∀ a x, (f a x).breach = a.breach) (s : State) :
    (l.foldl f s).breach = s.breach := by
  induction l generalizing s with
  | nil => rfl
  | cons x xs ih => simp only [List.foldl_cons, ih, h]

@[simp] theorem ite_test (p : Prop) [Decidable p] (a b : State) :
    (if p then a else b).test = if p then a.test else b.test := by split <;> rfl

@[simp] theorem fold_test {α : Type} (l : List α) (f : State → α → State) (h : ∀ a x, (f a x).test = a.test) (s : State) :
    (l.foldl f s).test = s.test := by
  induction l generalizing s with
  | nil => rfl
  | cons x xs ih => simp only [List.foldl_cons, ih, h]

@[simp] theorem ite_net (p : Prop) [Decidable p] (a b : State) :
    (if p then a else b).net = if p then a.net else b.net := by split <;> rfl

@[simp] theorem fold_net {α : Type} (l : List α) (f : State → α → State) (h : ∀ a x, (f a x).net = a.net) (s : State) :
    (l.foldl f s).net = s.net := by
  induction l generalizing s with
  | nil => rfl
  | cons x xs ih => simp only [List.foldl_cons, ih, h]

@[simp] theorem ite_led (p : Prop) [Decidable p] (a b : State) :
    (if p then a else b).led = if p then a.led else b.led := by split <;> rfl

@[simp] theorem fold_led {α : Type} (l : List α) (f : State → α → State) (h : ∀ a x, (f a x).led = a.led) (s : State) :
    (l.foldl f s).led = s.led := by
  induction l generalizing s with
  | nil => rfl
  | cons x xs ih => simp only [List.foldl_cons, ih, h]

@[simp] theorem ite_time (p : Prop) [Decidable p] (a b : State) :
    (if p then a else b).time = if p then a.time else b.time := by split <;> rfl

@[simp] theorem fold_time {α : Type} (l : List α) (f : State → α → State) (h : ∀ a x, (f a x).time = a.time) (s : State) :
    (l.foldl f s).time = s.time := by
  induction l generalizing s with
  | nil => rfl
  | cons x xs ih => simp only [List.foldl_cons, ih, h]

@[simp] theorem ite_draws (p : Prop) [Decidable p] (a b : State) :
    (if p then a else b).draws = if p then a.draws else b.draws := by split <;> rfl

@[simp] theorem fold_draws {α : Type} (l : List α) (f : State → α → State) (h : ∀ a x, (f a x).draws = a.draws) (s : State) :
    (l.foldl f s).draws = s.draws := by
  induction l generalizing s with
  | nil => rfl
  | cons x xs ih => simp only [List.foldl_cons, ih, h]

@[simp] theorem ite_snd {β : Type} (p : Prop) [Decidable p] (a b : β × State) :
    (if p then a else b).2 = if p then a.2 else b.2 := by split <;> rfl

@[simp] theorem advance_keeps (a0) (s : State) :
    (advance a0 s).pending = s.pending ∧ (advance a0 s).ctl = s.ctl ∧ (advance a0 s).power = s.power ∧
    (advance a0 s).fuses = s.fuses ∧ (advance a0 s).cfg = s.cfg ∧ (advance a0 s).dict = s.dict ∧
    (advance a0 s).field = s.field ∧ (advance a0 s).pairs = s.pairs ∧ (advance a0 s).array = s.array ∧
    (advance a0 s).outs = s.outs ∧ (advance a0 s).proc = s.proc ∧ (advance a0 s).col = s.col ∧
    (advance a0 s).breach = s.breach ∧ (advance a0 s).test = s.test ∧ (advance a0 s).net = s.net ∧
    (advance a0 s).led = s.led ∧ (advance a0 s).draws = s.draws := by
  simp [advance]

@[simp] theorem idle_keeps (s : State) :
    (idle s).pending = s.pending ∧ (idle s).ctl = s.ctl ∧ (idle s).power = s.power ∧ (idle s).fuses = s.fuses ∧
    (idle s).cfg = s.cfg ∧ (idle s).dict = s.dict ∧ (idle s).field = s.field ∧ (idle s).pairs = s.pairs ∧
    (idle s).array = s.array ∧ (idle s).outs = s.outs ∧ (idle s).proc = s.proc ∧ (idle s).col = s.col ∧
    (idle s).breach = s.breach ∧ (idle s).test = s.test ∧ (idle s).net = s.net ∧ (idle s).led = s.led ∧
    (idle s).draws = s.draws := by
  simp only [idle]
  split <;> simp

@[simp] theorem runToDev_keeps (a0) (s : State) :
    (runToDev a0 s).pending = s.pending ∧ (runToDev a0 s).ctl = s.ctl ∧ (runToDev a0 s).power = s.power ∧
    (runToDev a0 s).fuses = s.fuses ∧ (runToDev a0 s).cfg = s.cfg ∧ (runToDev a0 s).dict = s.dict ∧
    (runToDev a0 s).field = s.field ∧ (runToDev a0 s).pairs = s.pairs ∧ (runToDev a0 s).array = s.array ∧
    (runToDev a0 s).outs = s.outs ∧ (runToDev a0 s).proc = s.proc ∧ (runToDev a0 s).col = s.col ∧
    (runToDev a0 s).breach = s.breach ∧ (runToDev a0 s).test = s.test ∧ (runToDev a0 s).net = s.net ∧
    (runToDev a0 s).led = s.led ∧ (runToDev a0 s).draws = s.draws := by
  simp [runToDev]

@[simp] theorem afterStamp_keeps (a0) (a1) (s : State) :
    (afterStamp a0 a1 s).pending = s.pending ∧ (afterStamp a0 a1 s).ctl = s.ctl ∧
    (afterStamp a0 a1 s).power = s.power ∧ (afterStamp a0 a1 s).fuses = s.fuses ∧
    (afterStamp a0 a1 s).cfg = s.cfg ∧ (afterStamp a0 a1 s).dict = s.dict ∧ (afterStamp a0 a1 s).field = s.field ∧
    (afterStamp a0 a1 s).pairs = s.pairs ∧ (afterStamp a0 a1 s).array = s.array ∧
    (afterStamp a0 a1 s).outs = s.outs ∧ (afterStamp a0 a1 s).proc = s.proc ∧ (afterStamp a0 a1 s).col = s.col ∧
    (afterStamp a0 a1 s).breach = s.breach ∧ (afterStamp a0 a1 s).test = s.test ∧
    (afterStamp a0 a1 s).net = s.net ∧ (afterStamp a0 a1 s).led = s.led ∧ (afterStamp a0 a1 s).draws = s.draws := by
  unfold afterStamp
  split <;> simp

@[simp] theorem bump_keeps (a0) (a1) (s : State) :
    (bump a0 a1 s).pending = s.pending ∧ (bump a0 a1 s).ctl = s.ctl ∧ (bump a0 a1 s).power = s.power ∧
    (bump a0 a1 s).fuses = s.fuses ∧ (bump a0 a1 s).cfg = s.cfg ∧ (bump a0 a1 s).field = s.field ∧
    (bump a0 a1 s).pairs = s.pairs ∧ (bump a0 a1 s).array = s.array ∧ (bump a0 a1 s).outs = s.outs ∧
    (bump a0 a1 s).proc = s.proc ∧ (bump a0 a1 s).col = s.col ∧ (bump a0 a1 s).breach = s.breach ∧
    (bump a0 a1 s).test = s.test ∧ (bump a0 a1 s).net = s.net ∧ (bump a0 a1 s).led = s.led ∧
    (bump a0 a1 s).time = s.time ∧ (bump a0 a1 s).draws = s.draws := by
  simp [bump]

@[simp] theorem draw_keeps (s : State) :
    (draw s).2.pending = s.pending ∧ (draw s).2.ctl = s.ctl ∧ (draw s).2.power = s.power ∧
    (draw s).2.fuses = s.fuses ∧ (draw s).2.cfg = s.cfg ∧ (draw s).2.dict = s.dict ∧ (draw s).2.field = s.field ∧
    (draw s).2.pairs = s.pairs ∧ (draw s).2.array = s.array ∧ (draw s).2.outs = s.outs ∧ (draw s).2.proc = s.proc ∧
    (draw s).2.col = s.col ∧ (draw s).2.breach = s.breach ∧ (draw s).2.test = s.test ∧ (draw s).2.net = s.net ∧
    (draw s).2.led = s.led ∧ (draw s).2.time = s.time := by
  simp [draw]

@[simp] theorem breachCount_keeps (a0) (a1) (s : State) :
    (breachCount a0 a1 s).pending = s.pending ∧ (breachCount a0 a1 s).ctl = s.ctl ∧
    (breachCount a0 a1 s).power = s.power ∧ (breachCount a0 a1 s).fuses = s.fuses ∧
    (breachCount a0 a1 s).cfg = s.cfg ∧ (breachCount a0 a1 s).dict = s.dict ∧
    (breachCount a0 a1 s).field = s.field ∧ (breachCount a0 a1 s).pairs = s.pairs ∧
    (breachCount a0 a1 s).array = s.array ∧ (breachCount a0 a1 s).outs = s.outs ∧
    (breachCount a0 a1 s).proc = s.proc ∧ (breachCount a0 a1 s).col = s.col ∧ (breachCount a0 a1 s).test = s.test ∧
    (breachCount a0 a1 s).net = s.net ∧ (breachCount a0 a1 s).led = s.led ∧ (breachCount a0 a1 s).time = s.time ∧
    (breachCount a0 a1 s).draws = s.draws := by
  simp [breachCount]

@[simp] theorem sealOpen_keeps (s : State) :
    (sealOpen s).pending = s.pending ∧ (sealOpen s).ctl = s.ctl ∧ (sealOpen s).power = s.power ∧
    (sealOpen s).fuses = s.fuses ∧ (sealOpen s).cfg = s.cfg ∧ (sealOpen s).dict = s.dict ∧
    (sealOpen s).field = s.field ∧ (sealOpen s).pairs = s.pairs ∧ (sealOpen s).array = s.array ∧
    (sealOpen s).outs = s.outs ∧ (sealOpen s).proc = s.proc ∧ (sealOpen s).col = s.col ∧
    (sealOpen s).breach = s.breach ∧ (sealOpen s).test = s.test ∧ (sealOpen s).net = s.net ∧
    (sealOpen s).time = s.time ∧ (sealOpen s).draws = s.draws := by
  simp [sealOpen]

@[simp] theorem sealFull_keeps (s : State) :
    (sealFull s).pending = s.pending ∧ (sealFull s).ctl = s.ctl ∧ (sealFull s).power = s.power ∧
    (sealFull s).fuses = s.fuses ∧ (sealFull s).cfg = s.cfg ∧ (sealFull s).dict = s.dict ∧
    (sealFull s).field = s.field ∧ (sealFull s).pairs = s.pairs ∧ (sealFull s).array = s.array ∧
    (sealFull s).outs = s.outs ∧ (sealFull s).proc = s.proc ∧ (sealFull s).col = s.col ∧
    (sealFull s).breach = s.breach ∧ (sealFull s).test = s.test ∧ (sealFull s).net = s.net ∧
    (sealFull s).time = s.time ∧ (sealFull s).draws = s.draws := by
  simp [sealFull]

@[simp] theorem openPut_keeps (a0) (s : State) :
    (openPut a0 s).pending = s.pending ∧ (openPut a0 s).ctl = s.ctl ∧ (openPut a0 s).power = s.power ∧
    (openPut a0 s).fuses = s.fuses ∧ (openPut a0 s).cfg = s.cfg ∧ (openPut a0 s).dict = s.dict ∧
    (openPut a0 s).field = s.field ∧ (openPut a0 s).pairs = s.pairs ∧ (openPut a0 s).array = s.array ∧
    (openPut a0 s).outs = s.outs ∧ (openPut a0 s).proc = s.proc ∧ (openPut a0 s).col = s.col ∧
    (openPut a0 s).breach = s.breach ∧ (openPut a0 s).test = s.test ∧ (openPut a0 s).net = s.net ∧
    (openPut a0 s).time = s.time ∧ (openPut a0 s).draws = s.draws := by
  simp [openPut]

@[simp] theorem lose5_keeps (a0) (s : State) :
    (lose5 a0 s).pending = s.pending ∧ (lose5 a0 s).ctl = s.ctl ∧ (lose5 a0 s).power = s.power ∧
    (lose5 a0 s).fuses = s.fuses ∧ (lose5 a0 s).cfg = s.cfg ∧ (lose5 a0 s).dict = s.dict ∧
    (lose5 a0 s).field = s.field ∧ (lose5 a0 s).pairs = s.pairs ∧ (lose5 a0 s).array = s.array ∧
    (lose5 a0 s).outs = s.outs ∧ (lose5 a0 s).proc = s.proc ∧ (lose5 a0 s).col = s.col ∧
    (lose5 a0 s).test = s.test ∧ (lose5 a0 s).net = s.net ∧ (lose5 a0 s).time = s.time ∧
    (lose5 a0 s).draws = s.draws := by
  simp [lose5]

@[simp] theorem placeWith_pending (lose r) (s : State) (h : ∀ a b t, (lose a b t).pending = t.pending) : (placeWith lose r s).pending = s.pending := by
  simp only [placeWith]; (repeat' split) <;> simp [h]

@[simp] theorem placeWith_ctl (lose r) (s : State) (h : ∀ a b t, (lose a b t).ctl = t.ctl) : (placeWith lose r s).ctl = s.ctl := by
  simp only [placeWith]; (repeat' split) <;> simp [h]

@[simp] theorem placeWith_power (lose r) (s : State) (h : ∀ a b t, (lose a b t).power = t.power) : (placeWith lose r s).power = s.power := by
  simp only [placeWith]; (repeat' split) <;> simp [h]

@[simp] theorem placeWith_fuses (lose r) (s : State) (h : ∀ a b t, (lose a b t).fuses = t.fuses) : (placeWith lose r s).fuses = s.fuses := by
  simp only [placeWith]; (repeat' split) <;> simp [h]

@[simp] theorem placeWith_cfg (lose r) (s : State) (h : ∀ a b t, (lose a b t).cfg = t.cfg) : (placeWith lose r s).cfg = s.cfg := by
  simp only [placeWith]; (repeat' split) <;> simp [h]

@[simp] theorem placeWith_dict (lose r) (s : State) (h : ∀ a b t, (lose a b t).dict = t.dict) : (placeWith lose r s).dict = s.dict := by
  simp only [placeWith]; (repeat' split) <;> simp [h]

@[simp] theorem placeWith_field (lose r) (s : State) (h : ∀ a b t, (lose a b t).field = t.field) : (placeWith lose r s).field = s.field := by
  simp only [placeWith]; (repeat' split) <;> simp [h]

@[simp] theorem placeWith_pairs (lose r) (s : State) (h : ∀ a b t, (lose a b t).pairs = t.pairs) : (placeWith lose r s).pairs = s.pairs := by
  simp only [placeWith]; (repeat' split) <;> simp [h]

@[simp] theorem placeWith_array (lose r) (s : State) (h : ∀ a b t, (lose a b t).array = t.array) : (placeWith lose r s).array = s.array := by
  simp only [placeWith]; (repeat' split) <;> simp [h]

@[simp] theorem placeWith_outs (lose r) (s : State) (h : ∀ a b t, (lose a b t).outs = t.outs) : (placeWith lose r s).outs = s.outs := by
  simp only [placeWith]; (repeat' split) <;> simp [h]

@[simp] theorem placeWith_proc (lose r) (s : State) (h : ∀ a b t, (lose a b t).proc = t.proc) : (placeWith lose r s).proc = s.proc := by
  simp only [placeWith]; (repeat' split) <;> simp [h]

@[simp] theorem placeWith_col (lose r) (s : State) (h : ∀ a b t, (lose a b t).col = t.col) : (placeWith lose r s).col = s.col := by
  simp only [placeWith]; (repeat' split) <;> simp [h]

@[simp] theorem placeWith_test (lose r) (s : State) (h : ∀ a b t, (lose a b t).test = t.test) : (placeWith lose r s).test = s.test := by
  simp only [placeWith]; (repeat' split) <;> simp [h]

@[simp] theorem placeWith_net (lose r) (s : State) (h : ∀ a b t, (lose a b t).net = t.net) : (placeWith lose r s).net = s.net := by
  simp only [placeWith]; (repeat' split) <;> simp [h]

@[simp] theorem placeWith_time (lose r) (s : State) (h : ∀ a b t, (lose a b t).time = t.time) : (placeWith lose r s).time = s.time := by
  simp only [placeWith]; (repeat' split) <;> simp [h]

@[simp] theorem placeWith_draws (lose r) (s : State) (h : ∀ a b t, (lose a b t).draws = t.draws) : (placeWith lose r s).draws = s.draws := by
  simp only [placeWith]; (repeat' split) <;> simp [h]

@[simp] theorem ledgerWith_pending (lose t r) (s : State) (h : ∀ a b t, (lose a b t).pending = t.pending) : (ledgerWith lose t r s).pending = s.pending := by
  simp only [ledgerWith]; (repeat' split) <;> simp [h]

@[simp] theorem ledgerWith_ctl (lose t r) (s : State) (h : ∀ a b t, (lose a b t).ctl = t.ctl) : (ledgerWith lose t r s).ctl = s.ctl := by
  simp only [ledgerWith]; (repeat' split) <;> simp [h]

@[simp] theorem ledgerWith_power (lose t r) (s : State) (h : ∀ a b t, (lose a b t).power = t.power) : (ledgerWith lose t r s).power = s.power := by
  simp only [ledgerWith]; (repeat' split) <;> simp [h]

@[simp] theorem ledgerWith_fuses (lose t r) (s : State) (h : ∀ a b t, (lose a b t).fuses = t.fuses) : (ledgerWith lose t r s).fuses = s.fuses := by
  simp only [ledgerWith]; (repeat' split) <;> simp [h]

@[simp] theorem ledgerWith_cfg (lose t r) (s : State) (h : ∀ a b t, (lose a b t).cfg = t.cfg) : (ledgerWith lose t r s).cfg = s.cfg := by
  simp only [ledgerWith]; (repeat' split) <;> simp [h]

@[simp] theorem ledgerWith_dict (lose t r) (s : State) (h : ∀ a b t, (lose a b t).dict = t.dict) : (ledgerWith lose t r s).dict = s.dict := by
  simp only [ledgerWith]; (repeat' split) <;> simp [h]

@[simp] theorem ledgerWith_field (lose t r) (s : State) (h : ∀ a b t, (lose a b t).field = t.field) : (ledgerWith lose t r s).field = s.field := by
  simp only [ledgerWith]; (repeat' split) <;> simp [h]

@[simp] theorem ledgerWith_pairs (lose t r) (s : State) (h : ∀ a b t, (lose a b t).pairs = t.pairs) : (ledgerWith lose t r s).pairs = s.pairs := by
  simp only [ledgerWith]; (repeat' split) <;> simp [h]

@[simp] theorem ledgerWith_array (lose t r) (s : State) (h : ∀ a b t, (lose a b t).array = t.array) : (ledgerWith lose t r s).array = s.array := by
  simp only [ledgerWith]; (repeat' split) <;> simp [h]

@[simp] theorem ledgerWith_outs (lose t r) (s : State) (h : ∀ a b t, (lose a b t).outs = t.outs) : (ledgerWith lose t r s).outs = s.outs := by
  simp only [ledgerWith]; (repeat' split) <;> simp [h]

@[simp] theorem ledgerWith_proc (lose t r) (s : State) (h : ∀ a b t, (lose a b t).proc = t.proc) : (ledgerWith lose t r s).proc = s.proc := by
  simp only [ledgerWith]; (repeat' split) <;> simp [h]

@[simp] theorem ledgerWith_col (lose t r) (s : State) (h : ∀ a b t, (lose a b t).col = t.col) : (ledgerWith lose t r s).col = s.col := by
  simp only [ledgerWith]; (repeat' split) <;> simp [h]

@[simp] theorem ledgerWith_test (lose t r) (s : State) (h : ∀ a b t, (lose a b t).test = t.test) : (ledgerWith lose t r s).test = s.test := by
  simp only [ledgerWith]; (repeat' split) <;> simp [h]

@[simp] theorem ledgerWith_net (lose t r) (s : State) (h : ∀ a b t, (lose a b t).net = t.net) : (ledgerWith lose t r s).net = s.net := by
  simp only [ledgerWith]; (repeat' split) <;> simp [h]

@[simp] theorem ledgerWith_time (lose t r) (s : State) (h : ∀ a b t, (lose a b t).time = t.time) : (ledgerWith lose t r s).time = s.time := by
  simp only [ledgerWith]; (repeat' split) <;> simp [h]

@[simp] theorem ledgerWith_draws (lose t r) (s : State) (h : ∀ a b t, (lose a b t).draws = t.draws) : (ledgerWith lose t r s).draws = s.draws := by
  simp only [ledgerWith]; (repeat' split) <;> simp [h]

@[simp] theorem updWith_pending (put pick f) (s : State) (h : ∀ r t, (put r t).pending = t.pending) : (updWith put pick f s).pending = s.pending := by
  simp [updWith, h]

@[simp] theorem updWith_ctl (put pick f) (s : State) (h : ∀ r t, (put r t).ctl = t.ctl) : (updWith put pick f s).ctl = s.ctl := by
  simp [updWith, h]

@[simp] theorem updWith_power (put pick f) (s : State) (h : ∀ r t, (put r t).power = t.power) : (updWith put pick f s).power = s.power := by
  simp [updWith, h]

@[simp] theorem updWith_fuses (put pick f) (s : State) (h : ∀ r t, (put r t).fuses = t.fuses) : (updWith put pick f s).fuses = s.fuses := by
  simp [updWith, h]

@[simp] theorem updWith_cfg (put pick f) (s : State) (h : ∀ r t, (put r t).cfg = t.cfg) : (updWith put pick f s).cfg = s.cfg := by
  simp [updWith, h]

@[simp] theorem updWith_dict (put pick f) (s : State) (h : ∀ r t, (put r t).dict = t.dict) : (updWith put pick f s).dict = s.dict := by
  simp [updWith, h]

@[simp] theorem updWith_field (put pick f) (s : State) (h : ∀ r t, (put r t).field = t.field) : (updWith put pick f s).field = s.field := by
  simp [updWith, h]

@[simp] theorem updWith_pairs (put pick f) (s : State) (h : ∀ r t, (put r t).pairs = t.pairs) : (updWith put pick f s).pairs = s.pairs := by
  simp [updWith, h]

@[simp] theorem updWith_array (put pick f) (s : State) (h : ∀ r t, (put r t).array = t.array) : (updWith put pick f s).array = s.array := by
  simp [updWith, h]

@[simp] theorem updWith_outs (put pick f) (s : State) (h : ∀ r t, (put r t).outs = t.outs) : (updWith put pick f s).outs = s.outs := by
  simp [updWith, h]

@[simp] theorem updWith_proc (put pick f) (s : State) (h : ∀ r t, (put r t).proc = t.proc) : (updWith put pick f s).proc = s.proc := by
  simp [updWith, h]

@[simp] theorem updWith_breach (put pick f) (s : State) (h : ∀ r t, (put r t).breach = t.breach) : (updWith put pick f s).breach = s.breach := by
  simp [updWith, h]

@[simp] theorem updWith_test (put pick f) (s : State) (h : ∀ r t, (put r t).test = t.test) : (updWith put pick f s).test = s.test := by
  simp [updWith, h]

@[simp] theorem updWith_net (put pick f) (s : State) (h : ∀ r t, (put r t).net = t.net) : (updWith put pick f s).net = s.net := by
  simp [updWith, h]

@[simp] theorem updWith_led (put pick f) (s : State) (h : ∀ r t, (put r t).led = t.led) : (updWith put pick f s).led = s.led := by
  simp [updWith, h]

@[simp] theorem updWith_time (put pick f) (s : State) (h : ∀ r t, (put r t).time = t.time) : (updWith put pick f s).time = s.time := by
  simp [updWith, h]

@[simp] theorem updWith_draws (put pick f) (s : State) (h : ∀ r t, (put r t).draws = t.draws) : (updWith put pick f s).draws = s.draws := by
  simp [updWith, h]

@[simp] theorem enterWith_pending (put a b) (s : State) (h : ∀ r t, (put r t).pending = t.pending) : (enterWith put a b s).pending = s.pending := by
  simp only [enterWith]; (repeat' split) <;> simp [h]

@[simp] theorem enterWith_ctl (put a b) (s : State) (h : ∀ r t, (put r t).ctl = t.ctl) : (enterWith put a b s).ctl = s.ctl := by
  simp only [enterWith]; (repeat' split) <;> simp [h]

@[simp] theorem enterWith_power (put a b) (s : State) (h : ∀ r t, (put r t).power = t.power) : (enterWith put a b s).power = s.power := by
  simp only [enterWith]; (repeat' split) <;> simp [h]

@[simp] theorem enterWith_fuses (put a b) (s : State) (h : ∀ r t, (put r t).fuses = t.fuses) : (enterWith put a b s).fuses = s.fuses := by
  simp only [enterWith]; (repeat' split) <;> simp [h]

@[simp] theorem enterWith_cfg (put a b) (s : State) (h : ∀ r t, (put r t).cfg = t.cfg) : (enterWith put a b s).cfg = s.cfg := by
  simp only [enterWith]; (repeat' split) <;> simp [h]

@[simp] theorem enterWith_dict (put a b) (s : State) (h : ∀ r t, (put r t).dict = t.dict) : (enterWith put a b s).dict = s.dict := by
  simp only [enterWith]; (repeat' split) <;> simp [h]

@[simp] theorem enterWith_field (put a b) (s : State) (h : ∀ r t, (put r t).field = t.field) : (enterWith put a b s).field = s.field := by
  simp only [enterWith]; (repeat' split) <;> simp [h]

@[simp] theorem enterWith_pairs (put a b) (s : State) (h : ∀ r t, (put r t).pairs = t.pairs) : (enterWith put a b s).pairs = s.pairs := by
  simp only [enterWith]; (repeat' split) <;> simp [h]

@[simp] theorem enterWith_array (put a b) (s : State) (h : ∀ r t, (put r t).array = t.array) : (enterWith put a b s).array = s.array := by
  simp only [enterWith]; (repeat' split) <;> simp [h]

@[simp] theorem enterWith_outs (put a b) (s : State) (h : ∀ r t, (put r t).outs = t.outs) : (enterWith put a b s).outs = s.outs := by
  simp only [enterWith]; (repeat' split) <;> simp [h]

@[simp] theorem enterWith_proc (put a b) (s : State) (h : ∀ r t, (put r t).proc = t.proc) : (enterWith put a b s).proc = s.proc := by
  simp only [enterWith]; (repeat' split) <;> simp [h]

@[simp] theorem enterWith_breach (put a b) (s : State) (h : ∀ r t, (put r t).breach = t.breach) : (enterWith put a b s).breach = s.breach := by
  simp only [enterWith]; (repeat' split) <;> simp [h]

@[simp] theorem enterWith_test (put a b) (s : State) (h : ∀ r t, (put r t).test = t.test) : (enterWith put a b s).test = s.test := by
  simp only [enterWith]; (repeat' split) <;> simp [h]

@[simp] theorem enterWith_net (put a b) (s : State) (h : ∀ r t, (put r t).net = t.net) : (enterWith put a b s).net = s.net := by
  simp only [enterWith]; (repeat' split) <;> simp [h]

@[simp] theorem enterWith_led (put a b) (s : State) (h : ∀ r t, (put r t).led = t.led) : (enterWith put a b s).led = s.led := by
  simp only [enterWith]; (repeat' split) <;> simp [h]

@[simp] theorem enterWith_time (put a b) (s : State) (h : ∀ r t, (put r t).time = t.time) : (enterWith put a b s).time = s.time := by
  simp only [enterWith]; (repeat' split) <;> simp [h]

@[simp] theorem enterWith_draws (put a b) (s : State) (h : ∀ r t, (put r t).draws = t.draws) : (enterWith put a b s).draws = s.draws := by
  simp only [enterWith]; (repeat' split) <;> simp [h]

@[simp] theorem breach_keeps (a0) (a1) (s : State) :
    (breach a0 a1 s).pending = s.pending ∧ (breach a0 a1 s).ctl = s.ctl ∧ (breach a0 a1 s).power = s.power ∧
    (breach a0 a1 s).fuses = s.fuses ∧ (breach a0 a1 s).cfg = s.cfg ∧ (breach a0 a1 s).dict = s.dict ∧
    (breach a0 a1 s).field = s.field ∧ (breach a0 a1 s).pairs = s.pairs ∧ (breach a0 a1 s).array = s.array ∧
    (breach a0 a1 s).outs = s.outs ∧ (breach a0 a1 s).proc = s.proc ∧ (breach a0 a1 s).test = s.test ∧
    (breach a0 a1 s).net = s.net ∧ (breach a0 a1 s).time = s.time ∧ (breach a0 a1 s).draws = s.draws := by
  simp [breach]

@[simp] theorem rankOne_keeps (a0) (s : State) :
    (rankOne a0 s).pending = s.pending ∧ (rankOne a0 s).ctl = s.ctl ∧ (rankOne a0 s).power = s.power ∧
    (rankOne a0 s).fuses = s.fuses ∧ (rankOne a0 s).cfg = s.cfg ∧ (rankOne a0 s).dict = s.dict ∧
    (rankOne a0 s).field = s.field ∧ (rankOne a0 s).pairs = s.pairs ∧ (rankOne a0 s).array = s.array ∧
    (rankOne a0 s).outs = s.outs ∧ (rankOne a0 s).proc = s.proc ∧ (rankOne a0 s).test = s.test ∧
    (rankOne a0 s).net = s.net ∧ (rankOne a0 s).time = s.time ∧ (rankOne a0 s).draws = s.draws := by
  simp [rankOne]

@[simp] theorem place_keeps (a0) (s : State) :
    (place a0 s).pending = s.pending ∧ (place a0 s).ctl = s.ctl ∧ (place a0 s).power = s.power ∧
    (place a0 s).fuses = s.fuses ∧ (place a0 s).cfg = s.cfg ∧ (place a0 s).dict = s.dict ∧
    (place a0 s).field = s.field ∧ (place a0 s).pairs = s.pairs ∧ (place a0 s).array = s.array ∧
    (place a0 s).outs = s.outs ∧ (place a0 s).proc = s.proc ∧ (place a0 s).test = s.test ∧
    (place a0 s).net = s.net ∧ (place a0 s).time = s.time ∧ (place a0 s).draws = s.draws := by
  simp [place]

@[simp] theorem ledgerAt_keeps (a0) (a1) (s : State) :
    (ledgerAt a0 a1 s).pending = s.pending ∧ (ledgerAt a0 a1 s).ctl = s.ctl ∧ (ledgerAt a0 a1 s).power = s.power ∧
    (ledgerAt a0 a1 s).fuses = s.fuses ∧ (ledgerAt a0 a1 s).cfg = s.cfg ∧ (ledgerAt a0 a1 s).dict = s.dict ∧
    (ledgerAt a0 a1 s).field = s.field ∧ (ledgerAt a0 a1 s).pairs = s.pairs ∧ (ledgerAt a0 a1 s).array = s.array ∧
    (ledgerAt a0 a1 s).outs = s.outs ∧ (ledgerAt a0 a1 s).proc = s.proc ∧ (ledgerAt a0 a1 s).test = s.test ∧
    (ledgerAt a0 a1 s).net = s.net ∧ (ledgerAt a0 a1 s).time = s.time ∧ (ledgerAt a0 a1 s).draws = s.draws := by
  simp [ledgerAt]

@[simp] theorem loseAll_keeps (a0) (s : State) :
    (loseAll a0 s).pending = s.pending ∧ (loseAll a0 s).ctl = s.ctl ∧ (loseAll a0 s).power = s.power ∧
    (loseAll a0 s).fuses = s.fuses ∧ (loseAll a0 s).cfg = s.cfg ∧ (loseAll a0 s).dict = s.dict ∧
    (loseAll a0 s).field = s.field ∧ (loseAll a0 s).pairs = s.pairs ∧ (loseAll a0 s).array = s.array ∧
    (loseAll a0 s).outs = s.outs ∧ (loseAll a0 s).proc = s.proc ∧ (loseAll a0 s).test = s.test ∧
    (loseAll a0 s).net = s.net ∧ (loseAll a0 s).time = s.time ∧ (loseAll a0 s).draws = s.draws := by
  simp [loseAll]

@[simp] theorem ledgerPut_keeps (a0) (s : State) :
    (ledgerPut a0 s).pending = s.pending ∧ (ledgerPut a0 s).ctl = s.ctl ∧ (ledgerPut a0 s).power = s.power ∧
    (ledgerPut a0 s).fuses = s.fuses ∧ (ledgerPut a0 s).cfg = s.cfg ∧ (ledgerPut a0 s).dict = s.dict ∧
    (ledgerPut a0 s).field = s.field ∧ (ledgerPut a0 s).pairs = s.pairs ∧ (ledgerPut a0 s).array = s.array ∧
    (ledgerPut a0 s).outs = s.outs ∧ (ledgerPut a0 s).proc = s.proc ∧ (ledgerPut a0 s).test = s.test ∧
    (ledgerPut a0 s).net = s.net ∧ (ledgerPut a0 s).time = s.time ∧ (ledgerPut a0 s).draws = s.draws := by
  simp [ledgerPut]

@[simp] theorem prune_keeps (s : State) :
    (prune s).pending = s.pending ∧ (prune s).ctl = s.ctl ∧ (prune s).power = s.power ∧ (prune s).fuses = s.fuses ∧
    (prune s).cfg = s.cfg ∧ (prune s).dict = s.dict ∧ (prune s).field = s.field ∧ (prune s).pairs = s.pairs ∧
    (prune s).array = s.array ∧ (prune s).outs = s.outs ∧ (prune s).proc = s.proc ∧ (prune s).test = s.test ∧
    (prune s).net = s.net ∧ (prune s).time = s.time ∧ (prune s).draws = s.draws := by
  simp [prune]

@[simp] theorem updRecords_keeps (a0) (a1) (s : State) :
    (updRecords a0 a1 s).pending = s.pending ∧ (updRecords a0 a1 s).ctl = s.ctl ∧
    (updRecords a0 a1 s).power = s.power ∧ (updRecords a0 a1 s).fuses = s.fuses ∧
    (updRecords a0 a1 s).cfg = s.cfg ∧ (updRecords a0 a1 s).dict = s.dict ∧ (updRecords a0 a1 s).field = s.field ∧
    (updRecords a0 a1 s).pairs = s.pairs ∧ (updRecords a0 a1 s).array = s.array ∧
    (updRecords a0 a1 s).outs = s.outs ∧ (updRecords a0 a1 s).proc = s.proc ∧ (updRecords a0 a1 s).test = s.test ∧
    (updRecords a0 a1 s).net = s.net ∧ (updRecords a0 a1 s).time = s.time ∧
    (updRecords a0 a1 s).draws = s.draws := by
  simp [updRecords]

@[simp] theorem enter_keeps (a0) (a1) (s : State) :
    (enter a0 a1 s).pending = s.pending ∧ (enter a0 a1 s).ctl = s.ctl ∧ (enter a0 a1 s).power = s.power ∧
    (enter a0 a1 s).fuses = s.fuses ∧ (enter a0 a1 s).cfg = s.cfg ∧ (enter a0 a1 s).dict = s.dict ∧
    (enter a0 a1 s).field = s.field ∧ (enter a0 a1 s).pairs = s.pairs ∧ (enter a0 a1 s).array = s.array ∧
    (enter a0 a1 s).outs = s.outs ∧ (enter a0 a1 s).proc = s.proc ∧ (enter a0 a1 s).test = s.test ∧
    (enter a0 a1 s).net = s.net ∧ (enter a0 a1 s).time = s.time ∧ (enter a0 a1 s).draws = s.draws := by
  simp [enter]

@[simp] theorem uncount_keeps (a0) (s : State) :
    (uncount a0 s).pending = s.pending ∧ (uncount a0 s).ctl = s.ctl ∧ (uncount a0 s).power = s.power ∧
    (uncount a0 s).fuses = s.fuses ∧ (uncount a0 s).cfg = s.cfg ∧ (uncount a0 s).dict = s.dict ∧
    (uncount a0 s).field = s.field ∧ (uncount a0 s).pairs = s.pairs ∧ (uncount a0 s).array = s.array ∧
    (uncount a0 s).outs = s.outs ∧ (uncount a0 s).proc = s.proc ∧ (uncount a0 s).breach = s.breach ∧
    (uncount a0 s).test = s.test ∧ (uncount a0 s).net = s.net ∧ (uncount a0 s).led = s.led ∧
    (uncount a0 s).time = s.time ∧ (uncount a0 s).draws = s.draws := by
  simp [uncount]

@[simp] theorem unrecover_keeps (a0) (s : State) :
    (unrecover a0 s).pending = s.pending ∧ (unrecover a0 s).ctl = s.ctl ∧ (unrecover a0 s).power = s.power ∧
    (unrecover a0 s).fuses = s.fuses ∧ (unrecover a0 s).cfg = s.cfg ∧ (unrecover a0 s).dict = s.dict ∧
    (unrecover a0 s).field = s.field ∧ (unrecover a0 s).pairs = s.pairs ∧ (unrecover a0 s).array = s.array ∧
    (unrecover a0 s).outs = s.outs ∧ (unrecover a0 s).proc = s.proc ∧ (unrecover a0 s).test = s.test ∧
    (unrecover a0 s).net = s.net ∧ (unrecover a0 s).time = s.time ∧ (unrecover a0 s).draws = s.draws := by
  simp [unrecover]

@[simp] theorem reactAtOnce_keeps (a0) (a1) (s : State) :
    (reactAtOnce a0 a1 s).pending = s.pending ∧ (reactAtOnce a0 a1 s).power = s.power ∧
    (reactAtOnce a0 a1 s).fuses = s.fuses ∧ (reactAtOnce a0 a1 s).cfg = s.cfg ∧
    (reactAtOnce a0 a1 s).dict = s.dict ∧ (reactAtOnce a0 a1 s).field = s.field ∧
    (reactAtOnce a0 a1 s).pairs = s.pairs ∧ (reactAtOnce a0 a1 s).array = s.array ∧
    (reactAtOnce a0 a1 s).outs = s.outs ∧ (reactAtOnce a0 a1 s).breach = s.breach ∧
    (reactAtOnce a0 a1 s).test = s.test ∧ (reactAtOnce a0 a1 s).net = s.net ∧ (reactAtOnce a0 a1 s).led = s.led ∧
    (reactAtOnce a0 a1 s).time = s.time ∧ (reactAtOnce a0 a1 s).draws = s.draws := by
  simp [reactAtOnce]

@[simp] theorem takeIn_keeps (a0) (a1) (s : State) :
    (takeIn a0 a1 s).pending = s.pending ∧ (takeIn a0 a1 s).power = s.power ∧ (takeIn a0 a1 s).fuses = s.fuses ∧
    (takeIn a0 a1 s).cfg = s.cfg ∧ (takeIn a0 a1 s).dict = s.dict ∧ (takeIn a0 a1 s).field = s.field ∧
    (takeIn a0 a1 s).pairs = s.pairs ∧ (takeIn a0 a1 s).array = s.array ∧ (takeIn a0 a1 s).outs = s.outs ∧
    (takeIn a0 a1 s).test = s.test ∧ (takeIn a0 a1 s).net = s.net ∧ (takeIn a0 a1 s).time = s.time ∧
    (takeIn a0 a1 s).draws = s.draws := by
  simp [takeIn]

@[simp] theorem takeOver_keeps (a0) (a1) (s : State) :
    (takeOver a0 a1 s).pending = s.pending ∧ (takeOver a0 a1 s).power = s.power ∧
    (takeOver a0 a1 s).fuses = s.fuses ∧ (takeOver a0 a1 s).cfg = s.cfg ∧ (takeOver a0 a1 s).dict = s.dict ∧
    (takeOver a0 a1 s).field = s.field ∧ (takeOver a0 a1 s).pairs = s.pairs ∧ (takeOver a0 a1 s).array = s.array ∧
    (takeOver a0 a1 s).outs = s.outs ∧ (takeOver a0 a1 s).test = s.test ∧ (takeOver a0 a1 s).net = s.net ∧
    (takeOver a0 a1 s).time = s.time ∧ (takeOver a0 a1 s).draws = s.draws := by
  simp [takeOver]

@[simp] theorem take_keeps (a0) (a1) (s : State) :
    (take a0 a1 s).pending = s.pending ∧ (take a0 a1 s).power = s.power ∧ (take a0 a1 s).fuses = s.fuses ∧
    (take a0 a1 s).cfg = s.cfg ∧ (take a0 a1 s).dict = s.dict ∧ (take a0 a1 s).field = s.field ∧
    (take a0 a1 s).pairs = s.pairs ∧ (take a0 a1 s).array = s.array ∧ (take a0 a1 s).outs = s.outs ∧
    (take a0 a1 s).test = s.test ∧ (take a0 a1 s).net = s.net ∧ (take a0 a1 s).time = s.time ∧
    (take a0 a1 s).draws = s.draws := by
  simp [take]

@[simp] theorem coreBack_keeps (s : State) :
    (coreBack s).pending = s.pending ∧ (coreBack s).ctl = s.ctl ∧ (coreBack s).power = s.power ∧
    (coreBack s).fuses = s.fuses ∧ (coreBack s).cfg = s.cfg ∧ (coreBack s).dict = s.dict ∧
    (coreBack s).field = s.field ∧ (coreBack s).pairs = s.pairs ∧ (coreBack s).array = s.array ∧
    (coreBack s).outs = s.outs ∧ (coreBack s).col = s.col ∧ (coreBack s).breach = s.breach ∧
    (coreBack s).test = s.test ∧ (coreBack s).net = s.net ∧ (coreBack s).led = s.led ∧ (coreBack s).time = s.time ∧
    (coreBack s).draws = s.draws := by
  simp [coreBack]

@[simp] theorem clearRecords_keeps (a0) (a1) (s : State) :
    (clearRecords a0 a1 s).pending = s.pending ∧ (clearRecords a0 a1 s).ctl = s.ctl ∧
    (clearRecords a0 a1 s).power = s.power ∧ (clearRecords a0 a1 s).fuses = s.fuses ∧
    (clearRecords a0 a1 s).cfg = s.cfg ∧ (clearRecords a0 a1 s).dict = s.dict ∧
    (clearRecords a0 a1 s).field = s.field ∧ (clearRecords a0 a1 s).pairs = s.pairs ∧
    (clearRecords a0 a1 s).array = s.array ∧ (clearRecords a0 a1 s).outs = s.outs ∧
    (clearRecords a0 a1 s).test = s.test ∧ (clearRecords a0 a1 s).net = s.net ∧
    (clearRecords a0 a1 s).time = s.time ∧ (clearRecords a0 a1 s).draws = s.draws := by
  simp [clearRecords]

@[simp] theorem gone_keeps (a0) (a1) (s : State) :
    (gone a0 a1 s).pending = s.pending ∧ (gone a0 a1 s).ctl = s.ctl ∧ (gone a0 a1 s).power = s.power ∧
    (gone a0 a1 s).fuses = s.fuses ∧ (gone a0 a1 s).cfg = s.cfg ∧ (gone a0 a1 s).dict = s.dict ∧
    (gone a0 a1 s).field = s.field ∧ (gone a0 a1 s).pairs = s.pairs ∧ (gone a0 a1 s).array = s.array ∧
    (gone a0 a1 s).outs = s.outs ∧ (gone a0 a1 s).test = s.test ∧ (gone a0 a1 s).net = s.net ∧
    (gone a0 a1 s).time = s.time ∧ (gone a0 a1 s).draws = s.draws := by
  simp [gone]

@[simp] theorem supersede_keeps (a0) (s : State) :
    (supersede a0 s).pending = s.pending ∧ (supersede a0 s).ctl = s.ctl ∧ (supersede a0 s).power = s.power ∧
    (supersede a0 s).fuses = s.fuses ∧ (supersede a0 s).cfg = s.cfg ∧ (supersede a0 s).dict = s.dict ∧
    (supersede a0 s).field = s.field ∧ (supersede a0 s).pairs = s.pairs ∧ (supersede a0 s).array = s.array ∧
    (supersede a0 s).outs = s.outs ∧ (supersede a0 s).test = s.test ∧ (supersede a0 s).net = s.net ∧
    (supersede a0 s).time = s.time ∧ (supersede a0 s).draws = s.draws := by
  simp [supersede]

@[simp] theorem modCore_keeps (a0) (a1) (s : State) :
    (modCore a0 a1 s).pending = s.pending ∧ (modCore a0 a1 s).ctl = s.ctl ∧ (modCore a0 a1 s).power = s.power ∧
    (modCore a0 a1 s).fuses = s.fuses ∧ (modCore a0 a1 s).cfg = s.cfg ∧ (modCore a0 a1 s).dict = s.dict ∧
    (modCore a0 a1 s).field = s.field ∧ (modCore a0 a1 s).pairs = s.pairs ∧ (modCore a0 a1 s).array = s.array ∧
    (modCore a0 a1 s).outs = s.outs ∧ (modCore a0 a1 s).col = s.col ∧ (modCore a0 a1 s).breach = s.breach ∧
    (modCore a0 a1 s).test = s.test ∧ (modCore a0 a1 s).net = s.net ∧ (modCore a0 a1 s).led = s.led ∧
    (modCore a0 a1 s).time = s.time ∧ (modCore a0 a1 s).draws = s.draws := by
  simp [modCore]

@[simp] theorem modTcm_keeps (a0) (a1) (s : State) :
    (modTcm a0 a1 s).pending = s.pending ∧ (modTcm a0 a1 s).ctl = s.ctl ∧ (modTcm a0 a1 s).power = s.power ∧
    (modTcm a0 a1 s).fuses = s.fuses ∧ (modTcm a0 a1 s).cfg = s.cfg ∧ (modTcm a0 a1 s).dict = s.dict ∧
    (modTcm a0 a1 s).field = s.field ∧ (modTcm a0 a1 s).pairs = s.pairs ∧ (modTcm a0 a1 s).array = s.array ∧
    (modTcm a0 a1 s).outs = s.outs ∧ (modTcm a0 a1 s).col = s.col ∧ (modTcm a0 a1 s).breach = s.breach ∧
    (modTcm a0 a1 s).test = s.test ∧ (modTcm a0 a1 s).net = s.net ∧ (modTcm a0 a1 s).led = s.led ∧
    (modTcm a0 a1 s).time = s.time ∧ (modTcm a0 a1 s).draws = s.draws := by
  simp [modTcm]

@[simp] theorem modPart_keeps (a0) (a1) (s : State) :
    (modPart a0 a1 s).pending = s.pending ∧ (modPart a0 a1 s).ctl = s.ctl ∧ (modPart a0 a1 s).power = s.power ∧
    (modPart a0 a1 s).fuses = s.fuses ∧ (modPart a0 a1 s).cfg = s.cfg ∧ (modPart a0 a1 s).dict = s.dict ∧
    (modPart a0 a1 s).field = s.field ∧ (modPart a0 a1 s).pairs = s.pairs ∧ (modPart a0 a1 s).array = s.array ∧
    (modPart a0 a1 s).outs = s.outs ∧ (modPart a0 a1 s).col = s.col ∧ (modPart a0 a1 s).breach = s.breach ∧
    (modPart a0 a1 s).test = s.test ∧ (modPart a0 a1 s).net = s.net ∧ (modPart a0 a1 s).led = s.led ∧
    (modPart a0 a1 s).time = s.time ∧ (modPart a0 a1 s).draws = s.draws := by
  simp [modPart]

@[simp] theorem modPerf_keeps (a0) (a1) (s : State) :
    (modPerf a0 a1 s).pending = s.pending ∧ (modPerf a0 a1 s).ctl = s.ctl ∧ (modPerf a0 a1 s).power = s.power ∧
    (modPerf a0 a1 s).fuses = s.fuses ∧ (modPerf a0 a1 s).cfg = s.cfg ∧ (modPerf a0 a1 s).dict = s.dict ∧
    (modPerf a0 a1 s).field = s.field ∧ (modPerf a0 a1 s).pairs = s.pairs ∧ (modPerf a0 a1 s).array = s.array ∧
    (modPerf a0 a1 s).outs = s.outs ∧ (modPerf a0 a1 s).col = s.col ∧ (modPerf a0 a1 s).breach = s.breach ∧
    (modPerf a0 a1 s).test = s.test ∧ (modPerf a0 a1 s).net = s.net ∧ (modPerf a0 a1 s).led = s.led ∧
    (modPerf a0 a1 s).time = s.time ∧ (modPerf a0 a1 s).draws = s.draws := by
  simp [modPerf]

@[simp] theorem settleIdle_keeps (s : State) :
    (settleIdle s).pending = s.pending ∧ (settleIdle s).ctl = s.ctl ∧ (settleIdle s).power = s.power ∧
    (settleIdle s).fuses = s.fuses ∧ (settleIdle s).cfg = s.cfg ∧ (settleIdle s).dict = s.dict ∧
    (settleIdle s).field = s.field ∧ (settleIdle s).pairs = s.pairs ∧ (settleIdle s).array = s.array ∧
    (settleIdle s).outs = s.outs ∧ (settleIdle s).col = s.col ∧ (settleIdle s).breach = s.breach ∧
    (settleIdle s).test = s.test ∧ (settleIdle s).net = s.net ∧ (settleIdle s).led = s.led ∧
    (settleIdle s).time = s.time ∧ (settleIdle s).draws = s.draws := by
  unfold settleIdle
  split <;> simp

@[simp] theorem retire_keeps (a0) (a1) (s : State) :
    (retire a0 a1 s).pending = s.pending ∧ (retire a0 a1 s).ctl = s.ctl ∧ (retire a0 a1 s).power = s.power ∧
    (retire a0 a1 s).fuses = s.fuses ∧ (retire a0 a1 s).cfg = s.cfg ∧ (retire a0 a1 s).dict = s.dict ∧
    (retire a0 a1 s).field = s.field ∧ (retire a0 a1 s).pairs = s.pairs ∧ (retire a0 a1 s).array = s.array ∧
    (retire a0 a1 s).outs = s.outs ∧ (retire a0 a1 s).col = s.col ∧ (retire a0 a1 s).breach = s.breach ∧
    (retire a0 a1 s).test = s.test ∧ (retire a0 a1 s).net = s.net ∧ (retire a0 a1 s).led = s.led ∧
    (retire a0 a1 s).time = s.time := by
  simp [retire]

@[simp] theorem clearUpsets_keeps (a0) (s : State) :
    (clearUpsets a0 s).pending = s.pending ∧ (clearUpsets a0 s).ctl = s.ctl ∧ (clearUpsets a0 s).power = s.power ∧
    (clearUpsets a0 s).fuses = s.fuses ∧ (clearUpsets a0 s).cfg = s.cfg ∧ (clearUpsets a0 s).dict = s.dict ∧
    (clearUpsets a0 s).field = s.field ∧ (clearUpsets a0 s).pairs = s.pairs ∧ (clearUpsets a0 s).array = s.array ∧
    (clearUpsets a0 s).outs = s.outs ∧ (clearUpsets a0 s).col = s.col ∧ (clearUpsets a0 s).breach = s.breach ∧
    (clearUpsets a0 s).test = s.test ∧ (clearUpsets a0 s).net = s.net ∧ (clearUpsets a0 s).led = s.led ∧
    (clearUpsets a0 s).time = s.time ∧ (clearUpsets a0 s).draws = s.draws := by
  simp [clearUpsets]

@[simp] theorem mend_keeps (a0) (s : State) :
    (mend a0 s).pending = s.pending ∧ (mend a0 s).power = s.power ∧ (mend a0 s).fuses = s.fuses ∧
    (mend a0 s).cfg = s.cfg ∧ (mend a0 s).dict = s.dict ∧ (mend a0 s).field = s.field ∧
    (mend a0 s).pairs = s.pairs ∧ (mend a0 s).array = s.array ∧ (mend a0 s).outs = s.outs ∧
    (mend a0 s).test = s.test ∧ (mend a0 s).net = s.net ∧ (mend a0 s).time = s.time ∧
    (mend a0 s).draws = s.draws := by
  simp [mend]

@[simp] theorem mendFor_keeps (a0) (a1) (s : State) :
    (mendFor a0 a1 s).pending = s.pending ∧ (mendFor a0 a1 s).power = s.power ∧ (mendFor a0 a1 s).fuses = s.fuses ∧
    (mendFor a0 a1 s).cfg = s.cfg ∧ (mendFor a0 a1 s).dict = s.dict ∧ (mendFor a0 a1 s).field = s.field ∧
    (mendFor a0 a1 s).pairs = s.pairs ∧ (mendFor a0 a1 s).array = s.array ∧ (mendFor a0 a1 s).outs = s.outs ∧
    (mendFor a0 a1 s).test = s.test ∧ (mendFor a0 a1 s).net = s.net ∧ (mendFor a0 a1 s).time = s.time ∧
    (mendFor a0 a1 s).draws = s.draws := by
  simp [mendFor]

@[simp] theorem unwindOne_keeps (a0) (a1) (a2) (s : State) :
    (unwindOne a0 a1 a2 s).pending = s.pending ∧ (unwindOne a0 a1 a2 s).ctl = s.ctl ∧
    (unwindOne a0 a1 a2 s).power = s.power ∧ (unwindOne a0 a1 a2 s).fuses = s.fuses ∧
    (unwindOne a0 a1 a2 s).cfg = s.cfg ∧ (unwindOne a0 a1 a2 s).dict = s.dict ∧
    (unwindOne a0 a1 a2 s).field = s.field ∧ (unwindOne a0 a1 a2 s).pairs = s.pairs ∧
    (unwindOne a0 a1 a2 s).array = s.array ∧ (unwindOne a0 a1 a2 s).outs = s.outs ∧
    (unwindOne a0 a1 a2 s).col = s.col ∧ (unwindOne a0 a1 a2 s).breach = s.breach ∧
    (unwindOne a0 a1 a2 s).test = s.test ∧ (unwindOne a0 a1 a2 s).net = s.net ∧
    (unwindOne a0 a1 a2 s).led = s.led ∧ (unwindOne a0 a1 a2 s).time = s.time ∧
    (unwindOne a0 a1 a2 s).draws = s.draws := by
  simp [unwindOne]

@[simp] theorem startInterval_keeps (a0) (s : State) :
    (startInterval a0 s).pending = s.pending ∧ (startInterval a0 s).ctl = s.ctl ∧
    (startInterval a0 s).power = s.power ∧ (startInterval a0 s).fuses = s.fuses ∧
    (startInterval a0 s).cfg = s.cfg ∧ (startInterval a0 s).dict = s.dict ∧ (startInterval a0 s).field = s.field ∧
    (startInterval a0 s).pairs = s.pairs ∧ (startInterval a0 s).array = s.array ∧
    (startInterval a0 s).outs = s.outs ∧ (startInterval a0 s).col = s.col ∧
    (startInterval a0 s).breach = s.breach ∧ (startInterval a0 s).test = s.test ∧
    (startInterval a0 s).net = s.net ∧ (startInterval a0 s).led = s.led ∧ (startInterval a0 s).time = s.time ∧
    (startInterval a0 s).draws = s.draws := by
  simp [startInterval]

@[simp] theorem restoreTime_keeps (a0) (s : State) :
    (restoreTime a0 s).pending = s.pending ∧ (restoreTime a0 s).ctl = s.ctl ∧ (restoreTime a0 s).power = s.power ∧
    (restoreTime a0 s).fuses = s.fuses ∧ (restoreTime a0 s).cfg = s.cfg ∧ (restoreTime a0 s).dict = s.dict ∧
    (restoreTime a0 s).field = s.field ∧ (restoreTime a0 s).pairs = s.pairs ∧ (restoreTime a0 s).array = s.array ∧
    (restoreTime a0 s).outs = s.outs ∧ (restoreTime a0 s).col = s.col ∧ (restoreTime a0 s).breach = s.breach ∧
    (restoreTime a0 s).test = s.test ∧ (restoreTime a0 s).net = s.net ∧ (restoreTime a0 s).led = s.led ∧
    (restoreTime a0 s).time = s.time := by
  simp [restoreTime]

@[simp] theorem checkpointTime_keeps (a0) (s : State) :
    (checkpointTime a0 s).pending = s.pending ∧ (checkpointTime a0 s).ctl = s.ctl ∧
    (checkpointTime a0 s).power = s.power ∧ (checkpointTime a0 s).fuses = s.fuses ∧
    (checkpointTime a0 s).cfg = s.cfg ∧ (checkpointTime a0 s).dict = s.dict ∧
    (checkpointTime a0 s).field = s.field ∧ (checkpointTime a0 s).pairs = s.pairs ∧
    (checkpointTime a0 s).array = s.array ∧ (checkpointTime a0 s).outs = s.outs ∧
    (checkpointTime a0 s).col = s.col ∧ (checkpointTime a0 s).breach = s.breach ∧
    (checkpointTime a0 s).test = s.test ∧ (checkpointTime a0 s).net = s.net ∧ (checkpointTime a0 s).led = s.led ∧
    (checkpointTime a0 s).time = s.time := by
  simp [checkpointTime]

@[simp] theorem modItem_keeps (a0) (a1) (s : State) :
    (modItem a0 a1 s).pending = s.pending ∧ (modItem a0 a1 s).ctl = s.ctl ∧ (modItem a0 a1 s).power = s.power ∧
    (modItem a0 a1 s).fuses = s.fuses ∧ (modItem a0 a1 s).cfg = s.cfg ∧ (modItem a0 a1 s).dict = s.dict ∧
    (modItem a0 a1 s).field = s.field ∧ (modItem a0 a1 s).pairs = s.pairs ∧ (modItem a0 a1 s).array = s.array ∧
    (modItem a0 a1 s).outs = s.outs ∧ (modItem a0 a1 s).proc = s.proc ∧ (modItem a0 a1 s).col = s.col ∧
    (modItem a0 a1 s).breach = s.breach ∧ (modItem a0 a1 s).net = s.net ∧ (modItem a0 a1 s).led = s.led ∧
    (modItem a0 a1 s).time = s.time ∧ (modItem a0 a1 s).draws = s.draws := by
  simp [modItem]

@[simp] theorem coreDue_keeps (a0) (s : State) :
    (coreDue a0 s).pending = s.pending ∧ (coreDue a0 s).ctl = s.ctl ∧ (coreDue a0 s).power = s.power ∧
    (coreDue a0 s).fuses = s.fuses ∧ (coreDue a0 s).cfg = s.cfg ∧ (coreDue a0 s).dict = s.dict ∧
    (coreDue a0 s).field = s.field ∧ (coreDue a0 s).pairs = s.pairs ∧ (coreDue a0 s).array = s.array ∧
    (coreDue a0 s).outs = s.outs ∧ (coreDue a0 s).col = s.col ∧ (coreDue a0 s).breach = s.breach ∧
    (coreDue a0 s).net = s.net ∧ (coreDue a0 s).led = s.led ∧ (coreDue a0 s).time = s.time ∧
    (coreDue a0 s).draws = s.draws := by
  simp [coreDue]

@[simp] theorem startTest_keeps (a0) (s : State) :
    (startTest a0 s).pending = s.pending ∧ (startTest a0 s).ctl = s.ctl ∧ (startTest a0 s).power = s.power ∧
    (startTest a0 s).fuses = s.fuses ∧ (startTest a0 s).cfg = s.cfg ∧ (startTest a0 s).dict = s.dict ∧
    (startTest a0 s).field = s.field ∧ (startTest a0 s).pairs = s.pairs ∧ (startTest a0 s).array = s.array ∧
    (startTest a0 s).outs = s.outs ∧ (startTest a0 s).proc = s.proc ∧ (startTest a0 s).col = s.col ∧
    (startTest a0 s).breach = s.breach ∧ (startTest a0 s).net = s.net ∧ (startTest a0 s).led = s.led ∧
    (startTest a0 s).time = s.time ∧ (startTest a0 s).draws = s.draws := by
  simp [startTest]

@[simp] theorem abandonItem_keeps (a0) (s : State) :
    (abandonItem a0 s).pending = s.pending ∧ (abandonItem a0 s).power = s.power ∧
    (abandonItem a0 s).fuses = s.fuses ∧ (abandonItem a0 s).cfg = s.cfg ∧ (abandonItem a0 s).dict = s.dict ∧
    (abandonItem a0 s).field = s.field ∧ (abandonItem a0 s).pairs = s.pairs ∧ (abandonItem a0 s).outs = s.outs ∧
    (abandonItem a0 s).net = s.net ∧ (abandonItem a0 s).time = s.time ∧ (abandonItem a0 s).draws = s.draws := by
  simp [abandonItem]

@[simp] theorem abandonArrays_keeps (a0) (a1) (s : State) :
    (abandonArrays a0 a1 s).pending = s.pending ∧ (abandonArrays a0 a1 s).power = s.power ∧
    (abandonArrays a0 a1 s).fuses = s.fuses ∧ (abandonArrays a0 a1 s).cfg = s.cfg ∧
    (abandonArrays a0 a1 s).dict = s.dict ∧ (abandonArrays a0 a1 s).field = s.field ∧
    (abandonArrays a0 a1 s).pairs = s.pairs ∧ (abandonArrays a0 a1 s).outs = s.outs ∧
    (abandonArrays a0 a1 s).net = s.net ∧ (abandonArrays a0 a1 s).time = s.time ∧
    (abandonArrays a0 a1 s).draws = s.draws := by
  simp [abandonArrays]

@[simp] theorem takeStop_keeps (a0) (s : State) :
    (takeStop a0 s).pending = s.pending ∧ (takeStop a0 s).power = s.power ∧ (takeStop a0 s).fuses = s.fuses ∧
    (takeStop a0 s).cfg = s.cfg ∧ (takeStop a0 s).dict = s.dict ∧ (takeStop a0 s).field = s.field ∧
    (takeStop a0 s).pairs = s.pairs ∧ (takeStop a0 s).outs = s.outs ∧ (takeStop a0 s).net = s.net ∧
    (takeStop a0 s).time = s.time ∧ (takeStop a0 s).draws = s.draws := by
  simp [takeStop]

@[simp] theorem unwindAll_pending (i p l) (s : State) : (unwindAll i p l s).1.pending = s.pending := by induction l generalizing s with | nil => rfl | cons e es ih => (simp only [unwindAll]; split <;> simp [ih])

@[simp] theorem unwindAll_power (i p l) (s : State) : (unwindAll i p l s).1.power = s.power := by induction l generalizing s with | nil => rfl | cons e es ih => (simp only [unwindAll]; split <;> simp [ih])

@[simp] theorem unwindAll_fuses (i p l) (s : State) : (unwindAll i p l s).1.fuses = s.fuses := by induction l generalizing s with | nil => rfl | cons e es ih => (simp only [unwindAll]; split <;> simp [ih])

@[simp] theorem unwindAll_cfg (i p l) (s : State) : (unwindAll i p l s).1.cfg = s.cfg := by induction l generalizing s with | nil => rfl | cons e es ih => (simp only [unwindAll]; split <;> simp [ih])

@[simp] theorem unwindAll_dict (i p l) (s : State) : (unwindAll i p l s).1.dict = s.dict := by induction l generalizing s with | nil => rfl | cons e es ih => (simp only [unwindAll]; split <;> simp [ih])

@[simp] theorem unwindAll_field (i p l) (s : State) : (unwindAll i p l s).1.field = s.field := by induction l generalizing s with | nil => rfl | cons e es ih => (simp only [unwindAll]; split <;> simp [ih])

@[simp] theorem unwindAll_pairs (i p l) (s : State) : (unwindAll i p l s).1.pairs = s.pairs := by induction l generalizing s with | nil => rfl | cons e es ih => (simp only [unwindAll]; split <;> simp [ih])

@[simp] theorem unwindAll_array (i p l) (s : State) : (unwindAll i p l s).1.array = s.array := by induction l generalizing s with | nil => rfl | cons e es ih => (simp only [unwindAll]; split <;> simp [ih])

@[simp] theorem unwindAll_outs (i p l) (s : State) : (unwindAll i p l s).1.outs = s.outs := by induction l generalizing s with | nil => rfl | cons e es ih => (simp only [unwindAll]; split <;> simp [ih])

@[simp] theorem unwindAll_test (i p l) (s : State) : (unwindAll i p l s).1.test = s.test := by induction l generalizing s with | nil => rfl | cons e es ih => (simp only [unwindAll]; split <;> simp [ih])

@[simp] theorem unwindAll_net (i p l) (s : State) : (unwindAll i p l s).1.net = s.net := by induction l generalizing s with | nil => rfl | cons e es ih => (simp only [unwindAll]; split <;> simp [ih])

@[simp] theorem unwindAll_time (i p l) (s : State) : (unwindAll i p l s).1.time = s.time := by induction l generalizing s with | nil => rfl | cons e es ih => (simp only [unwindAll]; split <;> simp [ih])

@[simp] theorem unwindAll_draws (i p l) (s : State) : (unwindAll i p l s).1.draws = s.draws := by induction l generalizing s with | nil => rfl | cons e es ih => (simp only [unwindAll]; split <;> simp [ih])

@[simp] theorem unwind_keeps (a0) (a1) (s : State) :
    (unwind a0 a1 s).pending = s.pending ∧ (unwind a0 a1 s).power = s.power ∧ (unwind a0 a1 s).fuses = s.fuses ∧
    (unwind a0 a1 s).cfg = s.cfg ∧ (unwind a0 a1 s).dict = s.dict ∧ (unwind a0 a1 s).field = s.field ∧
    (unwind a0 a1 s).pairs = s.pairs ∧ (unwind a0 a1 s).outs = s.outs ∧ (unwind a0 a1 s).net = s.net ∧
    (unwind a0 a1 s).time = s.time ∧ (unwind a0 a1 s).draws = s.draws := by
  simp [unwind]

@[simp] theorem rollback_keeps (a0) (s : State) :
    (rollback a0 s).pending = s.pending ∧ (rollback a0 s).power = s.power ∧ (rollback a0 s).fuses = s.fuses ∧
    (rollback a0 s).cfg = s.cfg ∧ (rollback a0 s).dict = s.dict ∧ (rollback a0 s).field = s.field ∧
    (rollback a0 s).pairs = s.pairs ∧ (rollback a0 s).outs = s.outs ∧ (rollback a0 s).net = s.net ∧
    (rollback a0 s).time = s.time := by
  simp [rollback]

@[simp] theorem removeCore_keeps (a0) (s : State) :
    (removeCore a0 s).pending = s.pending ∧ (removeCore a0 s).ctl = s.ctl ∧ (removeCore a0 s).power = s.power ∧
    (removeCore a0 s).fuses = s.fuses ∧ (removeCore a0 s).cfg = s.cfg ∧ (removeCore a0 s).dict = s.dict ∧
    (removeCore a0 s).field = s.field ∧ (removeCore a0 s).pairs = s.pairs ∧ (removeCore a0 s).array = s.array ∧
    (removeCore a0 s).outs = s.outs ∧ (removeCore a0 s).col = s.col ∧ (removeCore a0 s).breach = s.breach ∧
    (removeCore a0 s).test = s.test ∧ (removeCore a0 s).net = s.net ∧ (removeCore a0 s).led = s.led ∧
    (removeCore a0 s).time = s.time ∧ (removeCore a0 s).draws = s.draws := by
  simp [removeCore]

@[simp] theorem ship_keeps (a0) (a1) (s : State) :
    (ship a0 a1 s).pending = s.pending ∧ (ship a0 a1 s).ctl = s.ctl ∧ (ship a0 a1 s).power = s.power ∧
    (ship a0 a1 s).fuses = s.fuses ∧ (ship a0 a1 s).cfg = s.cfg ∧ (ship a0 a1 s).dict = s.dict ∧
    (ship a0 a1 s).field = s.field ∧ (ship a0 a1 s).pairs = s.pairs ∧ (ship a0 a1 s).array = s.array ∧
    (ship a0 a1 s).outs = s.outs ∧ (ship a0 a1 s).col = s.col ∧ (ship a0 a1 s).breach = s.breach ∧
    (ship a0 a1 s).test = s.test ∧ (ship a0 a1 s).net = s.net ∧ (ship a0 a1 s).led = s.led ∧
    (ship a0 a1 s).time = s.time ∧ (ship a0 a1 s).draws = s.draws := by
  simp [ship]

@[simp] theorem readSlot_keeps (a0) (s : State) :
    (readSlot a0 s).pending = s.pending ∧ (readSlot a0 s).power = s.power ∧ (readSlot a0 s).fuses = s.fuses ∧
    (readSlot a0 s).cfg = s.cfg ∧ (readSlot a0 s).dict = s.dict ∧ (readSlot a0 s).field = s.field ∧
    (readSlot a0 s).pairs = s.pairs ∧ (readSlot a0 s).outs = s.outs ∧ (readSlot a0 s).net = s.net ∧
    (readSlot a0 s).time = s.time ∧ (readSlot a0 s).draws = s.draws := by
  simp [readSlot]

@[simp] theorem takeover_keeps (a0) (a1) (s : State) :
    (takeover a0 a1 s).pending = s.pending ∧ (takeover a0 a1 s).power = s.power ∧
    (takeover a0 a1 s).fuses = s.fuses ∧ (takeover a0 a1 s).cfg = s.cfg ∧ (takeover a0 a1 s).dict = s.dict ∧
    (takeover a0 a1 s).field = s.field ∧ (takeover a0 a1 s).pairs = s.pairs ∧ (takeover a0 a1 s).outs = s.outs ∧
    (takeover a0 a1 s).net = s.net ∧ (takeover a0 a1 s).time = s.time := by
  simp [takeover]

@[simp] theorem removeNamed_keeps (a0) (s : State) :
    (removeNamed a0 s).pending = s.pending ∧ (removeNamed a0 s).power = s.power ∧
    (removeNamed a0 s).fuses = s.fuses ∧ (removeNamed a0 s).cfg = s.cfg ∧ (removeNamed a0 s).dict = s.dict ∧
    (removeNamed a0 s).field = s.field ∧ (removeNamed a0 s).pairs = s.pairs ∧ (removeNamed a0 s).outs = s.outs ∧
    (removeNamed a0 s).net = s.net ∧ (removeNamed a0 s).time = s.time := by
  simp only [removeNamed]
  (repeat' split) <;> simp

@[simp] theorem modPending_keeps (a0) (a1) (s : State) :
    (modPending a0 a1 s).pending = s.pending ∧ (modPending a0 a1 s).ctl = s.ctl ∧
    (modPending a0 a1 s).power = s.power ∧ (modPending a0 a1 s).fuses = s.fuses ∧
    (modPending a0 a1 s).cfg = s.cfg ∧ (modPending a0 a1 s).dict = s.dict ∧ (modPending a0 a1 s).field = s.field ∧
    (modPending a0 a1 s).pairs = s.pairs ∧ (modPending a0 a1 s).array = s.array ∧
    (modPending a0 a1 s).outs = s.outs ∧ (modPending a0 a1 s).proc = s.proc ∧
    (modPending a0 a1 s).breach = s.breach ∧ (modPending a0 a1 s).test = s.test ∧
    (modPending a0 a1 s).net = s.net ∧ (modPending a0 a1 s).led = s.led ∧ (modPending a0 a1 s).time = s.time ∧
    (modPending a0 a1 s).draws = s.draws := by
  simp [modPending]

@[simp] theorem giveWay_keeps (a0) (a1) (s : State) :
    (giveWay a0 a1 s).pending = s.pending ∧ (giveWay a0 a1 s).power = s.power ∧ (giveWay a0 a1 s).fuses = s.fuses ∧
    (giveWay a0 a1 s).cfg = s.cfg ∧ (giveWay a0 a1 s).dict = s.dict ∧ (giveWay a0 a1 s).field = s.field ∧
    (giveWay a0 a1 s).pairs = s.pairs ∧ (giveWay a0 a1 s).outs = s.outs ∧ (giveWay a0 a1 s).net = s.net ∧
    (giveWay a0 a1 s).time = s.time := by
  simp only [giveWay]
  (repeat' split) <;> simp

@[simp] theorem raise_keeps (a0) (s : State) :
    (raise a0 s).pending = s.pending ∧ (raise a0 s).power = s.power ∧ (raise a0 s).fuses = s.fuses ∧
    (raise a0 s).cfg = s.cfg ∧ (raise a0 s).dict = s.dict ∧ (raise a0 s).field = s.field ∧
    (raise a0 s).pairs = s.pairs ∧ (raise a0 s).outs = s.outs ∧ (raise a0 s).net = s.net ∧
    (raise a0 s).time = s.time := by
  simp only [raise]
  (repeat' split) <;> simp

@[simp] theorem fault_keeps (a0) (a1) (s : State) :
    (fault a0 a1 s).pending = s.pending ∧ (fault a0 a1 s).power = s.power ∧ (fault a0 a1 s).fuses = s.fuses ∧
    (fault a0 a1 s).cfg = s.cfg ∧ (fault a0 a1 s).dict = s.dict ∧ (fault a0 a1 s).field = s.field ∧
    (fault a0 a1 s).pairs = s.pairs ∧ (fault a0 a1 s).outs = s.outs ∧ (fault a0 a1 s).net = s.net ∧
    (fault a0 a1 s).time = s.time := by
  simp [fault]

@[simp] theorem faultOnce_keeps (a0) (a1) (s : State) :
    (faultOnce a0 a1 s).pending = s.pending ∧ (faultOnce a0 a1 s).power = s.power ∧
    (faultOnce a0 a1 s).fuses = s.fuses ∧ (faultOnce a0 a1 s).cfg = s.cfg ∧ (faultOnce a0 a1 s).dict = s.dict ∧
    (faultOnce a0 a1 s).field = s.field ∧ (faultOnce a0 a1 s).pairs = s.pairs ∧ (faultOnce a0 a1 s).outs = s.outs ∧
    (faultOnce a0 a1 s).net = s.net ∧ (faultOnce a0 a1 s).time = s.time := by
  simp [faultOnce]

@[simp] theorem faultNew_keeps (a0) (a1) (s : State) :
    (faultNew a0 a1 s).pending = s.pending ∧ (faultNew a0 a1 s).power = s.power ∧
    (faultNew a0 a1 s).fuses = s.fuses ∧ (faultNew a0 a1 s).cfg = s.cfg ∧ (faultNew a0 a1 s).dict = s.dict ∧
    (faultNew a0 a1 s).field = s.field ∧ (faultNew a0 a1 s).pairs = s.pairs ∧ (faultNew a0 a1 s).outs = s.outs ∧
    (faultNew a0 a1 s).net = s.net ∧ (faultNew a0 a1 s).time = s.time := by
  simp [faultNew]

@[simp] theorem goneIf_keeps (a0) (a1) (s : State) :
    (goneIf a0 a1 s).pending = s.pending ∧ (goneIf a0 a1 s).ctl = s.ctl ∧ (goneIf a0 a1 s).power = s.power ∧
    (goneIf a0 a1 s).fuses = s.fuses ∧ (goneIf a0 a1 s).cfg = s.cfg ∧ (goneIf a0 a1 s).dict = s.dict ∧
    (goneIf a0 a1 s).field = s.field ∧ (goneIf a0 a1 s).pairs = s.pairs ∧ (goneIf a0 a1 s).array = s.array ∧
    (goneIf a0 a1 s).outs = s.outs ∧ (goneIf a0 a1 s).test = s.test ∧ (goneIf a0 a1 s).net = s.net ∧
    (goneIf a0 a1 s).time = s.time ∧ (goneIf a0 a1 s).draws = s.draws := by
  simp [goneIf]

@[simp] theorem mismatch_keeps (a0) (a1) (s : State) :
    (mismatch a0 a1 s).pending = s.pending ∧ (mismatch a0 a1 s).power = s.power ∧
    (mismatch a0 a1 s).fuses = s.fuses ∧ (mismatch a0 a1 s).cfg = s.cfg ∧ (mismatch a0 a1 s).dict = s.dict ∧
    (mismatch a0 a1 s).field = s.field ∧ (mismatch a0 a1 s).pairs = s.pairs ∧ (mismatch a0 a1 s).outs = s.outs ∧
    (mismatch a0 a1 s).net = s.net ∧ (mismatch a0 a1 s).time = s.time := by
  simp [mismatch]

@[simp] theorem trap_keeps (a0) (a1) (s : State) :
    (trap a0 a1 s).pending = s.pending ∧ (trap a0 a1 s).power = s.power ∧ (trap a0 a1 s).fuses = s.fuses ∧
    (trap a0 a1 s).cfg = s.cfg ∧ (trap a0 a1 s).dict = s.dict ∧ (trap a0 a1 s).field = s.field ∧
    (trap a0 a1 s).pairs = s.pairs ∧ (trap a0 a1 s).outs = s.outs ∧ (trap a0 a1 s).net = s.net ∧
    (trap a0 a1 s).time = s.time := by
  simp [trap]

@[simp] theorem mendAt_keeps (a0) (a1) (s : State) :
    (mendAt a0 a1 s).pending = s.pending ∧ (mendAt a0 a1 s).power = s.power ∧ (mendAt a0 a1 s).fuses = s.fuses ∧
    (mendAt a0 a1 s).cfg = s.cfg ∧ (mendAt a0 a1 s).dict = s.dict ∧ (mendAt a0 a1 s).field = s.field ∧
    (mendAt a0 a1 s).pairs = s.pairs ∧ (mendAt a0 a1 s).array = s.array ∧ (mendAt a0 a1 s).outs = s.outs ∧
    (mendAt a0 a1 s).test = s.test ∧ (mendAt a0 a1 s).net = s.net ∧ (mendAt a0 a1 s).time = s.time ∧
    (mendAt a0 a1 s).draws = s.draws := by
  simp only [mendAt]
  (repeat' split) <;> simp

@[simp] theorem storeMem_keeps (a0) (a1) (a2) (a3) (s : State) :
    (storeMem a0 a1 a2 a3 s).pending = s.pending ∧ (storeMem a0 a1 a2 a3 s).power = s.power ∧
    (storeMem a0 a1 a2 a3 s).fuses = s.fuses ∧ (storeMem a0 a1 a2 a3 s).cfg = s.cfg ∧
    (storeMem a0 a1 a2 a3 s).dict = s.dict ∧ (storeMem a0 a1 a2 a3 s).field = s.field ∧
    (storeMem a0 a1 a2 a3 s).pairs = s.pairs ∧ (storeMem a0 a1 a2 a3 s).array = s.array ∧
    (storeMem a0 a1 a2 a3 s).outs = s.outs ∧ (storeMem a0 a1 a2 a3 s).test = s.test ∧
    (storeMem a0 a1 a2 a3 s).net = s.net ∧ (storeMem a0 a1 a2 a3 s).time = s.time ∧
    (storeMem a0 a1 a2 a3 s).draws = s.draws := by
  simp only [storeMem]
  (repeat' split) <;> simp

@[simp] theorem skewIn_keeps (a0) (a1) (s : State) :
    (skewIn a0 a1 s).pending = s.pending ∧ (skewIn a0 a1 s).ctl = s.ctl ∧ (skewIn a0 a1 s).power = s.power ∧
    (skewIn a0 a1 s).fuses = s.fuses ∧ (skewIn a0 a1 s).cfg = s.cfg ∧ (skewIn a0 a1 s).dict = s.dict ∧
    (skewIn a0 a1 s).field = s.field ∧ (skewIn a0 a1 s).pairs = s.pairs ∧ (skewIn a0 a1 s).array = s.array ∧
    (skewIn a0 a1 s).outs = s.outs ∧ (skewIn a0 a1 s).col = s.col ∧ (skewIn a0 a1 s).breach = s.breach ∧
    (skewIn a0 a1 s).test = s.test ∧ (skewIn a0 a1 s).net = s.net ∧ (skewIn a0 a1 s).led = s.led ∧
    (skewIn a0 a1 s).time = s.time ∧ (skewIn a0 a1 s).draws = s.draws := by
  simp [skewIn]

@[simp] theorem issue_pending (i k b f) (s : State) (h : ∀ t, (f t).pending = t.pending) : (issue i k b f s).pending = s.pending := by
  simp only [issue]; (repeat' split) <;> simp [h]

@[simp] theorem issue_power (i k b f) (s : State) (h : ∀ t, (f t).power = t.power) : (issue i k b f s).power = s.power := by
  simp only [issue]; (repeat' split) <;> simp [h]

@[simp] theorem issue_fuses (i k b f) (s : State) (h : ∀ t, (f t).fuses = t.fuses) : (issue i k b f s).fuses = s.fuses := by
  simp only [issue]; (repeat' split) <;> simp [h]

@[simp] theorem issue_cfg (i k b f) (s : State) (h : ∀ t, (f t).cfg = t.cfg) : (issue i k b f s).cfg = s.cfg := by
  simp only [issue]; (repeat' split) <;> simp [h]

@[simp] theorem issue_dict (i k b f) (s : State) (h : ∀ t, (f t).dict = t.dict) : (issue i k b f s).dict = s.dict := by
  simp only [issue]; (repeat' split) <;> simp [h]

@[simp] theorem issue_field (i k b f) (s : State) (h : ∀ t, (f t).field = t.field) : (issue i k b f s).field = s.field := by
  simp only [issue]; (repeat' split) <;> simp [h]

@[simp] theorem issue_pairs (i k b f) (s : State) (h : ∀ t, (f t).pairs = t.pairs) : (issue i k b f s).pairs = s.pairs := by
  simp only [issue]; (repeat' split) <;> simp [h]

@[simp] theorem issue_outs (i k b f) (s : State) (h : ∀ t, (f t).outs = t.outs) : (issue i k b f s).outs = s.outs := by
  simp only [issue]; (repeat' split) <;> simp [h]

@[simp] theorem issue_net (i k b f) (s : State) (h : ∀ t, (f t).net = t.net) : (issue i k b f s).net = s.net := by
  simp only [issue]; (repeat' split) <;> simp [h]

@[simp] theorem issue_time (i k b f) (s : State) (h : ∀ t, (f t).time = t.time) : (issue i k b f s).time = s.time := by
  simp only [issue]; (repeat' split) <;> simp [h]

@[simp] theorem stepPc_keeps (a0) (a1) (s : State) :
    (stepPc a0 a1 s).pending = s.pending ∧ (stepPc a0 a1 s).ctl = s.ctl ∧ (stepPc a0 a1 s).power = s.power ∧
    (stepPc a0 a1 s).fuses = s.fuses ∧ (stepPc a0 a1 s).cfg = s.cfg ∧ (stepPc a0 a1 s).dict = s.dict ∧
    (stepPc a0 a1 s).field = s.field ∧ (stepPc a0 a1 s).pairs = s.pairs ∧ (stepPc a0 a1 s).array = s.array ∧
    (stepPc a0 a1 s).outs = s.outs ∧ (stepPc a0 a1 s).col = s.col ∧ (stepPc a0 a1 s).breach = s.breach ∧
    (stepPc a0 a1 s).test = s.test ∧ (stepPc a0 a1 s).net = s.net ∧ (stepPc a0 a1 s).led = s.led ∧
    (stepPc a0 a1 s).time = s.time ∧ (stepPc a0 a1 s).draws = s.draws := by
  simp [stepPc]

@[simp] theorem setReg_keeps (a0) (a1) (a2) (a3) (s : State) :
    (setReg a0 a1 a2 a3 s).pending = s.pending ∧ (setReg a0 a1 a2 a3 s).ctl = s.ctl ∧
    (setReg a0 a1 a2 a3 s).power = s.power ∧ (setReg a0 a1 a2 a3 s).fuses = s.fuses ∧
    (setReg a0 a1 a2 a3 s).cfg = s.cfg ∧ (setReg a0 a1 a2 a3 s).dict = s.dict ∧
    (setReg a0 a1 a2 a3 s).field = s.field ∧ (setReg a0 a1 a2 a3 s).pairs = s.pairs ∧
    (setReg a0 a1 a2 a3 s).array = s.array ∧ (setReg a0 a1 a2 a3 s).outs = s.outs ∧
    (setReg a0 a1 a2 a3 s).col = s.col ∧ (setReg a0 a1 a2 a3 s).breach = s.breach ∧
    (setReg a0 a1 a2 a3 s).test = s.test ∧ (setReg a0 a1 a2 a3 s).net = s.net ∧
    (setReg a0 a1 a2 a3 s).led = s.led ∧ (setReg a0 a1 a2 a3 s).time = s.time ∧
    (setReg a0 a1 a2 a3 s).draws = s.draws := by
  simp [setReg]

@[simp] theorem alu_keeps (a0) (a1) (a2) (a3) (a4) (a5) (a6) (a7) (a8) (s : State) :
    (alu a0 a1 a2 a3 a4 a5 a6 a7 a8 s).pending = s.pending ∧ (alu a0 a1 a2 a3 a4 a5 a6 a7 a8 s).power = s.power ∧
    (alu a0 a1 a2 a3 a4 a5 a6 a7 a8 s).fuses = s.fuses ∧ (alu a0 a1 a2 a3 a4 a5 a6 a7 a8 s).cfg = s.cfg ∧
    (alu a0 a1 a2 a3 a4 a5 a6 a7 a8 s).dict = s.dict ∧ (alu a0 a1 a2 a3 a4 a5 a6 a7 a8 s).field = s.field ∧
    (alu a0 a1 a2 a3 a4 a5 a6 a7 a8 s).pairs = s.pairs ∧ (alu a0 a1 a2 a3 a4 a5 a6 a7 a8 s).outs = s.outs ∧
    (alu a0 a1 a2 a3 a4 a5 a6 a7 a8 s).net = s.net ∧ (alu a0 a1 a2 a3 a4 a5 a6 a7 a8 s).time = s.time := by
  simp [alu]

@[simp] theorem escapementFail_keeps (a0) (s : State) :
    (escapementFail a0 s).pending = s.pending ∧ (escapementFail a0 s).power = s.power ∧
    (escapementFail a0 s).fuses = s.fuses ∧ (escapementFail a0 s).cfg = s.cfg ∧
    (escapementFail a0 s).dict = s.dict ∧ (escapementFail a0 s).field = s.field ∧
    (escapementFail a0 s).pairs = s.pairs ∧ (escapementFail a0 s).outs = s.outs ∧
    (escapementFail a0 s).net = s.net ∧ (escapementFail a0 s).time = s.time := by
  simp [escapementFail]

@[simp] theorem releaseResp_keeps (a0) (a1) (s : State) :
    (releaseResp a0 a1 s).pending = s.pending ∧ (releaseResp a0 a1 s).power = s.power ∧
    (releaseResp a0 a1 s).fuses = s.fuses ∧ (releaseResp a0 a1 s).cfg = s.cfg ∧
    (releaseResp a0 a1 s).dict = s.dict ∧ (releaseResp a0 a1 s).field = s.field ∧
    (releaseResp a0 a1 s).pairs = s.pairs ∧ (releaseResp a0 a1 s).outs = s.outs ∧
    (releaseResp a0 a1 s).net = s.net ∧ (releaseResp a0 a1 s).time = s.time := by
  simp only [releaseResp]
  (repeat' split) <;> simp

@[simp] theorem releasePosted_keeps (a0) (a1) (a2) (s : State) :
    (releasePosted a0 a1 a2 s).pending = s.pending ∧ (releasePosted a0 a1 a2 s).power = s.power ∧
    (releasePosted a0 a1 a2 s).fuses = s.fuses ∧ (releasePosted a0 a1 a2 s).cfg = s.cfg ∧
    (releasePosted a0 a1 a2 s).dict = s.dict ∧ (releasePosted a0 a1 a2 s).field = s.field ∧
    (releasePosted a0 a1 a2 s).pairs = s.pairs ∧ (releasePosted a0 a1 a2 s).outs = s.outs ∧
    (releasePosted a0 a1 a2 s).net = s.net ∧ (releasePosted a0 a1 a2 s).time = s.time := by
  simp [releasePosted]

@[simp] theorem confirmCheckpoint_keeps (a0) (s : State) :
    (confirmCheckpoint a0 s).pending = s.pending ∧ (confirmCheckpoint a0 s).power = s.power ∧
    (confirmCheckpoint a0 s).fuses = s.fuses ∧ (confirmCheckpoint a0 s).cfg = s.cfg ∧
    (confirmCheckpoint a0 s).dict = s.dict ∧ (confirmCheckpoint a0 s).field = s.field ∧
    (confirmCheckpoint a0 s).pairs = s.pairs ∧ (confirmCheckpoint a0 s).outs = s.outs ∧
    (confirmCheckpoint a0 s).net = s.net ∧ (confirmCheckpoint a0 s).time = s.time := by
  simp [confirmCheckpoint]

@[simp] theorem modLed_keeps (a0) (s : State) :
    (modLed a0 s).pending = s.pending ∧ (modLed a0 s).ctl = s.ctl ∧ (modLed a0 s).power = s.power ∧
    (modLed a0 s).fuses = s.fuses ∧ (modLed a0 s).cfg = s.cfg ∧ (modLed a0 s).dict = s.dict ∧
    (modLed a0 s).field = s.field ∧ (modLed a0 s).pairs = s.pairs ∧ (modLed a0 s).array = s.array ∧
    (modLed a0 s).outs = s.outs ∧ (modLed a0 s).proc = s.proc ∧ (modLed a0 s).col = s.col ∧
    (modLed a0 s).breach = s.breach ∧ (modLed a0 s).test = s.test ∧ (modLed a0 s).net = s.net ∧
    (modLed a0 s).time = s.time ∧ (modLed a0 s).draws = s.draws := by
  simp [modLed]

@[simp] theorem nandDo_keeps (a0) (s : State) :
    (nandDo a0 s).pending = s.pending ∧ (nandDo a0 s).ctl = s.ctl ∧ (nandDo a0 s).power = s.power ∧
    (nandDo a0 s).fuses = s.fuses ∧ (nandDo a0 s).cfg = s.cfg ∧ (nandDo a0 s).dict = s.dict ∧
    (nandDo a0 s).field = s.field ∧ (nandDo a0 s).pairs = s.pairs ∧ (nandDo a0 s).array = s.array ∧
    (nandDo a0 s).outs = s.outs ∧ (nandDo a0 s).proc = s.proc ∧ (nandDo a0 s).col = s.col ∧
    (nandDo a0 s).breach = s.breach ∧ (nandDo a0 s).test = s.test ∧ (nandDo a0 s).net = s.net ∧
    (nandDo a0 s).time = s.time ∧ (nandDo a0 s).draws = s.draws := by
  simp [nandDo]

@[simp] theorem modTables_keeps (a0) (s : State) :
    (modTables a0 s).pending = s.pending ∧ (modTables a0 s).ctl = s.ctl ∧ (modTables a0 s).power = s.power ∧
    (modTables a0 s).fuses = s.fuses ∧ (modTables a0 s).cfg = s.cfg ∧ (modTables a0 s).dict = s.dict ∧
    (modTables a0 s).field = s.field ∧ (modTables a0 s).pairs = s.pairs ∧ (modTables a0 s).array = s.array ∧
    (modTables a0 s).outs = s.outs ∧ (modTables a0 s).proc = s.proc ∧ (modTables a0 s).col = s.col ∧
    (modTables a0 s).breach = s.breach ∧ (modTables a0 s).test = s.test ∧ (modTables a0 s).net = s.net ∧
    (modTables a0 s).time = s.time ∧ (modTables a0 s).draws = s.draws := by
  simp [modTables]

@[simp] theorem eraseBlocks_keeps (a0) (s : State) :
    (eraseBlocks a0 s).pending = s.pending ∧ (eraseBlocks a0 s).ctl = s.ctl ∧ (eraseBlocks a0 s).power = s.power ∧
    (eraseBlocks a0 s).fuses = s.fuses ∧ (eraseBlocks a0 s).cfg = s.cfg ∧ (eraseBlocks a0 s).dict = s.dict ∧
    (eraseBlocks a0 s).field = s.field ∧ (eraseBlocks a0 s).pairs = s.pairs ∧ (eraseBlocks a0 s).array = s.array ∧
    (eraseBlocks a0 s).outs = s.outs ∧ (eraseBlocks a0 s).proc = s.proc ∧ (eraseBlocks a0 s).col = s.col ∧
    (eraseBlocks a0 s).breach = s.breach ∧ (eraseBlocks a0 s).test = s.test ∧ (eraseBlocks a0 s).net = s.net ∧
    (eraseBlocks a0 s).time = s.time ∧ (eraseBlocks a0 s).draws = s.draws := by
  simp [eraseBlocks]

@[simp] theorem setSlot_keeps (a0) (a1) (s : State) :
    (setSlot a0 a1 s).pending = s.pending ∧ (setSlot a0 a1 s).ctl = s.ctl ∧ (setSlot a0 a1 s).power = s.power ∧
    (setSlot a0 a1 s).fuses = s.fuses ∧ (setSlot a0 a1 s).cfg = s.cfg ∧ (setSlot a0 a1 s).dict = s.dict ∧
    (setSlot a0 a1 s).field = s.field ∧ (setSlot a0 a1 s).pairs = s.pairs ∧ (setSlot a0 a1 s).array = s.array ∧
    (setSlot a0 a1 s).outs = s.outs ∧ (setSlot a0 a1 s).proc = s.proc ∧ (setSlot a0 a1 s).col = s.col ∧
    (setSlot a0 a1 s).breach = s.breach ∧ (setSlot a0 a1 s).test = s.test ∧ (setSlot a0 a1 s).net = s.net ∧
    (setSlot a0 a1 s).time = s.time ∧ (setSlot a0 a1 s).draws = s.draws := by
  simp [setSlot]

@[simp] theorem slotBegin_keeps (s : State) :
    (slotBegin s).pending = s.pending ∧ (slotBegin s).ctl = s.ctl ∧ (slotBegin s).power = s.power ∧
    (slotBegin s).fuses = s.fuses ∧ (slotBegin s).cfg = s.cfg ∧ (slotBegin s).dict = s.dict ∧
    (slotBegin s).field = s.field ∧ (slotBegin s).pairs = s.pairs ∧ (slotBegin s).array = s.array ∧
    (slotBegin s).outs = s.outs ∧ (slotBegin s).proc = s.proc ∧ (slotBegin s).col = s.col ∧
    (slotBegin s).breach = s.breach ∧ (slotBegin s).test = s.test ∧ (slotBegin s).net = s.net ∧
    (slotBegin s).time = s.time ∧ (slotBegin s).draws = s.draws := by
  simp [slotBegin]

@[simp] theorem pinAdvance_keeps (s : State) :
    (pinAdvance s).pending = s.pending ∧ (pinAdvance s).ctl = s.ctl ∧ (pinAdvance s).power = s.power ∧
    (pinAdvance s).fuses = s.fuses ∧ (pinAdvance s).cfg = s.cfg ∧ (pinAdvance s).dict = s.dict ∧
    (pinAdvance s).field = s.field ∧ (pinAdvance s).pairs = s.pairs ∧ (pinAdvance s).array = s.array ∧
    (pinAdvance s).outs = s.outs ∧ (pinAdvance s).proc = s.proc ∧ (pinAdvance s).col = s.col ∧
    (pinAdvance s).breach = s.breach ∧ (pinAdvance s).test = s.test ∧ (pinAdvance s).net = s.net ∧
    (pinAdvance s).time = s.time ∧ (pinAdvance s).draws = s.draws := by
  simp only [pinAdvance]
  (repeat' split) <;> simp

@[simp] theorem pinPut_keeps (a0) (a1) (s : State) :
    (pinPut a0 a1 s).pending = s.pending ∧ (pinPut a0 a1 s).ctl = s.ctl ∧ (pinPut a0 a1 s).power = s.power ∧
    (pinPut a0 a1 s).fuses = s.fuses ∧ (pinPut a0 a1 s).cfg = s.cfg ∧ (pinPut a0 a1 s).dict = s.dict ∧
    (pinPut a0 a1 s).field = s.field ∧ (pinPut a0 a1 s).pairs = s.pairs ∧ (pinPut a0 a1 s).array = s.array ∧
    (pinPut a0 a1 s).outs = s.outs ∧ (pinPut a0 a1 s).proc = s.proc ∧ (pinPut a0 a1 s).col = s.col ∧
    (pinPut a0 a1 s).breach = s.breach ∧ (pinPut a0 a1 s).test = s.test ∧ (pinPut a0 a1 s).net = s.net ∧
    (pinPut a0 a1 s).time = s.time ∧ (pinPut a0 a1 s).draws = s.draws := by
  simp [pinPut]

@[simp] theorem savePinned_keeps (a0) (s : State) :
    (savePinned a0 s).pending = s.pending ∧ (savePinned a0 s).ctl = s.ctl ∧ (savePinned a0 s).power = s.power ∧
    (savePinned a0 s).fuses = s.fuses ∧ (savePinned a0 s).cfg = s.cfg ∧ (savePinned a0 s).dict = s.dict ∧
    (savePinned a0 s).field = s.field ∧ (savePinned a0 s).pairs = s.pairs ∧ (savePinned a0 s).array = s.array ∧
    (savePinned a0 s).outs = s.outs ∧ (savePinned a0 s).proc = s.proc ∧ (savePinned a0 s).col = s.col ∧
    (savePinned a0 s).breach = s.breach ∧ (savePinned a0 s).test = s.test ∧ (savePinned a0 s).net = s.net ∧
    (savePinned a0 s).time = s.time ∧ (savePinned a0 s).draws = s.draws := by
  simp [savePinned]

@[simp] theorem ringDrop_keeps (a0) (s : State) :
    (ringDrop a0 s).pending = s.pending ∧ (ringDrop a0 s).ctl = s.ctl ∧ (ringDrop a0 s).power = s.power ∧
    (ringDrop a0 s).fuses = s.fuses ∧ (ringDrop a0 s).cfg = s.cfg ∧ (ringDrop a0 s).dict = s.dict ∧
    (ringDrop a0 s).field = s.field ∧ (ringDrop a0 s).pairs = s.pairs ∧ (ringDrop a0 s).array = s.array ∧
    (ringDrop a0 s).outs = s.outs ∧ (ringDrop a0 s).proc = s.proc ∧ (ringDrop a0 s).col = s.col ∧
    (ringDrop a0 s).breach = s.breach ∧ (ringDrop a0 s).test = s.test ∧ (ringDrop a0 s).net = s.net ∧
    (ringDrop a0 s).time = s.time ∧ (ringDrop a0 s).draws = s.draws := by
  simp [ringDrop]

@[simp] theorem ringOpen_keeps (s : State) :
    (ringOpen s).pending = s.pending ∧ (ringOpen s).ctl = s.ctl ∧ (ringOpen s).power = s.power ∧
    (ringOpen s).fuses = s.fuses ∧ (ringOpen s).cfg = s.cfg ∧ (ringOpen s).dict = s.dict ∧
    (ringOpen s).field = s.field ∧ (ringOpen s).pairs = s.pairs ∧ (ringOpen s).array = s.array ∧
    (ringOpen s).outs = s.outs ∧ (ringOpen s).proc = s.proc ∧ (ringOpen s).col = s.col ∧
    (ringOpen s).breach = s.breach ∧ (ringOpen s).test = s.test ∧ (ringOpen s).net = s.net ∧
    (ringOpen s).time = s.time ∧ (ringOpen s).draws = s.draws := by
  simp [ringOpen]

@[simp] theorem ringAdvance_keeps (s : State) :
    (ringAdvance s).pending = s.pending ∧ (ringAdvance s).ctl = s.ctl ∧ (ringAdvance s).power = s.power ∧
    (ringAdvance s).fuses = s.fuses ∧ (ringAdvance s).cfg = s.cfg ∧ (ringAdvance s).dict = s.dict ∧
    (ringAdvance s).field = s.field ∧ (ringAdvance s).pairs = s.pairs ∧ (ringAdvance s).array = s.array ∧
    (ringAdvance s).outs = s.outs ∧ (ringAdvance s).proc = s.proc ∧ (ringAdvance s).col = s.col ∧
    (ringAdvance s).breach = s.breach ∧ (ringAdvance s).test = s.test ∧ (ringAdvance s).net = s.net ∧
    (ringAdvance s).time = s.time ∧ (ringAdvance s).draws = s.draws := by
  simp [ringAdvance]

@[simp] theorem ringAppend_keeps (a0) (s : State) :
    (ringAppend a0 s).pending = s.pending ∧ (ringAppend a0 s).ctl = s.ctl ∧ (ringAppend a0 s).power = s.power ∧
    (ringAppend a0 s).fuses = s.fuses ∧ (ringAppend a0 s).cfg = s.cfg ∧ (ringAppend a0 s).dict = s.dict ∧
    (ringAppend a0 s).field = s.field ∧ (ringAppend a0 s).pairs = s.pairs ∧ (ringAppend a0 s).array = s.array ∧
    (ringAppend a0 s).outs = s.outs ∧ (ringAppend a0 s).proc = s.proc ∧ (ringAppend a0 s).col = s.col ∧
    (ringAppend a0 s).breach = s.breach ∧ (ringAppend a0 s).test = s.test ∧ (ringAppend a0 s).net = s.net ∧
    (ringAppend a0 s).time = s.time ∧ (ringAppend a0 s).draws = s.draws := by
  simp [ringAppend]

@[simp] theorem paramPage_keeps (s : State) :
    (paramPage s).pending = s.pending ∧ (paramPage s).ctl = s.ctl ∧ (paramPage s).power = s.power ∧
    (paramPage s).fuses = s.fuses ∧ (paramPage s).cfg = s.cfg ∧ (paramPage s).dict = s.dict ∧
    (paramPage s).field = s.field ∧ (paramPage s).pairs = s.pairs ∧ (paramPage s).array = s.array ∧
    (paramPage s).outs = s.outs ∧ (paramPage s).proc = s.proc ∧ (paramPage s).col = s.col ∧
    (paramPage s).breach = s.breach ∧ (paramPage s).test = s.test ∧ (paramPage s).net = s.net ∧
    (paramPage s).time = s.time ∧ (paramPage s).draws = s.draws := by
  simp [paramPage]

@[simp] theorem writeSet_keeps (a0) (s : State) :
    (writeSet a0 s).pending = s.pending ∧ (writeSet a0 s).ctl = s.ctl ∧ (writeSet a0 s).power = s.power ∧
    (writeSet a0 s).fuses = s.fuses ∧ (writeSet a0 s).cfg = s.cfg ∧ (writeSet a0 s).dict = s.dict ∧
    (writeSet a0 s).field = s.field ∧ (writeSet a0 s).pairs = s.pairs ∧ (writeSet a0 s).array = s.array ∧
    (writeSet a0 s).outs = s.outs ∧ (writeSet a0 s).proc = s.proc ∧ (writeSet a0 s).col = s.col ∧
    (writeSet a0 s).breach = s.breach ∧ (writeSet a0 s).test = s.test ∧ (writeSet a0 s).net = s.net ∧
    (writeSet a0 s).time = s.time ∧ (writeSet a0 s).draws = s.draws := by
  simp [writeSet]

@[simp] theorem writeDelta_keeps (s : State) :
    (writeDelta s).pending = s.pending ∧ (writeDelta s).ctl = s.ctl ∧ (writeDelta s).power = s.power ∧
    (writeDelta s).fuses = s.fuses ∧ (writeDelta s).cfg = s.cfg ∧ (writeDelta s).dict = s.dict ∧
    (writeDelta s).field = s.field ∧ (writeDelta s).pairs = s.pairs ∧ (writeDelta s).array = s.array ∧
    (writeDelta s).outs = s.outs ∧ (writeDelta s).proc = s.proc ∧ (writeDelta s).col = s.col ∧
    (writeDelta s).breach = s.breach ∧ (writeDelta s).test = s.test ∧ (writeDelta s).net = s.net ∧
    (writeDelta s).time = s.time ∧ (writeDelta s).draws = s.draws := by
  simp [writeDelta]

@[simp] theorem countDeferred_keeps (s : State) :
    (countDeferred s).pending = s.pending ∧ (countDeferred s).ctl = s.ctl ∧ (countDeferred s).power = s.power ∧
    (countDeferred s).fuses = s.fuses ∧ (countDeferred s).cfg = s.cfg ∧ (countDeferred s).dict = s.dict ∧
    (countDeferred s).field = s.field ∧ (countDeferred s).pairs = s.pairs ∧ (countDeferred s).array = s.array ∧
    (countDeferred s).outs = s.outs ∧ (countDeferred s).proc = s.proc ∧ (countDeferred s).test = s.test ∧
    (countDeferred s).net = s.net ∧ (countDeferred s).time = s.time ∧ (countDeferred s).draws = s.draws := by
  simp [countDeferred]

@[simp] theorem persist_keeps (s : State) :
    (persist s).pending = s.pending ∧ (persist s).ctl = s.ctl ∧ (persist s).power = s.power ∧
    (persist s).fuses = s.fuses ∧ (persist s).cfg = s.cfg ∧ (persist s).dict = s.dict ∧
    (persist s).field = s.field ∧ (persist s).pairs = s.pairs ∧ (persist s).array = s.array ∧
    (persist s).outs = s.outs ∧ (persist s).proc = s.proc ∧ (persist s).test = s.test ∧ (persist s).net = s.net ∧
    (persist s).time = s.time ∧ (persist s).draws = s.draws := by
  simp [persist]

@[simp] theorem markDirty_keeps (s : State) :
    (markDirty s).pending = s.pending ∧ (markDirty s).ctl = s.ctl ∧ (markDirty s).power = s.power ∧
    (markDirty s).fuses = s.fuses ∧ (markDirty s).cfg = s.cfg ∧ (markDirty s).dict = s.dict ∧
    (markDirty s).field = s.field ∧ (markDirty s).pairs = s.pairs ∧ (markDirty s).array = s.array ∧
    (markDirty s).outs = s.outs ∧ (markDirty s).proc = s.proc ∧ (markDirty s).test = s.test ∧
    (markDirty s).net = s.net ∧ (markDirty s).time = s.time ∧ (markDirty s).draws = s.draws := by
  simp [markDirty]

@[simp] theorem flushStart_keeps (a0) (s : State) :
    (flushStart a0 s).pending = s.pending ∧ (flushStart a0 s).ctl = s.ctl ∧ (flushStart a0 s).power = s.power ∧
    (flushStart a0 s).fuses = s.fuses ∧ (flushStart a0 s).cfg = s.cfg ∧ (flushStart a0 s).dict = s.dict ∧
    (flushStart a0 s).field = s.field ∧ (flushStart a0 s).pairs = s.pairs ∧ (flushStart a0 s).array = s.array ∧
    (flushStart a0 s).outs = s.outs ∧ (flushStart a0 s).proc = s.proc ∧ (flushStart a0 s).col = s.col ∧
    (flushStart a0 s).breach = s.breach ∧ (flushStart a0 s).test = s.test ∧ (flushStart a0 s).net = s.net ∧
    (flushStart a0 s).time = s.time ∧ (flushStart a0 s).draws = s.draws := by
  simp [flushStart]

@[simp] theorem flushEnd_keeps (s : State) :
    (flushEnd s).pending = s.pending ∧ (flushEnd s).ctl = s.ctl ∧ (flushEnd s).power = s.power ∧
    (flushEnd s).fuses = s.fuses ∧ (flushEnd s).cfg = s.cfg ∧ (flushEnd s).dict = s.dict ∧
    (flushEnd s).field = s.field ∧ (flushEnd s).pairs = s.pairs ∧ (flushEnd s).array = s.array ∧
    (flushEnd s).outs = s.outs ∧ (flushEnd s).proc = s.proc ∧ (flushEnd s).test = s.test ∧
    (flushEnd s).net = s.net ∧ (flushEnd s).time = s.time ∧ (flushEnd s).draws = s.draws := by
  simp [flushEnd]

@[simp] theorem ledgerNote_keeps (a0) (a1) (a2) (a3) (s : State) :
    (ledgerNote a0 a1 a2 a3 s).pending = s.pending ∧ (ledgerNote a0 a1 a2 a3 s).ctl = s.ctl ∧
    (ledgerNote a0 a1 a2 a3 s).power = s.power ∧ (ledgerNote a0 a1 a2 a3 s).fuses = s.fuses ∧
    (ledgerNote a0 a1 a2 a3 s).cfg = s.cfg ∧ (ledgerNote a0 a1 a2 a3 s).dict = s.dict ∧
    (ledgerNote a0 a1 a2 a3 s).field = s.field ∧ (ledgerNote a0 a1 a2 a3 s).pairs = s.pairs ∧
    (ledgerNote a0 a1 a2 a3 s).array = s.array ∧ (ledgerNote a0 a1 a2 a3 s).outs = s.outs ∧
    (ledgerNote a0 a1 a2 a3 s).proc = s.proc ∧ (ledgerNote a0 a1 a2 a3 s).test = s.test ∧
    (ledgerNote a0 a1 a2 a3 s).net = s.net ∧ (ledgerNote a0 a1 a2 a3 s).time = s.time ∧
    (ledgerNote a0 a1 a2 a3 s).draws = s.draws := by
  simp [ledgerNote]

@[simp] theorem pinNote_keeps (a0) (a1) (a2) (a3) (s : State) :
    (pinNote a0 a1 a2 a3 s).pending = s.pending ∧ (pinNote a0 a1 a2 a3 s).ctl = s.ctl ∧
    (pinNote a0 a1 a2 a3 s).power = s.power ∧ (pinNote a0 a1 a2 a3 s).fuses = s.fuses ∧
    (pinNote a0 a1 a2 a3 s).cfg = s.cfg ∧ (pinNote a0 a1 a2 a3 s).dict = s.dict ∧
    (pinNote a0 a1 a2 a3 s).field = s.field ∧ (pinNote a0 a1 a2 a3 s).pairs = s.pairs ∧
    (pinNote a0 a1 a2 a3 s).array = s.array ∧ (pinNote a0 a1 a2 a3 s).outs = s.outs ∧
    (pinNote a0 a1 a2 a3 s).proc = s.proc ∧ (pinNote a0 a1 a2 a3 s).test = s.test ∧
    (pinNote a0 a1 a2 a3 s).net = s.net ∧ (pinNote a0 a1 a2 a3 s).time = s.time ∧
    (pinNote a0 a1 a2 a3 s).draws = s.draws := by
  simp [pinNote]

@[simp] theorem pinOpen_keeps (a0) (a1) (a2) (a3) (s : State) :
    (pinOpen a0 a1 a2 a3 s).pending = s.pending ∧ (pinOpen a0 a1 a2 a3 s).ctl = s.ctl ∧
    (pinOpen a0 a1 a2 a3 s).power = s.power ∧ (pinOpen a0 a1 a2 a3 s).fuses = s.fuses ∧
    (pinOpen a0 a1 a2 a3 s).cfg = s.cfg ∧ (pinOpen a0 a1 a2 a3 s).dict = s.dict ∧
    (pinOpen a0 a1 a2 a3 s).field = s.field ∧ (pinOpen a0 a1 a2 a3 s).pairs = s.pairs ∧
    (pinOpen a0 a1 a2 a3 s).array = s.array ∧ (pinOpen a0 a1 a2 a3 s).outs = s.outs ∧
    (pinOpen a0 a1 a2 a3 s).proc = s.proc ∧ (pinOpen a0 a1 a2 a3 s).test = s.test ∧
    (pinOpen a0 a1 a2 a3 s).net = s.net ∧ (pinOpen a0 a1 a2 a3 s).time = s.time ∧
    (pinOpen a0 a1 a2 a3 s).draws = s.draws := by
  simp only [pinOpen]
  (repeat' split) <;> simp

@[simp] theorem sessionNote_keeps (a0) (a1) (a2) (s : State) :
    (sessionNote a0 a1 a2 s).pending = s.pending ∧ (sessionNote a0 a1 a2 s).ctl = s.ctl ∧
    (sessionNote a0 a1 a2 s).power = s.power ∧ (sessionNote a0 a1 a2 s).fuses = s.fuses ∧
    (sessionNote a0 a1 a2 s).cfg = s.cfg ∧ (sessionNote a0 a1 a2 s).dict = s.dict ∧
    (sessionNote a0 a1 a2 s).field = s.field ∧ (sessionNote a0 a1 a2 s).pairs = s.pairs ∧
    (sessionNote a0 a1 a2 s).array = s.array ∧ (sessionNote a0 a1 a2 s).outs = s.outs ∧
    (sessionNote a0 a1 a2 s).proc = s.proc ∧ (sessionNote a0 a1 a2 s).test = s.test ∧
    (sessionNote a0 a1 a2 s).net = s.net ∧ (sessionNote a0 a1 a2 s).time = s.time ∧
    (sessionNote a0 a1 a2 s).draws = s.draws := by
  simp [sessionNote]

@[simp] theorem moveTo_keeps (a0) (a1) (a2) (s : State) :
    (moveTo a0 a1 a2 s).pending = s.pending ∧ (moveTo a0 a1 a2 s).power = s.power ∧
    (moveTo a0 a1 a2 s).fuses = s.fuses ∧ (moveTo a0 a1 a2 s).cfg = s.cfg ∧ (moveTo a0 a1 a2 s).dict = s.dict ∧
    (moveTo a0 a1 a2 s).field = s.field ∧ (moveTo a0 a1 a2 s).pairs = s.pairs ∧
    (moveTo a0 a1 a2 s).array = s.array ∧ (moveTo a0 a1 a2 s).outs = s.outs ∧ (moveTo a0 a1 a2 s).proc = s.proc ∧
    (moveTo a0 a1 a2 s).test = s.test ∧ (moveTo a0 a1 a2 s).net = s.net ∧ (moveTo a0 a1 a2 s).time = s.time ∧
    (moveTo a0 a1 a2 s).draws = s.draws := by
  simp [moveTo]

@[simp] theorem abandonAll_keeps (s : State) :
    (abandonAll s).pending = s.pending ∧ (abandonAll s).power = s.power ∧ (abandonAll s).fuses = s.fuses ∧
    (abandonAll s).cfg = s.cfg ∧ (abandonAll s).dict = s.dict ∧ (abandonAll s).field = s.field ∧
    (abandonAll s).pairs = s.pairs ∧ (abandonAll s).outs = s.outs ∧ (abandonAll s).net = s.net ∧
    (abandonAll s).time = s.time ∧ (abandonAll s).draws = s.draws := by
  simp [abandonAll]

@[simp] theorem endInjection_keeps (s : State) :
    (endInjection s).pending = s.pending ∧ (endInjection s).ctl = s.ctl ∧ (endInjection s).power = s.power ∧
    (endInjection s).fuses = s.fuses ∧ (endInjection s).cfg = s.cfg ∧ (endInjection s).dict = s.dict ∧
    (endInjection s).field = s.field ∧ (endInjection s).pairs = s.pairs ∧ (endInjection s).array = s.array ∧
    (endInjection s).outs = s.outs ∧ (endInjection s).proc = s.proc ∧ (endInjection s).breach = s.breach ∧
    (endInjection s).test = s.test ∧ (endInjection s).net = s.net ∧ (endInjection s).led = s.led ∧
    (endInjection s).time = s.time ∧ (endInjection s).draws = s.draws := by
  simp [endInjection]

@[simp] theorem enterHalt_keeps (a0) (s : State) :
    (enterHalt a0 s).pending = s.pending ∧ (enterHalt a0 s).power = s.power ∧ (enterHalt a0 s).fuses = s.fuses ∧
    (enterHalt a0 s).cfg = s.cfg ∧ (enterHalt a0 s).field = s.field ∧ (enterHalt a0 s).pairs = s.pairs ∧
    (enterHalt a0 s).outs = s.outs ∧ (enterHalt a0 s).time = s.time ∧ (enterHalt a0 s).draws = s.draws := by
  simp only [enterHalt]
  (repeat' split) <;> simp

@[simp] theorem modSession_keeps (a0) (s : State) :
    (modSession a0 s).pending = s.pending ∧ (modSession a0 s).ctl = s.ctl ∧ (modSession a0 s).power = s.power ∧
    (modSession a0 s).fuses = s.fuses ∧ (modSession a0 s).cfg = s.cfg ∧ (modSession a0 s).field = s.field ∧
    (modSession a0 s).pairs = s.pairs ∧ (modSession a0 s).array = s.array ∧ (modSession a0 s).outs = s.outs ∧
    (modSession a0 s).proc = s.proc ∧ (modSession a0 s).col = s.col ∧ (modSession a0 s).breach = s.breach ∧
    (modSession a0 s).test = s.test ∧ (modSession a0 s).net = s.net ∧ (modSession a0 s).led = s.led ∧
    (modSession a0 s).time = s.time ∧ (modSession a0 s).draws = s.draws := by
  simp [modSession]

@[simp] theorem touch_keeps (a0) (s : State) :
    (touch a0 s).pending = s.pending ∧ (touch a0 s).ctl = s.ctl ∧ (touch a0 s).power = s.power ∧
    (touch a0 s).fuses = s.fuses ∧ (touch a0 s).cfg = s.cfg ∧ (touch a0 s).field = s.field ∧
    (touch a0 s).pairs = s.pairs ∧ (touch a0 s).array = s.array ∧ (touch a0 s).outs = s.outs ∧
    (touch a0 s).proc = s.proc ∧ (touch a0 s).col = s.col ∧ (touch a0 s).breach = s.breach ∧
    (touch a0 s).test = s.test ∧ (touch a0 s).net = s.net ∧ (touch a0 s).led = s.led ∧ (touch a0 s).time = s.time ∧
    (touch a0 s).draws = s.draws := by
  simp [touch]

@[simp] theorem reply_keeps (a0) (a1) (a2) (s : State) :
    (reply a0 a1 a2 s).pending = s.pending ∧ (reply a0 a1 a2 s).ctl = s.ctl ∧ (reply a0 a1 a2 s).power = s.power ∧
    (reply a0 a1 a2 s).fuses = s.fuses ∧ (reply a0 a1 a2 s).cfg = s.cfg ∧ (reply a0 a1 a2 s).field = s.field ∧
    (reply a0 a1 a2 s).pairs = s.pairs ∧ (reply a0 a1 a2 s).array = s.array ∧ (reply a0 a1 a2 s).outs = s.outs ∧
    (reply a0 a1 a2 s).proc = s.proc ∧ (reply a0 a1 a2 s).col = s.col ∧ (reply a0 a1 a2 s).breach = s.breach ∧
    (reply a0 a1 a2 s).test = s.test ∧ (reply a0 a1 a2 s).net = s.net ∧ (reply a0 a1 a2 s).led = s.led ∧
    (reply a0 a1 a2 s).time = s.time ∧ (reply a0 a1 a2 s).draws = s.draws := by
  simp [reply]

@[simp] theorem holdRecord_keeps (a0) (a1) (s : State) :
    (holdRecord a0 a1 s).pending = s.pending ∧ (holdRecord a0 a1 s).ctl = s.ctl ∧
    (holdRecord a0 a1 s).power = s.power ∧ (holdRecord a0 a1 s).fuses = s.fuses ∧
    (holdRecord a0 a1 s).cfg = s.cfg ∧ (holdRecord a0 a1 s).dict = s.dict ∧ (holdRecord a0 a1 s).field = s.field ∧
    (holdRecord a0 a1 s).pairs = s.pairs ∧ (holdRecord a0 a1 s).array = s.array ∧
    (holdRecord a0 a1 s).outs = s.outs ∧ (holdRecord a0 a1 s).proc = s.proc ∧
    (holdRecord a0 a1 s).breach = s.breach ∧ (holdRecord a0 a1 s).test = s.test ∧
    (holdRecord a0 a1 s).net = s.net ∧ (holdRecord a0 a1 s).led = s.led ∧ (holdRecord a0 a1 s).time = s.time ∧
    (holdRecord a0 a1 s).draws = s.draws := by
  simp [holdRecord]

@[simp] theorem reactEscalated_keeps (a0) (s : State) :
    (reactEscalated a0 s).pending = s.pending ∧ (reactEscalated a0 s).power = s.power ∧
    (reactEscalated a0 s).fuses = s.fuses ∧ (reactEscalated a0 s).cfg = s.cfg ∧
    (reactEscalated a0 s).dict = s.dict ∧ (reactEscalated a0 s).field = s.field ∧
    (reactEscalated a0 s).pairs = s.pairs ∧ (reactEscalated a0 s).outs = s.outs ∧
    (reactEscalated a0 s).net = s.net ∧ (reactEscalated a0 s).time = s.time := by
  simp [reactEscalated]

@[simp] theorem stopAtL4_keeps (a0) (s : State) :
    (stopAtL4 a0 s).pending = s.pending ∧ (stopAtL4 a0 s).power = s.power ∧ (stopAtL4 a0 s).fuses = s.fuses ∧
    (stopAtL4 a0 s).cfg = s.cfg ∧ (stopAtL4 a0 s).field = s.field ∧ (stopAtL4 a0 s).pairs = s.pairs ∧
    (stopAtL4 a0 s).outs = s.outs ∧ (stopAtL4 a0 s).time = s.time ∧ (stopAtL4 a0 s).draws = s.draws := by
  simp [stopAtL4]

@[simp] theorem countJoined_keeps (a0) (a1) (s : State) :
    (countJoined a0 a1 s).pending = s.pending ∧ (countJoined a0 a1 s).ctl = s.ctl ∧
    (countJoined a0 a1 s).power = s.power ∧ (countJoined a0 a1 s).fuses = s.fuses ∧
    (countJoined a0 a1 s).cfg = s.cfg ∧ (countJoined a0 a1 s).dict = s.dict ∧
    (countJoined a0 a1 s).field = s.field ∧ (countJoined a0 a1 s).pairs = s.pairs ∧
    (countJoined a0 a1 s).array = s.array ∧ (countJoined a0 a1 s).outs = s.outs ∧
    (countJoined a0 a1 s).proc = s.proc ∧ (countJoined a0 a1 s).breach = s.breach ∧
    (countJoined a0 a1 s).test = s.test ∧ (countJoined a0 a1 s).net = s.net ∧ (countJoined a0 a1 s).led = s.led ∧
    (countJoined a0 a1 s).time = s.time ∧ (countJoined a0 a1 s).draws = s.draws := by
  simp [countJoined]

@[simp] theorem commitNew_keeps (a0) (s : State) :
    (commitNew a0 s).pending = s.pending ∧ (commitNew a0 s).power = s.power ∧ (commitNew a0 s).fuses = s.fuses ∧
    (commitNew a0 s).cfg = s.cfg ∧ (commitNew a0 s).field = s.field ∧ (commitNew a0 s).pairs = s.pairs ∧
    (commitNew a0 s).outs = s.outs ∧ (commitNew a0 s).time = s.time := by
  simp [commitNew]

@[simp] theorem commitOne_keeps (a0) (s : State) :
    (commitOne a0 s).pending = s.pending ∧ (commitOne a0 s).power = s.power ∧ (commitOne a0 s).fuses = s.fuses ∧
    (commitOne a0 s).cfg = s.cfg ∧ (commitOne a0 s).field = s.field ∧ (commitOne a0 s).pairs = s.pairs ∧
    (commitOne a0 s).outs = s.outs ∧ (commitOne a0 s).time = s.time := by
  simp [commitOne]

@[simp] theorem commitFront_keeps (s : State) :
    (commitFront s).pending = s.pending ∧ (commitFront s).power = s.power ∧ (commitFront s).fuses = s.fuses ∧
    (commitFront s).cfg = s.cfg ∧ (commitFront s).field = s.field ∧ (commitFront s).pairs = s.pairs ∧
    (commitFront s).outs = s.outs ∧ (commitFront s).time = s.time := by
  simp only [commitFront]
  (repeat' split) <;> simp

@[simp] theorem commitMany_pending (n) (s : State) : (commitMany n s).pending = s.pending := by induction n generalizing s with | zero => rfl | succ n ih => (simp only [commitMany]; split <;> simp [ih])

@[simp] theorem commitMany_power (n) (s : State) : (commitMany n s).power = s.power := by induction n generalizing s with | zero => rfl | succ n ih => (simp only [commitMany]; split <;> simp [ih])

@[simp] theorem commitMany_fuses (n) (s : State) : (commitMany n s).fuses = s.fuses := by induction n generalizing s with | zero => rfl | succ n ih => (simp only [commitMany]; split <;> simp [ih])

@[simp] theorem commitMany_cfg (n) (s : State) : (commitMany n s).cfg = s.cfg := by induction n generalizing s with | zero => rfl | succ n ih => (simp only [commitMany]; split <;> simp [ih])

@[simp] theorem commitMany_field (n) (s : State) : (commitMany n s).field = s.field := by induction n generalizing s with | zero => rfl | succ n ih => (simp only [commitMany]; split <;> simp [ih])

@[simp] theorem commitMany_pairs (n) (s : State) : (commitMany n s).pairs = s.pairs := by induction n generalizing s with | zero => rfl | succ n ih => (simp only [commitMany]; split <;> simp [ih])

@[simp] theorem commitMany_outs (n) (s : State) : (commitMany n s).outs = s.outs := by induction n generalizing s with | zero => rfl | succ n ih => (simp only [commitMany]; split <;> simp [ih])

@[simp] theorem commitMany_time (n) (s : State) : (commitMany n s).time = s.time := by induction n generalizing s with | zero => rfl | succ n ih => (simp only [commitMany]; split <;> simp [ih])

@[simp] theorem commitDue_pending (n) (s : State) : (commitDue n s).pending = s.pending := by
  induction n generalizing s with
  | zero => rfl
  | succ n ih => (simp only [commitDue]; split <;> simp [ih])

@[simp] theorem commitDue_power (n) (s : State) : (commitDue n s).power = s.power := by
  induction n generalizing s with
  | zero => rfl
  | succ n ih => (simp only [commitDue]; split <;> simp [ih])

@[simp] theorem commitDue_fuses (n) (s : State) : (commitDue n s).fuses = s.fuses := by
  induction n generalizing s with
  | zero => rfl
  | succ n ih => (simp only [commitDue]; split <;> simp [ih])

@[simp] theorem commitDue_cfg (n) (s : State) : (commitDue n s).cfg = s.cfg := by
  induction n generalizing s with
  | zero => rfl
  | succ n ih => (simp only [commitDue]; split <;> simp [ih])

@[simp] theorem commitDue_field (n) (s : State) : (commitDue n s).field = s.field := by
  induction n generalizing s with
  | zero => rfl
  | succ n ih => (simp only [commitDue]; split <;> simp [ih])

@[simp] theorem commitDue_pairs (n) (s : State) : (commitDue n s).pairs = s.pairs := by
  induction n generalizing s with
  | zero => rfl
  | succ n ih => (simp only [commitDue]; split <;> simp [ih])

@[simp] theorem commitDue_outs (n) (s : State) : (commitDue n s).outs = s.outs := by
  induction n generalizing s with
  | zero => rfl
  | succ n ih => (simp only [commitDue]; split <;> simp [ih])

@[simp] theorem commitDue_time (n) (s : State) : (commitDue n s).time = s.time := by
  induction n generalizing s with
  | zero => rfl
  | succ n ih => (simp only [commitDue]; split <;> simp [ih])

@[simp] theorem commitAll_keeps (s : State) :
    (commitAll s).pending = s.pending ∧ (commitAll s).power = s.power ∧ (commitAll s).fuses = s.fuses ∧
    (commitAll s).cfg = s.cfg ∧ (commitAll s).field = s.field ∧ (commitAll s).pairs = s.pairs ∧
    (commitAll s).outs = s.outs ∧ (commitAll s).time = s.time := by
  simp [commitAll]

@[simp] theorem commitThrough_keeps (a0) (s : State) :
    (commitThrough a0 s).pending = s.pending ∧ (commitThrough a0 s).power = s.power ∧
    (commitThrough a0 s).fuses = s.fuses ∧ (commitThrough a0 s).cfg = s.cfg ∧
    (commitThrough a0 s).field = s.field ∧ (commitThrough a0 s).pairs = s.pairs ∧
    (commitThrough a0 s).outs = s.outs ∧ (commitThrough a0 s).time = s.time := by
  simp [commitThrough]

@[simp] theorem countRecovery_keeps (a0) (s : State) :
    (countRecovery a0 s).pending = s.pending ∧ (countRecovery a0 s).ctl = s.ctl ∧
    (countRecovery a0 s).power = s.power ∧ (countRecovery a0 s).fuses = s.fuses ∧
    (countRecovery a0 s).cfg = s.cfg ∧ (countRecovery a0 s).dict = s.dict ∧ (countRecovery a0 s).field = s.field ∧
    (countRecovery a0 s).pairs = s.pairs ∧ (countRecovery a0 s).array = s.array ∧
    (countRecovery a0 s).outs = s.outs ∧ (countRecovery a0 s).proc = s.proc ∧
    (countRecovery a0 s).breach = s.breach ∧ (countRecovery a0 s).test = s.test ∧
    (countRecovery a0 s).net = s.net ∧ (countRecovery a0 s).led = s.led ∧ (countRecovery a0 s).time = s.time ∧
    (countRecovery a0 s).draws = s.draws := by
  simp [countRecovery]

@[simp] theorem ackRecovered_keeps (a0) (s : State) :
    (ackRecovered a0 s).pending = s.pending ∧ (ackRecovered a0 s).ctl = s.ctl ∧
    (ackRecovered a0 s).power = s.power ∧ (ackRecovered a0 s).fuses = s.fuses ∧ (ackRecovered a0 s).cfg = s.cfg ∧
    (ackRecovered a0 s).dict = s.dict ∧ (ackRecovered a0 s).field = s.field ∧ (ackRecovered a0 s).pairs = s.pairs ∧
    (ackRecovered a0 s).array = s.array ∧ (ackRecovered a0 s).outs = s.outs ∧ (ackRecovered a0 s).proc = s.proc ∧
    (ackRecovered a0 s).test = s.test ∧ (ackRecovered a0 s).net = s.net ∧ (ackRecovered a0 s).time = s.time ∧
    (ackRecovered a0 s).draws = s.draws := by
  simp only [ackRecovered]
  split <;> simp

@[simp] theorem ackWrite_keeps (a0) (a1) (s : State) :
    (ackWrite a0 a1 s).2.pending = s.pending ∧ (ackWrite a0 a1 s).2.ctl = s.ctl ∧
    (ackWrite a0 a1 s).2.power = s.power ∧ (ackWrite a0 a1 s).2.fuses = s.fuses ∧
    (ackWrite a0 a1 s).2.cfg = s.cfg ∧ (ackWrite a0 a1 s).2.dict = s.dict ∧ (ackWrite a0 a1 s).2.field = s.field ∧
    (ackWrite a0 a1 s).2.pairs = s.pairs ∧ (ackWrite a0 a1 s).2.array = s.array ∧
    (ackWrite a0 a1 s).2.outs = s.outs ∧ (ackWrite a0 a1 s).2.test = s.test ∧ (ackWrite a0 a1 s).2.net = s.net ∧
    (ackWrite a0 a1 s).2.time = s.time ∧ (ackWrite a0 a1 s).2.draws = s.draws := by
  simp only [ackWrite]
  (repeat' split) <;> simp

@[simp] theorem clearHistoryWrite_keeps (a0) (s : State) :
    (clearHistoryWrite a0 s).2.pending = s.pending ∧ (clearHistoryWrite a0 s).2.ctl = s.ctl ∧
    (clearHistoryWrite a0 s).2.power = s.power ∧ (clearHistoryWrite a0 s).2.fuses = s.fuses ∧
    (clearHistoryWrite a0 s).2.cfg = s.cfg ∧ (clearHistoryWrite a0 s).2.dict = s.dict ∧
    (clearHistoryWrite a0 s).2.field = s.field ∧ (clearHistoryWrite a0 s).2.pairs = s.pairs ∧
    (clearHistoryWrite a0 s).2.array = s.array ∧ (clearHistoryWrite a0 s).2.outs = s.outs ∧
    (clearHistoryWrite a0 s).2.proc = s.proc ∧ (clearHistoryWrite a0 s).2.test = s.test ∧
    (clearHistoryWrite a0 s).2.net = s.net ∧ (clearHistoryWrite a0 s).2.time = s.time ∧
    (clearHistoryWrite a0 s).2.draws = s.draws := by
  simp [clearHistoryWrite]

@[simp] theorem releaseFirstWrite_keeps (a0) (s : State) :
    (releaseFirstWrite a0 s).2.pending = s.pending ∧ (releaseFirstWrite a0 s).2.ctl = s.ctl ∧
    (releaseFirstWrite a0 s).2.power = s.power ∧ (releaseFirstWrite a0 s).2.fuses = s.fuses ∧
    (releaseFirstWrite a0 s).2.cfg = s.cfg ∧ (releaseFirstWrite a0 s).2.dict = s.dict ∧
    (releaseFirstWrite a0 s).2.field = s.field ∧ (releaseFirstWrite a0 s).2.pairs = s.pairs ∧
    (releaseFirstWrite a0 s).2.array = s.array ∧ (releaseFirstWrite a0 s).2.outs = s.outs ∧
    (releaseFirstWrite a0 s).2.proc = s.proc ∧ (releaseFirstWrite a0 s).2.test = s.test ∧
    (releaseFirstWrite a0 s).2.net = s.net ∧ (releaseFirstWrite a0 s).2.time = s.time ∧
    (releaseFirstWrite a0 s).2.draws = s.draws := by
  simp only [releaseFirstWrite]
  (repeat' split) <;> simp

@[simp] theorem markSeq_keeps (a0) (s : State) :
    (markSeq a0 s).pending = s.pending ∧ (markSeq a0 s).ctl = s.ctl ∧ (markSeq a0 s).power = s.power ∧
    (markSeq a0 s).fuses = s.fuses ∧ (markSeq a0 s).cfg = s.cfg ∧ (markSeq a0 s).dict = s.dict ∧
    (markSeq a0 s).field = s.field ∧ (markSeq a0 s).pairs = s.pairs ∧ (markSeq a0 s).array = s.array ∧
    (markSeq a0 s).outs = s.outs ∧ (markSeq a0 s).proc = s.proc ∧ (markSeq a0 s).test = s.test ∧
    (markSeq a0 s).net = s.net ∧ (markSeq a0 s).time = s.time ∧ (markSeq a0 s).draws = s.draws := by
  simp [markSeq]

@[simp] theorem markRead_keeps (a0) (a1) (s : State) :
    (markRead a0 a1 s).pending = s.pending ∧ (markRead a0 a1 s).ctl = s.ctl ∧ (markRead a0 a1 s).power = s.power ∧
    (markRead a0 a1 s).fuses = s.fuses ∧ (markRead a0 a1 s).cfg = s.cfg ∧ (markRead a0 a1 s).dict = s.dict ∧
    (markRead a0 a1 s).field = s.field ∧ (markRead a0 a1 s).pairs = s.pairs ∧ (markRead a0 a1 s).array = s.array ∧
    (markRead a0 a1 s).outs = s.outs ∧ (markRead a0 a1 s).proc = s.proc ∧ (markRead a0 a1 s).test = s.test ∧
    (markRead a0 a1 s).net = s.net ∧ (markRead a0 a1 s).time = s.time ∧ (markRead a0 a1 s).draws = s.draws := by
  simp only [markRead]
  (repeat' split) <;> simp

@[simp] theorem chimeMiss_keeps (a0) (s : State) :
    (chimeMiss a0 s).pending = s.pending ∧ (chimeMiss a0 s).power = s.power ∧ (chimeMiss a0 s).fuses = s.fuses ∧
    (chimeMiss a0 s).cfg = s.cfg ∧ (chimeMiss a0 s).dict = s.dict ∧ (chimeMiss a0 s).field = s.field ∧
    (chimeMiss a0 s).pairs = s.pairs ∧ (chimeMiss a0 s).outs = s.outs ∧ (chimeMiss a0 s).net = s.net ∧
    (chimeMiss a0 s).time = s.time := by
  simp [chimeMiss]

@[simp] theorem chimeOne_keeps (a0) (a1) (s : State) :
    (chimeOne a0 a1 s).pending = s.pending ∧ (chimeOne a0 a1 s).power = s.power ∧
    (chimeOne a0 a1 s).fuses = s.fuses ∧ (chimeOne a0 a1 s).cfg = s.cfg ∧ (chimeOne a0 a1 s).dict = s.dict ∧
    (chimeOne a0 a1 s).field = s.field ∧ (chimeOne a0 a1 s).pairs = s.pairs ∧ (chimeOne a0 a1 s).outs = s.outs ∧
    (chimeOne a0 a1 s).net = s.net ∧ (chimeOne a0 a1 s).time = s.time := by
  simp [chimeOne]

@[simp] theorem injectStart_keeps (s : State) :
    (injectStart s).2.pending = s.pending ∧ (injectStart s).2.ctl = s.ctl ∧ (injectStart s).2.power = s.power ∧
    (injectStart s).2.fuses = s.fuses ∧ (injectStart s).2.cfg = s.cfg ∧ (injectStart s).2.dict = s.dict ∧
    (injectStart s).2.field = s.field ∧ (injectStart s).2.pairs = s.pairs ∧ (injectStart s).2.array = s.array ∧
    (injectStart s).2.outs = s.outs ∧ (injectStart s).2.proc = s.proc ∧ (injectStart s).2.breach = s.breach ∧
    (injectStart s).2.test = s.test ∧ (injectStart s).2.net = s.net ∧ (injectStart s).2.led = s.led ∧
    (injectStart s).2.time = s.time ∧ (injectStart s).2.draws = s.draws := by
  simp [injectStart]

@[simp] theorem resetCounter_keeps (a0) (s : State) :
    (resetCounter a0 s).pending = s.pending ∧ (resetCounter a0 s).ctl = s.ctl ∧
    (resetCounter a0 s).power = s.power ∧ (resetCounter a0 s).fuses = s.fuses ∧ (resetCounter a0 s).cfg = s.cfg ∧
    (resetCounter a0 s).dict = s.dict ∧ (resetCounter a0 s).field = s.field ∧ (resetCounter a0 s).pairs = s.pairs ∧
    (resetCounter a0 s).array = s.array ∧ (resetCounter a0 s).outs = s.outs ∧ (resetCounter a0 s).proc = s.proc ∧
    (resetCounter a0 s).breach = s.breach ∧ (resetCounter a0 s).test = s.test ∧ (resetCounter a0 s).net = s.net ∧
    (resetCounter a0 s).led = s.led ∧ (resetCounter a0 s).time = s.time ∧ (resetCounter a0 s).draws = s.draws := by
  simp [resetCounter]

@[simp] theorem modIsland_keeps (a0) (a1) (s : State) :
    (modIsland a0 a1 s).pending = s.pending ∧ (modIsland a0 a1 s).ctl = s.ctl ∧
    (modIsland a0 a1 s).power = s.power ∧ (modIsland a0 a1 s).fuses = s.fuses ∧ (modIsland a0 a1 s).cfg = s.cfg ∧
    (modIsland a0 a1 s).dict = s.dict ∧ (modIsland a0 a1 s).field = s.field ∧ (modIsland a0 a1 s).pairs = s.pairs ∧
    (modIsland a0 a1 s).outs = s.outs ∧ (modIsland a0 a1 s).proc = s.proc ∧ (modIsland a0 a1 s).col = s.col ∧
    (modIsland a0 a1 s).breach = s.breach ∧ (modIsland a0 a1 s).test = s.test ∧ (modIsland a0 a1 s).net = s.net ∧
    (modIsland a0 a1 s).led = s.led ∧ (modIsland a0 a1 s).time = s.time ∧ (modIsland a0 a1 s).draws = s.draws := by
  simp [modIsland]

@[simp] theorem modFba_keeps (a0) (a1) (s : State) :
    (modFba a0 a1 s).pending = s.pending ∧ (modFba a0 a1 s).ctl = s.ctl ∧ (modFba a0 a1 s).power = s.power ∧
    (modFba a0 a1 s).fuses = s.fuses ∧ (modFba a0 a1 s).cfg = s.cfg ∧ (modFba a0 a1 s).dict = s.dict ∧
    (modFba a0 a1 s).field = s.field ∧ (modFba a0 a1 s).pairs = s.pairs ∧ (modFba a0 a1 s).outs = s.outs ∧
    (modFba a0 a1 s).proc = s.proc ∧ (modFba a0 a1 s).col = s.col ∧ (modFba a0 a1 s).breach = s.breach ∧
    (modFba a0 a1 s).test = s.test ∧ (modFba a0 a1 s).net = s.net ∧ (modFba a0 a1 s).led = s.led ∧
    (modFba a0 a1 s).time = s.time ∧ (modFba a0 a1 s).draws = s.draws := by
  simp [modFba]

@[simp] theorem modSnap_keeps (a0) (a1) (s : State) :
    (modSnap a0 a1 s).pending = s.pending ∧ (modSnap a0 a1 s).ctl = s.ctl ∧ (modSnap a0 a1 s).power = s.power ∧
    (modSnap a0 a1 s).fuses = s.fuses ∧ (modSnap a0 a1 s).cfg = s.cfg ∧ (modSnap a0 a1 s).dict = s.dict ∧
    (modSnap a0 a1 s).field = s.field ∧ (modSnap a0 a1 s).pairs = s.pairs ∧ (modSnap a0 a1 s).array = s.array ∧
    (modSnap a0 a1 s).outs = s.outs ∧ (modSnap a0 a1 s).proc = s.proc ∧ (modSnap a0 a1 s).col = s.col ∧
    (modSnap a0 a1 s).breach = s.breach ∧ (modSnap a0 a1 s).net = s.net ∧ (modSnap a0 a1 s).led = s.led ∧
    (modSnap a0 a1 s).time = s.time ∧ (modSnap a0 a1 s).draws = s.draws := by
  simp [modSnap]

@[simp] theorem compareC_keeps (a0) (s : State) :
    (compareC a0 s).pending = s.pending ∧ (compareC a0 s).ctl = s.ctl ∧ (compareC a0 s).power = s.power ∧
    (compareC a0 s).fuses = s.fuses ∧ (compareC a0 s).cfg = s.cfg ∧ (compareC a0 s).dict = s.dict ∧
    (compareC a0 s).field = s.field ∧ (compareC a0 s).pairs = s.pairs ∧ (compareC a0 s).outs = s.outs ∧
    (compareC a0 s).proc = s.proc ∧ (compareC a0 s).col = s.col ∧ (compareC a0 s).breach = s.breach ∧
    (compareC a0 s).test = s.test ∧ (compareC a0 s).net = s.net ∧ (compareC a0 s).led = s.led ∧
    (compareC a0 s).time = s.time ∧ (compareC a0 s).draws = s.draws := by
  simp [compareC]

@[simp] theorem modInput_keeps (a0) (a1) (s : State) :
    (modInput a0 a1 s).pending = s.pending ∧ (modInput a0 a1 s).ctl = s.ctl ∧ (modInput a0 a1 s).power = s.power ∧
    (modInput a0 a1 s).fuses = s.fuses ∧ (modInput a0 a1 s).cfg = s.cfg ∧ (modInput a0 a1 s).dict = s.dict ∧
    (modInput a0 a1 s).pairs = s.pairs ∧ (modInput a0 a1 s).array = s.array ∧ (modInput a0 a1 s).outs = s.outs ∧
    (modInput a0 a1 s).proc = s.proc ∧ (modInput a0 a1 s).col = s.col ∧ (modInput a0 a1 s).breach = s.breach ∧
    (modInput a0 a1 s).test = s.test ∧ (modInput a0 a1 s).net = s.net ∧ (modInput a0 a1 s).led = s.led ∧
    (modInput a0 a1 s).time = s.time ∧ (modInput a0 a1 s).draws = s.draws := by
  simp [modInput]

@[simp] theorem modSource_keeps (a0) (a1) (s : State) :
    (modSource a0 a1 s).pending = s.pending ∧ (modSource a0 a1 s).ctl = s.ctl ∧
    (modSource a0 a1 s).power = s.power ∧ (modSource a0 a1 s).fuses = s.fuses ∧ (modSource a0 a1 s).cfg = s.cfg ∧
    (modSource a0 a1 s).dict = s.dict ∧ (modSource a0 a1 s).pairs = s.pairs ∧ (modSource a0 a1 s).array = s.array ∧
    (modSource a0 a1 s).outs = s.outs ∧ (modSource a0 a1 s).proc = s.proc ∧ (modSource a0 a1 s).col = s.col ∧
    (modSource a0 a1 s).breach = s.breach ∧ (modSource a0 a1 s).test = s.test ∧ (modSource a0 a1 s).net = s.net ∧
    (modSource a0 a1 s).led = s.led ∧ (modSource a0 a1 s).time = s.time ∧ (modSource a0 a1 s).draws = s.draws := by
  simp [modSource]

@[simp] theorem modSiteIn_keeps (a0) (a1) (s : State) :
    (modSiteIn a0 a1 s).pending = s.pending ∧ (modSiteIn a0 a1 s).ctl = s.ctl ∧
    (modSiteIn a0 a1 s).power = s.power ∧ (modSiteIn a0 a1 s).fuses = s.fuses ∧ (modSiteIn a0 a1 s).cfg = s.cfg ∧
    (modSiteIn a0 a1 s).dict = s.dict ∧ (modSiteIn a0 a1 s).pairs = s.pairs ∧ (modSiteIn a0 a1 s).array = s.array ∧
    (modSiteIn a0 a1 s).outs = s.outs ∧ (modSiteIn a0 a1 s).proc = s.proc ∧ (modSiteIn a0 a1 s).col = s.col ∧
    (modSiteIn a0 a1 s).breach = s.breach ∧ (modSiteIn a0 a1 s).test = s.test ∧ (modSiteIn a0 a1 s).net = s.net ∧
    (modSiteIn a0 a1 s).led = s.led ∧ (modSiteIn a0 a1 s).time = s.time ∧ (modSiteIn a0 a1 s).draws = s.draws := by
  simp [modSiteIn]

@[simp] theorem queueEdge_keeps (a0) (s : State) :
    (queueEdge a0 s).pending = s.pending ∧ (queueEdge a0 s).power = s.power ∧ (queueEdge a0 s).fuses = s.fuses ∧
    (queueEdge a0 s).cfg = s.cfg ∧ (queueEdge a0 s).dict = s.dict ∧ (queueEdge a0 s).pairs = s.pairs ∧
    (queueEdge a0 s).outs = s.outs ∧ (queueEdge a0 s).net = s.net ∧ (queueEdge a0 s).time = s.time := by
  simp [queueEdge]

@[simp] theorem noteChange_keeps (a0) (s : State) :
    (noteChange a0 s).pending = s.pending ∧ (noteChange a0 s).power = s.power ∧ (noteChange a0 s).fuses = s.fuses ∧
    (noteChange a0 s).cfg = s.cfg ∧ (noteChange a0 s).dict = s.dict ∧ (noteChange a0 s).pairs = s.pairs ∧
    (noteChange a0 s).outs = s.outs ∧ (noteChange a0 s).net = s.net ∧ (noteChange a0 s).time = s.time := by
  simp [noteChange]

@[simp] theorem filterFlip_keeps (a0) (a1) (a2) (a3) (a4) (s : State) :
    (filterFlip a0 a1 a2 a3 a4 s).pending = s.pending ∧ (filterFlip a0 a1 a2 a3 a4 s).power = s.power ∧
    (filterFlip a0 a1 a2 a3 a4 s).fuses = s.fuses ∧ (filterFlip a0 a1 a2 a3 a4 s).cfg = s.cfg ∧
    (filterFlip a0 a1 a2 a3 a4 s).dict = s.dict ∧ (filterFlip a0 a1 a2 a3 a4 s).pairs = s.pairs ∧
    (filterFlip a0 a1 a2 a3 a4 s).outs = s.outs ∧ (filterFlip a0 a1 a2 a3 a4 s).net = s.net ∧
    (filterFlip a0 a1 a2 a3 a4 s).time = s.time := by
  simp only [filterFlip]
  (repeat' split) <;> simp

@[simp] theorem filterChange_keeps (a0) (a1) (a2) (s : State) :
    (filterChange a0 a1 a2 s).pending = s.pending ∧ (filterChange a0 a1 a2 s).power = s.power ∧
    (filterChange a0 a1 a2 s).fuses = s.fuses ∧ (filterChange a0 a1 a2 s).cfg = s.cfg ∧
    (filterChange a0 a1 a2 s).dict = s.dict ∧ (filterChange a0 a1 a2 s).pairs = s.pairs ∧
    (filterChange a0 a1 a2 s).outs = s.outs ∧ (filterChange a0 a1 a2 s).net = s.net ∧
    (filterChange a0 a1 a2 s).time = s.time := by
  simp [filterChange]

@[simp] theorem forceOne_keeps (a0) (a1) (s : State) :
    (forceOne a0 a1 s).pending = s.pending ∧ (forceOne a0 a1 s).power = s.power ∧
    (forceOne a0 a1 s).fuses = s.fuses ∧ (forceOne a0 a1 s).cfg = s.cfg ∧ (forceOne a0 a1 s).dict = s.dict ∧
    (forceOne a0 a1 s).pairs = s.pairs ∧ (forceOne a0 a1 s).outs = s.outs ∧ (forceOne a0 a1 s).net = s.net ∧
    (forceOne a0 a1 s).time = s.time := by
  simp [forceOne]

@[simp] theorem unforceOne_keeps (a0) (a1) (s : State) :
    (unforceOne a0 a1 s).pending = s.pending ∧ (unforceOne a0 a1 s).ctl = s.ctl ∧
    (unforceOne a0 a1 s).power = s.power ∧ (unforceOne a0 a1 s).fuses = s.fuses ∧
    (unforceOne a0 a1 s).cfg = s.cfg ∧ (unforceOne a0 a1 s).dict = s.dict ∧ (unforceOne a0 a1 s).pairs = s.pairs ∧
    (unforceOne a0 a1 s).array = s.array ∧ (unforceOne a0 a1 s).outs = s.outs ∧
    (unforceOne a0 a1 s).proc = s.proc ∧ (unforceOne a0 a1 s).col = s.col ∧
    (unforceOne a0 a1 s).breach = s.breach ∧ (unforceOne a0 a1 s).test = s.test ∧
    (unforceOne a0 a1 s).net = s.net ∧ (unforceOne a0 a1 s).led = s.led ∧ (unforceOne a0 a1 s).time = s.time ∧
    (unforceOne a0 a1 s).draws = s.draws := by
  simp [unforceOne]

@[simp] theorem inputFault_keeps (a0) (a1) (a2) (a3) (s : State) :
    (inputFault a0 a1 a2 a3 s).pending = s.pending ∧ (inputFault a0 a1 a2 a3 s).power = s.power ∧
    (inputFault a0 a1 a2 a3 s).fuses = s.fuses ∧ (inputFault a0 a1 a2 a3 s).cfg = s.cfg ∧
    (inputFault a0 a1 a2 a3 s).dict = s.dict ∧ (inputFault a0 a1 a2 a3 s).field = s.field ∧
    (inputFault a0 a1 a2 a3 s).pairs = s.pairs ∧ (inputFault a0 a1 a2 a3 s).outs = s.outs ∧
    (inputFault a0 a1 a2 a3 s).net = s.net ∧ (inputFault a0 a1 a2 a3 s).time = s.time := by
  simp [inputFault]

@[simp] theorem readInput_keeps (a0) (s : State) :
    (readInput a0 s).pending = s.pending ∧ (readInput a0 s).ctl = s.ctl ∧ (readInput a0 s).power = s.power ∧
    (readInput a0 s).fuses = s.fuses ∧ (readInput a0 s).cfg = s.cfg ∧ (readInput a0 s).dict = s.dict ∧
    (readInput a0 s).pairs = s.pairs ∧ (readInput a0 s).array = s.array ∧ (readInput a0 s).outs = s.outs ∧
    (readInput a0 s).test = s.test ∧ (readInput a0 s).net = s.net ∧ (readInput a0 s).time = s.time ∧
    (readInput a0 s).draws = s.draws := by
  simp [readInput]

@[simp] theorem beforePulse_keeps (a0) (a1) (a2) (s : State) :
    (beforePulse a0 a1 a2 s).pending = s.pending ∧ (beforePulse a0 a1 a2 s).ctl = s.ctl ∧
    (beforePulse a0 a1 a2 s).power = s.power ∧ (beforePulse a0 a1 a2 s).fuses = s.fuses ∧
    (beforePulse a0 a1 a2 s).cfg = s.cfg ∧ (beforePulse a0 a1 a2 s).dict = s.dict ∧
    (beforePulse a0 a1 a2 s).pairs = s.pairs ∧ (beforePulse a0 a1 a2 s).array = s.array ∧
    (beforePulse a0 a1 a2 s).outs = s.outs ∧ (beforePulse a0 a1 a2 s).proc = s.proc ∧
    (beforePulse a0 a1 a2 s).col = s.col ∧ (beforePulse a0 a1 a2 s).breach = s.breach ∧
    (beforePulse a0 a1 a2 s).test = s.test ∧ (beforePulse a0 a1 a2 s).net = s.net ∧
    (beforePulse a0 a1 a2 s).led = s.led ∧ (beforePulse a0 a1 a2 s).time = s.time ∧
    (beforePulse a0 a1 a2 s).draws = s.draws := by
  simp [beforePulse]

@[simp] theorem ownCheck_keeps (a0) (a1) (a2) (s : State) :
    (ownCheck a0 a1 a2 s).pending = s.pending ∧ (ownCheck a0 a1 a2 s).power = s.power ∧
    (ownCheck a0 a1 a2 s).fuses = s.fuses ∧ (ownCheck a0 a1 a2 s).cfg = s.cfg ∧
    (ownCheck a0 a1 a2 s).dict = s.dict ∧ (ownCheck a0 a1 a2 s).pairs = s.pairs ∧
    (ownCheck a0 a1 a2 s).outs = s.outs ∧ (ownCheck a0 a1 a2 s).net = s.net ∧
    (ownCheck a0 a1 a2 s).time = s.time := by
  simp [ownCheck]

@[simp] theorem foreignCheck_keeps (a0) (a1) (a2) (s : State) :
    (foreignCheck a0 a1 a2 s).pending = s.pending ∧ (foreignCheck a0 a1 a2 s).power = s.power ∧
    (foreignCheck a0 a1 a2 s).fuses = s.fuses ∧ (foreignCheck a0 a1 a2 s).cfg = s.cfg ∧
    (foreignCheck a0 a1 a2 s).dict = s.dict ∧ (foreignCheck a0 a1 a2 s).pairs = s.pairs ∧
    (foreignCheck a0 a1 a2 s).outs = s.outs ∧ (foreignCheck a0 a1 a2 s).net = s.net ∧
    (foreignCheck a0 a1 a2 s).time = s.time := by
  simp only [foreignCheck]
  (repeat' split) <;> simp

@[simp] theorem lineCheck_keeps (a0) (a1) (a2) (s : State) :
    (lineCheck a0 a1 a2 s).pending = s.pending ∧ (lineCheck a0 a1 a2 s).power = s.power ∧
    (lineCheck a0 a1 a2 s).fuses = s.fuses ∧ (lineCheck a0 a1 a2 s).cfg = s.cfg ∧
    (lineCheck a0 a1 a2 s).dict = s.dict ∧ (lineCheck a0 a1 a2 s).pairs = s.pairs ∧
    (lineCheck a0 a1 a2 s).outs = s.outs ∧ (lineCheck a0 a1 a2 s).net = s.net ∧
    (lineCheck a0 a1 a2 s).time = s.time := by
  simp only [lineCheck]
  (repeat' split) <;> simp

@[simp] theorem restartPasses_keeps (a0) (s : State) :
    (restartPasses a0 s).pending = s.pending ∧ (restartPasses a0 s).ctl = s.ctl ∧
    (restartPasses a0 s).power = s.power ∧ (restartPasses a0 s).fuses = s.fuses ∧
    (restartPasses a0 s).cfg = s.cfg ∧ (restartPasses a0 s).dict = s.dict ∧ (restartPasses a0 s).pairs = s.pairs ∧
    (restartPasses a0 s).array = s.array ∧ (restartPasses a0 s).outs = s.outs ∧
    (restartPasses a0 s).proc = s.proc ∧ (restartPasses a0 s).col = s.col ∧
    (restartPasses a0 s).breach = s.breach ∧ (restartPasses a0 s).test = s.test ∧
    (restartPasses a0 s).net = s.net ∧ (restartPasses a0 s).led = s.led ∧ (restartPasses a0 s).time = s.time ∧
    (restartPasses a0 s).draws = s.draws := by
  simp [restartPasses]

@[simp] theorem terminalCheck_keeps (a0) (a1) (a2) (s : State) :
    (terminalCheck a0 a1 a2 s).pending = s.pending ∧ (terminalCheck a0 a1 a2 s).power = s.power ∧
    (terminalCheck a0 a1 a2 s).fuses = s.fuses ∧ (terminalCheck a0 a1 a2 s).cfg = s.cfg ∧
    (terminalCheck a0 a1 a2 s).dict = s.dict ∧ (terminalCheck a0 a1 a2 s).pairs = s.pairs ∧
    (terminalCheck a0 a1 a2 s).outs = s.outs ∧ (terminalCheck a0 a1 a2 s).net = s.net ∧
    (terminalCheck a0 a1 a2 s).time = s.time := by
  simp only [terminalCheck]
  (repeat' split) <;> simp

@[simp] theorem slowCheck_keeps (a0) (s : State) :
    (slowCheck a0 s).pending = s.pending ∧ (slowCheck a0 s).power = s.power ∧ (slowCheck a0 s).fuses = s.fuses ∧
    (slowCheck a0 s).cfg = s.cfg ∧ (slowCheck a0 s).dict = s.dict ∧ (slowCheck a0 s).pairs = s.pairs ∧
    (slowCheck a0 s).outs = s.outs ∧ (slowCheck a0 s).net = s.net ∧ (slowCheck a0 s).time = s.time := by
  simp [slowCheck]

@[simp] theorem modPair_keeps (a0) (a1) (s : State) :
    (modPair a0 a1 s).pending = s.pending ∧ (modPair a0 a1 s).ctl = s.ctl ∧ (modPair a0 a1 s).power = s.power ∧
    (modPair a0 a1 s).fuses = s.fuses ∧ (modPair a0 a1 s).cfg = s.cfg ∧ (modPair a0 a1 s).dict = s.dict ∧
    (modPair a0 a1 s).field = s.field ∧ (modPair a0 a1 s).array = s.array ∧ (modPair a0 a1 s).outs = s.outs ∧
    (modPair a0 a1 s).proc = s.proc ∧ (modPair a0 a1 s).col = s.col ∧ (modPair a0 a1 s).breach = s.breach ∧
    (modPair a0 a1 s).test = s.test ∧ (modPair a0 a1 s).net = s.net ∧ (modPair a0 a1 s).led = s.led ∧
    (modPair a0 a1 s).time = s.time ∧ (modPair a0 a1 s).draws = s.draws := by
  simp [modPair]

@[simp] theorem modLane_keeps (a0) (a1) (a2) (s : State) :
    (modLane a0 a1 a2 s).pending = s.pending ∧ (modLane a0 a1 a2 s).ctl = s.ctl ∧
    (modLane a0 a1 a2 s).power = s.power ∧ (modLane a0 a1 a2 s).fuses = s.fuses ∧
    (modLane a0 a1 a2 s).cfg = s.cfg ∧ (modLane a0 a1 a2 s).dict = s.dict ∧ (modLane a0 a1 a2 s).field = s.field ∧
    (modLane a0 a1 a2 s).array = s.array ∧ (modLane a0 a1 a2 s).outs = s.outs ∧
    (modLane a0 a1 a2 s).proc = s.proc ∧ (modLane a0 a1 a2 s).col = s.col ∧
    (modLane a0 a1 a2 s).breach = s.breach ∧ (modLane a0 a1 a2 s).test = s.test ∧
    (modLane a0 a1 a2 s).net = s.net ∧ (modLane a0 a1 a2 s).led = s.led ∧ (modLane a0 a1 a2 s).time = s.time ∧
    (modLane a0 a1 a2 s).draws = s.draws := by
  simp [modLane]

@[simp] theorem stamp_keeps (a0) (a1) (a2) (s : State) :
    (stamp a0 a1 a2 s).pending = s.pending ∧ (stamp a0 a1 a2 s).ctl = s.ctl ∧ (stamp a0 a1 a2 s).power = s.power ∧
    (stamp a0 a1 a2 s).fuses = s.fuses ∧ (stamp a0 a1 a2 s).cfg = s.cfg ∧ (stamp a0 a1 a2 s).dict = s.dict ∧
    (stamp a0 a1 a2 s).field = s.field ∧ (stamp a0 a1 a2 s).array = s.array ∧ (stamp a0 a1 a2 s).outs = s.outs ∧
    (stamp a0 a1 a2 s).proc = s.proc ∧ (stamp a0 a1 a2 s).col = s.col ∧ (stamp a0 a1 a2 s).breach = s.breach ∧
    (stamp a0 a1 a2 s).test = s.test ∧ (stamp a0 a1 a2 s).net = s.net ∧ (stamp a0 a1 a2 s).led = s.led ∧
    (stamp a0 a1 a2 s).time = s.time ∧ (stamp a0 a1 a2 s).draws = s.draws := by
  simp [stamp]

@[simp] theorem setLast_keeps (a0) (a1) (s : State) :
    (setLast a0 a1 s).pending = s.pending ∧ (setLast a0 a1 s).ctl = s.ctl ∧ (setLast a0 a1 s).power = s.power ∧
    (setLast a0 a1 s).fuses = s.fuses ∧ (setLast a0 a1 s).cfg = s.cfg ∧ (setLast a0 a1 s).dict = s.dict ∧
    (setLast a0 a1 s).field = s.field ∧ (setLast a0 a1 s).array = s.array ∧ (setLast a0 a1 s).outs = s.outs ∧
    (setLast a0 a1 s).proc = s.proc ∧ (setLast a0 a1 s).col = s.col ∧ (setLast a0 a1 s).breach = s.breach ∧
    (setLast a0 a1 s).test = s.test ∧ (setLast a0 a1 s).net = s.net ∧ (setLast a0 a1 s).led = s.led ∧
    (setLast a0 a1 s).time = s.time ∧ (setLast a0 a1 s).draws = s.draws := by
  simp [setLast]

@[simp] theorem doorNote_keeps (a0) (a1) (a2) (a3) (a4) (s : State) :
    (doorNote a0 a1 a2 a3 a4 s).pending = s.pending ∧ (doorNote a0 a1 a2 a3 a4 s).ctl = s.ctl ∧
    (doorNote a0 a1 a2 a3 a4 s).power = s.power ∧ (doorNote a0 a1 a2 a3 a4 s).fuses = s.fuses ∧
    (doorNote a0 a1 a2 a3 a4 s).cfg = s.cfg ∧ (doorNote a0 a1 a2 a3 a4 s).dict = s.dict ∧
    (doorNote a0 a1 a2 a3 a4 s).field = s.field ∧ (doorNote a0 a1 a2 a3 a4 s).pairs = s.pairs ∧
    (doorNote a0 a1 a2 a3 a4 s).array = s.array ∧ (doorNote a0 a1 a2 a3 a4 s).outs = s.outs ∧
    (doorNote a0 a1 a2 a3 a4 s).proc = s.proc ∧ (doorNote a0 a1 a2 a3 a4 s).test = s.test ∧
    (doorNote a0 a1 a2 a3 a4 s).net = s.net ∧ (doorNote a0 a1 a2 a3 a4 s).time = s.time ∧
    (doorNote a0 a1 a2 a3 a4 s).draws = s.draws := by
  simp [doorNote]

@[simp] theorem setLatch_keeps (a0) (a1) (a2) (a3) (s : State) :
    (setLatch a0 a1 a2 a3 s).pending = s.pending ∧ (setLatch a0 a1 a2 a3 s).ctl = s.ctl ∧
    (setLatch a0 a1 a2 a3 s).power = s.power ∧ (setLatch a0 a1 a2 a3 s).fuses = s.fuses ∧
    (setLatch a0 a1 a2 a3 s).cfg = s.cfg ∧ (setLatch a0 a1 a2 a3 s).dict = s.dict ∧
    (setLatch a0 a1 a2 a3 s).field = s.field ∧ (setLatch a0 a1 a2 a3 s).array = s.array ∧
    (setLatch a0 a1 a2 a3 s).outs = s.outs ∧ (setLatch a0 a1 a2 a3 s).proc = s.proc ∧
    (setLatch a0 a1 a2 a3 s).test = s.test ∧ (setLatch a0 a1 a2 a3 s).net = s.net ∧
    (setLatch a0 a1 a2 a3 s).time = s.time ∧ (setLatch a0 a1 a2 a3 s).draws = s.draws := by
  simp [setLatch]

@[simp] theorem doorSettle_keeps (a0) (a1) (a2) (s : State) :
    (doorSettle a0 a1 a2 s).pending = s.pending ∧ (doorSettle a0 a1 a2 s).ctl = s.ctl ∧
    (doorSettle a0 a1 a2 s).power = s.power ∧ (doorSettle a0 a1 a2 s).fuses = s.fuses ∧
    (doorSettle a0 a1 a2 s).cfg = s.cfg ∧ (doorSettle a0 a1 a2 s).dict = s.dict ∧
    (doorSettle a0 a1 a2 s).field = s.field ∧ (doorSettle a0 a1 a2 s).array = s.array ∧
    (doorSettle a0 a1 a2 s).outs = s.outs ∧ (doorSettle a0 a1 a2 s).proc = s.proc ∧
    (doorSettle a0 a1 a2 s).test = s.test ∧ (doorSettle a0 a1 a2 s).net = s.net ∧
    (doorSettle a0 a1 a2 s).time = s.time ∧ (doorSettle a0 a1 a2 s).draws = s.draws := by
  simp [doorSettle]

@[simp] theorem giveRelease_keeps (a0) (a1) (a2) (s : State) :
    (giveRelease a0 a1 a2 s).pending = s.pending ∧ (giveRelease a0 a1 a2 s).ctl = s.ctl ∧
    (giveRelease a0 a1 a2 s).power = s.power ∧ (giveRelease a0 a1 a2 s).fuses = s.fuses ∧
    (giveRelease a0 a1 a2 s).cfg = s.cfg ∧ (giveRelease a0 a1 a2 s).dict = s.dict ∧
    (giveRelease a0 a1 a2 s).field = s.field ∧ (giveRelease a0 a1 a2 s).array = s.array ∧
    (giveRelease a0 a1 a2 s).outs = s.outs ∧ (giveRelease a0 a1 a2 s).proc = s.proc ∧
    (giveRelease a0 a1 a2 s).test = s.test ∧ (giveRelease a0 a1 a2 s).net = s.net ∧
    (giveRelease a0 a1 a2 s).time = s.time ∧ (giveRelease a0 a1 a2 s).draws = s.draws := by
  simp [giveRelease]

@[simp] theorem takeDue_keeps (a0) (a1) (a2) (s : State) :
    (takeDue a0 a1 a2 s).pending = s.pending ∧ (takeDue a0 a1 a2 s).ctl = s.ctl ∧
    (takeDue a0 a1 a2 s).power = s.power ∧ (takeDue a0 a1 a2 s).fuses = s.fuses ∧
    (takeDue a0 a1 a2 s).cfg = s.cfg ∧ (takeDue a0 a1 a2 s).dict = s.dict ∧ (takeDue a0 a1 a2 s).field = s.field ∧
    (takeDue a0 a1 a2 s).array = s.array ∧ (takeDue a0 a1 a2 s).outs = s.outs ∧
    (takeDue a0 a1 a2 s).proc = s.proc ∧ (takeDue a0 a1 a2 s).test = s.test ∧ (takeDue a0 a1 a2 s).net = s.net ∧
    (takeDue a0 a1 a2 s).time = s.time ∧ (takeDue a0 a1 a2 s).draws = s.draws := by
  simp only [takeDue]
  (repeat' split) <;> simp

@[simp] theorem withdraw_keeps (a0) (a1) (s : State) :
    (withdraw a0 a1 s).pending = s.pending ∧ (withdraw a0 a1 s).ctl = s.ctl ∧ (withdraw a0 a1 s).power = s.power ∧
    (withdraw a0 a1 s).fuses = s.fuses ∧ (withdraw a0 a1 s).cfg = s.cfg ∧ (withdraw a0 a1 s).dict = s.dict ∧
    (withdraw a0 a1 s).field = s.field ∧ (withdraw a0 a1 s).array = s.array ∧ (withdraw a0 a1 s).outs = s.outs ∧
    (withdraw a0 a1 s).proc = s.proc ∧ (withdraw a0 a1 s).test = s.test ∧ (withdraw a0 a1 s).net = s.net ∧
    (withdraw a0 a1 s).time = s.time ∧ (withdraw a0 a1 s).draws = s.draws := by
  simp [withdraw]

@[simp] theorem countPress_keeps (a0) (s : State) :
    (countPress a0 s).pending = s.pending ∧ (countPress a0 s).ctl = s.ctl ∧ (countPress a0 s).power = s.power ∧
    (countPress a0 s).fuses = s.fuses ∧ (countPress a0 s).cfg = s.cfg ∧ (countPress a0 s).dict = s.dict ∧
    (countPress a0 s).field = s.field ∧ (countPress a0 s).array = s.array ∧ (countPress a0 s).outs = s.outs ∧
    (countPress a0 s).proc = s.proc ∧ (countPress a0 s).col = s.col ∧ (countPress a0 s).breach = s.breach ∧
    (countPress a0 s).test = s.test ∧ (countPress a0 s).net = s.net ∧ (countPress a0 s).led = s.led ∧
    (countPress a0 s).time = s.time ∧ (countPress a0 s).draws = s.draws := by
  simp [countPress]

@[simp] theorem losePress_keeps (a0) (s : State) :
    (losePress a0 s).pending = s.pending ∧ (losePress a0 s).ctl = s.ctl ∧ (losePress a0 s).power = s.power ∧
    (losePress a0 s).fuses = s.fuses ∧ (losePress a0 s).cfg = s.cfg ∧ (losePress a0 s).dict = s.dict ∧
    (losePress a0 s).field = s.field ∧ (losePress a0 s).array = s.array ∧ (losePress a0 s).outs = s.outs ∧
    (losePress a0 s).proc = s.proc ∧ (losePress a0 s).col = s.col ∧ (losePress a0 s).breach = s.breach ∧
    (losePress a0 s).test = s.test ∧ (losePress a0 s).net = s.net ∧ (losePress a0 s).led = s.led ∧
    (losePress a0 s).time = s.time ∧ (losePress a0 s).draws = s.draws := by
  simp [losePress]

@[simp] theorem comparePress_keeps (a0) (a1) (a2) (a3) (s : State) :
    (comparePress a0 a1 a2 a3 s).pending = s.pending ∧ (comparePress a0 a1 a2 a3 s).power = s.power ∧
    (comparePress a0 a1 a2 a3 s).fuses = s.fuses ∧ (comparePress a0 a1 a2 a3 s).cfg = s.cfg ∧
    (comparePress a0 a1 a2 a3 s).dict = s.dict ∧ (comparePress a0 a1 a2 a3 s).field = s.field ∧
    (comparePress a0 a1 a2 a3 s).outs = s.outs ∧ (comparePress a0 a1 a2 a3 s).net = s.net ∧
    (comparePress a0 a1 a2 a3 s).time = s.time := by
  simp [comparePress]

@[simp] theorem judgePress_keeps (a0) (a1) (s : State) :
    (judgePress a0 a1 s).pending = s.pending ∧ (judgePress a0 a1 s).power = s.power ∧
    (judgePress a0 a1 s).fuses = s.fuses ∧ (judgePress a0 a1 s).cfg = s.cfg ∧ (judgePress a0 a1 s).dict = s.dict ∧
    (judgePress a0 a1 s).field = s.field ∧ (judgePress a0 a1 s).outs = s.outs ∧ (judgePress a0 a1 s).net = s.net ∧
    (judgePress a0 a1 s).time = s.time := by
  simp only [judgePress]
  (repeat' split) <;> simp

@[simp] theorem pressesEnd_keeps (a0) (a1) (s : State) :
    (pressesEnd a0 a1 s).pending = s.pending ∧ (pressesEnd a0 a1 s).power = s.power ∧
    (pressesEnd a0 a1 s).fuses = s.fuses ∧ (pressesEnd a0 a1 s).cfg = s.cfg ∧ (pressesEnd a0 a1 s).dict = s.dict ∧
    (pressesEnd a0 a1 s).field = s.field ∧ (pressesEnd a0 a1 s).outs = s.outs ∧ (pressesEnd a0 a1 s).net = s.net ∧
    (pressesEnd a0 a1 s).time = s.time := by
  simp [pressesEnd]

@[simp] theorem endPress_keeps (a0) (a1) (a2) (s : State) :
    (endPress a0 a1 a2 s).pending = s.pending ∧ (endPress a0 a1 a2 s).ctl = s.ctl ∧
    (endPress a0 a1 a2 s).power = s.power ∧ (endPress a0 a1 a2 s).fuses = s.fuses ∧
    (endPress a0 a1 a2 s).cfg = s.cfg ∧ (endPress a0 a1 a2 s).dict = s.dict ∧
    (endPress a0 a1 a2 s).field = s.field ∧ (endPress a0 a1 a2 s).array = s.array ∧
    (endPress a0 a1 a2 s).outs = s.outs ∧ (endPress a0 a1 a2 s).proc = s.proc ∧ (endPress a0 a1 a2 s).col = s.col ∧
    (endPress a0 a1 a2 s).breach = s.breach ∧ (endPress a0 a1 a2 s).test = s.test ∧
    (endPress a0 a1 a2 s).net = s.net ∧ (endPress a0 a1 a2 s).led = s.led ∧ (endPress a0 a1 a2 s).time = s.time ∧
    (endPress a0 a1 a2 s).draws = s.draws := by
  simp only [endPress]
  (repeat' split) <;> simp

@[simp] theorem fallPress_keeps (a0) (a1) (a2) (s : State) :
    (fallPress a0 a1 a2 s).pending = s.pending ∧ (fallPress a0 a1 a2 s).ctl = s.ctl ∧
    (fallPress a0 a1 a2 s).power = s.power ∧ (fallPress a0 a1 a2 s).fuses = s.fuses ∧
    (fallPress a0 a1 a2 s).cfg = s.cfg ∧ (fallPress a0 a1 a2 s).dict = s.dict ∧
    (fallPress a0 a1 a2 s).field = s.field ∧ (fallPress a0 a1 a2 s).array = s.array ∧
    (fallPress a0 a1 a2 s).outs = s.outs ∧ (fallPress a0 a1 a2 s).proc = s.proc ∧
    (fallPress a0 a1 a2 s).col = s.col ∧ (fallPress a0 a1 a2 s).breach = s.breach ∧
    (fallPress a0 a1 a2 s).test = s.test ∧ (fallPress a0 a1 a2 s).net = s.net ∧
    (fallPress a0 a1 a2 s).led = s.led ∧ (fallPress a0 a1 a2 s).time = s.time ∧
    (fallPress a0 a1 a2 s).draws = s.draws := by
  simp [fallPress]

@[simp] theorem signalMoved_keeps (a0) (a1) (a2) (a3) (a4) (s : State) :
    (signalMoved a0 a1 a2 a3 a4 s).pending = s.pending ∧ (signalMoved a0 a1 a2 a3 a4 s).ctl = s.ctl ∧
    (signalMoved a0 a1 a2 a3 a4 s).power = s.power ∧ (signalMoved a0 a1 a2 a3 a4 s).fuses = s.fuses ∧
    (signalMoved a0 a1 a2 a3 a4 s).cfg = s.cfg ∧ (signalMoved a0 a1 a2 a3 a4 s).dict = s.dict ∧
    (signalMoved a0 a1 a2 a3 a4 s).field = s.field ∧ (signalMoved a0 a1 a2 a3 a4 s).array = s.array ∧
    (signalMoved a0 a1 a2 a3 a4 s).outs = s.outs ∧ (signalMoved a0 a1 a2 a3 a4 s).test = s.test ∧
    (signalMoved a0 a1 a2 a3 a4 s).net = s.net ∧ (signalMoved a0 a1 a2 a3 a4 s).time = s.time ∧
    (signalMoved a0 a1 a2 a3 a4 s).draws = s.draws := by
  simp [signalMoved]

@[simp] theorem noteMove_keeps (a0) (a1) (a2) (a3) (a4) (a5) (s : State) :
    (noteMove a0 a1 a2 a3 a4 a5 s).pending = s.pending ∧ (noteMove a0 a1 a2 a3 a4 a5 s).ctl = s.ctl ∧
    (noteMove a0 a1 a2 a3 a4 a5 s).power = s.power ∧ (noteMove a0 a1 a2 a3 a4 a5 s).fuses = s.fuses ∧
    (noteMove a0 a1 a2 a3 a4 a5 s).cfg = s.cfg ∧ (noteMove a0 a1 a2 a3 a4 a5 s).dict = s.dict ∧
    (noteMove a0 a1 a2 a3 a4 a5 s).field = s.field ∧ (noteMove a0 a1 a2 a3 a4 a5 s).array = s.array ∧
    (noteMove a0 a1 a2 a3 a4 a5 s).outs = s.outs ∧ (noteMove a0 a1 a2 a3 a4 a5 s).proc = s.proc ∧
    (noteMove a0 a1 a2 a3 a4 a5 s).col = s.col ∧ (noteMove a0 a1 a2 a3 a4 a5 s).breach = s.breach ∧
    (noteMove a0 a1 a2 a3 a4 a5 s).test = s.test ∧ (noteMove a0 a1 a2 a3 a4 a5 s).net = s.net ∧
    (noteMove a0 a1 a2 a3 a4 a5 s).led = s.led ∧ (noteMove a0 a1 a2 a3 a4 a5 s).time = s.time ∧
    (noteMove a0 a1 a2 a3 a4 a5 s).draws = s.draws := by
  simp [noteMove]

@[simp] theorem noteNeed_keeps (a0) (a1) (a2) (s : State) :
    (noteNeed a0 a1 a2 s).pending = s.pending ∧ (noteNeed a0 a1 a2 s).ctl = s.ctl ∧
    (noteNeed a0 a1 a2 s).power = s.power ∧ (noteNeed a0 a1 a2 s).fuses = s.fuses ∧
    (noteNeed a0 a1 a2 s).cfg = s.cfg ∧ (noteNeed a0 a1 a2 s).dict = s.dict ∧
    (noteNeed a0 a1 a2 s).field = s.field ∧ (noteNeed a0 a1 a2 s).array = s.array ∧
    (noteNeed a0 a1 a2 s).outs = s.outs ∧ (noteNeed a0 a1 a2 s).proc = s.proc ∧ (noteNeed a0 a1 a2 s).col = s.col ∧
    (noteNeed a0 a1 a2 s).breach = s.breach ∧ (noteNeed a0 a1 a2 s).test = s.test ∧
    (noteNeed a0 a1 a2 s).net = s.net ∧ (noteNeed a0 a1 a2 s).led = s.led ∧ (noteNeed a0 a1 a2 s).time = s.time ∧
    (noteNeed a0 a1 a2 s).draws = s.draws := by
  simp [noteNeed]

@[simp] theorem signalChange_keeps (a0) (a1) (a2) (a3) (a4) (a5) (s : State) :
    (signalChange a0 a1 a2 a3 a4 a5 s).pending = s.pending ∧ (signalChange a0 a1 a2 a3 a4 a5 s).ctl = s.ctl ∧
    (signalChange a0 a1 a2 a3 a4 a5 s).power = s.power ∧ (signalChange a0 a1 a2 a3 a4 a5 s).fuses = s.fuses ∧
    (signalChange a0 a1 a2 a3 a4 a5 s).cfg = s.cfg ∧ (signalChange a0 a1 a2 a3 a4 a5 s).dict = s.dict ∧
    (signalChange a0 a1 a2 a3 a4 a5 s).field = s.field ∧ (signalChange a0 a1 a2 a3 a4 a5 s).array = s.array ∧
    (signalChange a0 a1 a2 a3 a4 a5 s).outs = s.outs ∧ (signalChange a0 a1 a2 a3 a4 a5 s).test = s.test ∧
    (signalChange a0 a1 a2 a3 a4 a5 s).net = s.net ∧ (signalChange a0 a1 a2 a3 a4 a5 s).time = s.time ∧
    (signalChange a0 a1 a2 a3 a4 a5 s).draws = s.draws := by
  simp [signalChange]

@[simp] theorem pressAfter_keeps (a0) (a1) (a2) (a3) (a4) (s : State) :
    (pressAfter a0 a1 a2 a3 a4 s).pending = s.pending ∧ (pressAfter a0 a1 a2 a3 a4 s).ctl = s.ctl ∧
    (pressAfter a0 a1 a2 a3 a4 s).power = s.power ∧ (pressAfter a0 a1 a2 a3 a4 s).fuses = s.fuses ∧
    (pressAfter a0 a1 a2 a3 a4 s).cfg = s.cfg ∧ (pressAfter a0 a1 a2 a3 a4 s).dict = s.dict ∧
    (pressAfter a0 a1 a2 a3 a4 s).field = s.field ∧ (pressAfter a0 a1 a2 a3 a4 s).array = s.array ∧
    (pressAfter a0 a1 a2 a3 a4 s).outs = s.outs ∧ (pressAfter a0 a1 a2 a3 a4 s).proc = s.proc ∧
    (pressAfter a0 a1 a2 a3 a4 s).col = s.col ∧ (pressAfter a0 a1 a2 a3 a4 s).breach = s.breach ∧
    (pressAfter a0 a1 a2 a3 a4 s).test = s.test ∧ (pressAfter a0 a1 a2 a3 a4 s).net = s.net ∧
    (pressAfter a0 a1 a2 a3 a4 s).led = s.led ∧ (pressAfter a0 a1 a2 a3 a4 s).time = s.time ∧
    (pressAfter a0 a1 a2 a3 a4 s).draws = s.draws := by
  simp [pressAfter]

@[simp] theorem discLeft_keeps (a0) (a1) (a2) (a3) (s : State) :
    (discLeft a0 a1 a2 a3 s).pending = s.pending ∧ (discLeft a0 a1 a2 a3 s).ctl = s.ctl ∧
    (discLeft a0 a1 a2 a3 s).power = s.power ∧ (discLeft a0 a1 a2 a3 s).fuses = s.fuses ∧
    (discLeft a0 a1 a2 a3 s).cfg = s.cfg ∧ (discLeft a0 a1 a2 a3 s).dict = s.dict ∧
    (discLeft a0 a1 a2 a3 s).field = s.field ∧ (discLeft a0 a1 a2 a3 s).pairs = s.pairs ∧
    (discLeft a0 a1 a2 a3 s).array = s.array ∧ (discLeft a0 a1 a2 a3 s).outs = s.outs ∧
    (discLeft a0 a1 a2 a3 s).test = s.test ∧ (discLeft a0 a1 a2 a3 s).net = s.net ∧
    (discLeft a0 a1 a2 a3 s).time = s.time ∧ (discLeft a0 a1 a2 a3 s).draws = s.draws := by
  simp [discLeft]

@[simp] theorem countDoor_keeps (a0) (a1) (a2) (s : State) :
    (countDoor a0 a1 a2 s).pending = s.pending ∧ (countDoor a0 a1 a2 s).ctl = s.ctl ∧
    (countDoor a0 a1 a2 s).power = s.power ∧ (countDoor a0 a1 a2 s).fuses = s.fuses ∧
    (countDoor a0 a1 a2 s).cfg = s.cfg ∧ (countDoor a0 a1 a2 s).dict = s.dict ∧
    (countDoor a0 a1 a2 s).field = s.field ∧ (countDoor a0 a1 a2 s).array = s.array ∧
    (countDoor a0 a1 a2 s).outs = s.outs ∧ (countDoor a0 a1 a2 s).proc = s.proc ∧
    (countDoor a0 a1 a2 s).test = s.test ∧ (countDoor a0 a1 a2 s).net = s.net ∧
    (countDoor a0 a1 a2 s).time = s.time ∧ (countDoor a0 a1 a2 s).draws = s.draws := by
  simp [countDoor]

@[simp] theorem doorsAfter_keeps (a0) (a1) (a2) (a3) (s : State) :
    (doorsAfter a0 a1 a2 a3 s).pending = s.pending ∧ (doorsAfter a0 a1 a2 a3 s).ctl = s.ctl ∧
    (doorsAfter a0 a1 a2 a3 s).power = s.power ∧ (doorsAfter a0 a1 a2 a3 s).fuses = s.fuses ∧
    (doorsAfter a0 a1 a2 a3 s).cfg = s.cfg ∧ (doorsAfter a0 a1 a2 a3 s).dict = s.dict ∧
    (doorsAfter a0 a1 a2 a3 s).field = s.field ∧ (doorsAfter a0 a1 a2 a3 s).array = s.array ∧
    (doorsAfter a0 a1 a2 a3 s).outs = s.outs ∧ (doorsAfter a0 a1 a2 a3 s).proc = s.proc ∧
    (doorsAfter a0 a1 a2 a3 s).test = s.test ∧ (doorsAfter a0 a1 a2 a3 s).net = s.net ∧
    (doorsAfter a0 a1 a2 a3 s).time = s.time ∧ (doorsAfter a0 a1 a2 a3 s).draws = s.draws := by
  simp [doorsAfter]

@[simp] theorem afterMove_keeps (a0) (a1) (a2) (a3) (a4) (s : State) :
    (afterMove a0 a1 a2 a3 a4 s).pending = s.pending ∧ (afterMove a0 a1 a2 a3 a4 s).ctl = s.ctl ∧
    (afterMove a0 a1 a2 a3 a4 s).power = s.power ∧ (afterMove a0 a1 a2 a3 a4 s).fuses = s.fuses ∧
    (afterMove a0 a1 a2 a3 a4 s).cfg = s.cfg ∧ (afterMove a0 a1 a2 a3 a4 s).dict = s.dict ∧
    (afterMove a0 a1 a2 a3 a4 s).field = s.field ∧ (afterMove a0 a1 a2 a3 a4 s).array = s.array ∧
    (afterMove a0 a1 a2 a3 a4 s).outs = s.outs ∧ (afterMove a0 a1 a2 a3 a4 s).test = s.test ∧
    (afterMove a0 a1 a2 a3 a4 s).net = s.net ∧ (afterMove a0 a1 a2 a3 a4 s).time = s.time ∧
    (afterMove a0 a1 a2 a3 a4 s).draws = s.draws := by
  simp [afterMove]

@[simp] theorem discFound_keeps (a0) (a1) (a2) (a3) (s : State) :
    (discFound a0 a1 a2 a3 s).pending = s.pending ∧ (discFound a0 a1 a2 a3 s).power = s.power ∧
    (discFound a0 a1 a2 a3 s).fuses = s.fuses ∧ (discFound a0 a1 a2 a3 s).cfg = s.cfg ∧
    (discFound a0 a1 a2 a3 s).dict = s.dict ∧ (discFound a0 a1 a2 a3 s).field = s.field ∧
    (discFound a0 a1 a2 a3 s).outs = s.outs ∧ (discFound a0 a1 a2 a3 s).net = s.net ∧
    (discFound a0 a1 a2 a3 s).time = s.time := by
  simp [discFound]

@[simp] theorem afterRun_keeps (a0) (a1) (a2) (a3) (a4) (s : State) :
    (afterRun a0 a1 a2 a3 a4 s).pending = s.pending ∧ (afterRun a0 a1 a2 a3 a4 s).power = s.power ∧
    (afterRun a0 a1 a2 a3 a4 s).fuses = s.fuses ∧ (afterRun a0 a1 a2 a3 a4 s).cfg = s.cfg ∧
    (afterRun a0 a1 a2 a3 a4 s).dict = s.dict ∧ (afterRun a0 a1 a2 a3 a4 s).field = s.field ∧
    (afterRun a0 a1 a2 a3 a4 s).outs = s.outs ∧ (afterRun a0 a1 a2 a3 a4 s).net = s.net ∧
    (afterRun a0 a1 a2 a3 a4 s).time = s.time := by
  simp [afterRun]

@[simp] theorem discCondition_keeps (a0) (s : State) :
    (discCondition a0 s).pending = s.pending ∧ (discCondition a0 s).power = s.power ∧
    (discCondition a0 s).fuses = s.fuses ∧ (discCondition a0 s).cfg = s.cfg ∧ (discCondition a0 s).dict = s.dict ∧
    (discCondition a0 s).field = s.field ∧ (discCondition a0 s).pairs = s.pairs ∧
    (discCondition a0 s).outs = s.outs ∧ (discCondition a0 s).net = s.net ∧ (discCondition a0 s).time = s.time := by
  simp only [discCondition]
  (repeat' split) <;> simp

@[simp] theorem noteZero_keeps (a0) (a1) (a2) (s : State) :
    (noteZero a0 a1 a2 s).pending = s.pending ∧ (noteZero a0 a1 a2 s).ctl = s.ctl ∧
    (noteZero a0 a1 a2 s).power = s.power ∧ (noteZero a0 a1 a2 s).fuses = s.fuses ∧
    (noteZero a0 a1 a2 s).cfg = s.cfg ∧ (noteZero a0 a1 a2 s).dict = s.dict ∧
    (noteZero a0 a1 a2 s).field = s.field ∧ (noteZero a0 a1 a2 s).array = s.array ∧
    (noteZero a0 a1 a2 s).outs = s.outs ∧ (noteZero a0 a1 a2 s).proc = s.proc ∧ (noteZero a0 a1 a2 s).col = s.col ∧
    (noteZero a0 a1 a2 s).breach = s.breach ∧ (noteZero a0 a1 a2 s).test = s.test ∧
    (noteZero a0 a1 a2 s).net = s.net ∧ (noteZero a0 a1 a2 s).led = s.led ∧ (noteZero a0 a1 a2 s).time = s.time ∧
    (noteZero a0 a1 a2 s).draws = s.draws := by
  simp [noteZero]

@[simp] theorem pairRunAt_keeps (a0) (a1) (a2) (a3) (s : State) :
    (pairRunAt a0 a1 a2 a3 s).pending = s.pending ∧ (pairRunAt a0 a1 a2 a3 s).power = s.power ∧
    (pairRunAt a0 a1 a2 a3 s).fuses = s.fuses ∧ (pairRunAt a0 a1 a2 a3 s).cfg = s.cfg ∧
    (pairRunAt a0 a1 a2 a3 s).dict = s.dict ∧ (pairRunAt a0 a1 a2 a3 s).field = s.field ∧
    (pairRunAt a0 a1 a2 a3 s).outs = s.outs ∧ (pairRunAt a0 a1 a2 a3 s).net = s.net ∧
    (pairRunAt a0 a1 a2 a3 s).time = s.time := by
  simp [pairRunAt]

@[simp] theorem pairRun_keeps (a0) (a1) (a2) (s : State) :
    (pairRun a0 a1 a2 s).pending = s.pending ∧ (pairRun a0 a1 a2 s).power = s.power ∧
    (pairRun a0 a1 a2 s).fuses = s.fuses ∧ (pairRun a0 a1 a2 s).cfg = s.cfg ∧ (pairRun a0 a1 a2 s).dict = s.dict ∧
    (pairRun a0 a1 a2 s).field = s.field ∧ (pairRun a0 a1 a2 s).outs = s.outs ∧ (pairRun a0 a1 a2 s).net = s.net ∧
    (pairRun a0 a1 a2 s).time = s.time := by
  simp [pairRun]

@[simp] theorem pairsRun_keeps (a0) (a1) (s : State) :
    (pairsRun a0 a1 s).pending = s.pending ∧ (pairsRun a0 a1 s).power = s.power ∧
    (pairsRun a0 a1 s).fuses = s.fuses ∧ (pairsRun a0 a1 s).cfg = s.cfg ∧ (pairsRun a0 a1 s).dict = s.dict ∧
    (pairsRun a0 a1 s).field = s.field ∧ (pairsRun a0 a1 s).outs = s.outs ∧ (pairsRun a0 a1 s).net = s.net ∧
    (pairsRun a0 a1 s).time = s.time := by
  simp [pairsRun]

@[simp] theorem stampChans_keeps (a0) (a1) (a2) (s : State) :
    (stampChans a0 a1 a2 s).pending = s.pending ∧ (stampChans a0 a1 a2 s).ctl = s.ctl ∧
    (stampChans a0 a1 a2 s).power = s.power ∧ (stampChans a0 a1 a2 s).fuses = s.fuses ∧
    (stampChans a0 a1 a2 s).cfg = s.cfg ∧ (stampChans a0 a1 a2 s).dict = s.dict ∧
    (stampChans a0 a1 a2 s).field = s.field ∧ (stampChans a0 a1 a2 s).array = s.array ∧
    (stampChans a0 a1 a2 s).outs = s.outs ∧ (stampChans a0 a1 a2 s).proc = s.proc ∧
    (stampChans a0 a1 a2 s).col = s.col ∧ (stampChans a0 a1 a2 s).breach = s.breach ∧
    (stampChans a0 a1 a2 s).test = s.test ∧ (stampChans a0 a1 a2 s).net = s.net ∧
    (stampChans a0 a1 a2 s).led = s.led ∧ (stampChans a0 a1 a2 s).time = s.time ∧
    (stampChans a0 a1 a2 s).draws = s.draws := by
  simp [stampChans]

@[simp] theorem stampEntries_keeps (a0) (a1) (a2) (s : State) :
    (stampEntries a0 a1 a2 s).pending = s.pending ∧ (stampEntries a0 a1 a2 s).ctl = s.ctl ∧
    (stampEntries a0 a1 a2 s).power = s.power ∧ (stampEntries a0 a1 a2 s).fuses = s.fuses ∧
    (stampEntries a0 a1 a2 s).cfg = s.cfg ∧ (stampEntries a0 a1 a2 s).dict = s.dict ∧
    (stampEntries a0 a1 a2 s).field = s.field ∧ (stampEntries a0 a1 a2 s).array = s.array ∧
    (stampEntries a0 a1 a2 s).outs = s.outs ∧ (stampEntries a0 a1 a2 s).proc = s.proc ∧
    (stampEntries a0 a1 a2 s).col = s.col ∧ (stampEntries a0 a1 a2 s).breach = s.breach ∧
    (stampEntries a0 a1 a2 s).test = s.test ∧ (stampEntries a0 a1 a2 s).net = s.net ∧
    (stampEntries a0 a1 a2 s).led = s.led ∧ (stampEntries a0 a1 a2 s).time = s.time ∧
    (stampEntries a0 a1 a2 s).draws = s.draws := by
  simp [stampEntries]

@[simp] theorem dueChans_keeps (a0) (a1) (a2) (s : State) :
    (dueChans a0 a1 a2 s).pending = s.pending ∧ (dueChans a0 a1 a2 s).power = s.power ∧
    (dueChans a0 a1 a2 s).fuses = s.fuses ∧ (dueChans a0 a1 a2 s).cfg = s.cfg ∧
    (dueChans a0 a1 a2 s).dict = s.dict ∧ (dueChans a0 a1 a2 s).outs = s.outs ∧ (dueChans a0 a1 a2 s).net = s.net ∧
    (dueChans a0 a1 a2 s).time = s.time := by
  simp [dueChans]

@[simp] theorem changeInput_pending (l i t g) (s : State) (h : ∀ t, (g t).pending = t.pending) : (changeInput l i t g s).pending = s.pending := by
  simp [changeInput, h]

@[simp] theorem changeInput_power (l i t g) (s : State) (h : ∀ t, (g t).power = t.power) : (changeInput l i t g s).power = s.power := by
  simp [changeInput, h]

@[simp] theorem changeInput_fuses (l i t g) (s : State) (h : ∀ t, (g t).fuses = t.fuses) : (changeInput l i t g s).fuses = s.fuses := by
  simp [changeInput, h]

@[simp] theorem changeInput_cfg (l i t g) (s : State) (h : ∀ t, (g t).cfg = t.cfg) : (changeInput l i t g s).cfg = s.cfg := by
  simp [changeInput, h]

@[simp] theorem changeInput_dict (l i t g) (s : State) (h : ∀ t, (g t).dict = t.dict) : (changeInput l i t g s).dict = s.dict := by
  simp [changeInput, h]

@[simp] theorem changeInput_outs (l i t g) (s : State) (h : ∀ t, (g t).outs = t.outs) : (changeInput l i t g s).outs = s.outs := by
  simp [changeInput, h]

@[simp] theorem changeInput_net (l i t g) (s : State) (h : ∀ t, (g t).net = t.net) : (changeInput l i t g s).net = s.net := by
  simp [changeInput, h]

@[simp] theorem changeInput_time (l i t g) (s : State) (h : ∀ t, (g t).time = t.time) : (changeInput l i t g s).time = s.time := by
  simp [changeInput, h]

@[simp] theorem forceInput_keeps (a0) (a1) (s : State) :
    (forceInput a0 a1 s).pending = s.pending ∧ (forceInput a0 a1 s).power = s.power ∧
    (forceInput a0 a1 s).fuses = s.fuses ∧ (forceInput a0 a1 s).cfg = s.cfg ∧ (forceInput a0 a1 s).dict = s.dict ∧
    (forceInput a0 a1 s).outs = s.outs ∧ (forceInput a0 a1 s).net = s.net ∧ (forceInput a0 a1 s).time = s.time := by
  simp [forceInput]

@[simp] theorem forceInputs_keeps (a0) (a1) (s : State) :
    (forceInputs a0 a1 s).pending = s.pending ∧ (forceInputs a0 a1 s).power = s.power ∧
    (forceInputs a0 a1 s).fuses = s.fuses ∧ (forceInputs a0 a1 s).cfg = s.cfg ∧
    (forceInputs a0 a1 s).dict = s.dict ∧ (forceInputs a0 a1 s).outs = s.outs ∧ (forceInputs a0 a1 s).net = s.net ∧
    (forceInputs a0 a1 s).time = s.time := by
  simp [forceInputs]

@[simp] theorem unforceInputs_keeps (a0) (a1) (s : State) :
    (unforceInputs a0 a1 s).pending = s.pending ∧ (unforceInputs a0 a1 s).power = s.power ∧
    (unforceInputs a0 a1 s).fuses = s.fuses ∧ (unforceInputs a0 a1 s).cfg = s.cfg ∧
    (unforceInputs a0 a1 s).dict = s.dict ∧ (unforceInputs a0 a1 s).outs = s.outs ∧
    (unforceInputs a0 a1 s).net = s.net ∧ (unforceInputs a0 a1 s).time = s.time := by
  simp [unforceInputs]

@[simp] theorem modBrake_keeps (a0) (a1) (s : State) :
    (modBrake a0 a1 s).pending = s.pending ∧ (modBrake a0 a1 s).ctl = s.ctl ∧ (modBrake a0 a1 s).power = s.power ∧
    (modBrake a0 a1 s).fuses = s.fuses ∧ (modBrake a0 a1 s).cfg = s.cfg ∧ (modBrake a0 a1 s).dict = s.dict ∧
    (modBrake a0 a1 s).field = s.field ∧ (modBrake a0 a1 s).pairs = s.pairs ∧ (modBrake a0 a1 s).array = s.array ∧
    (modBrake a0 a1 s).proc = s.proc ∧ (modBrake a0 a1 s).col = s.col ∧ (modBrake a0 a1 s).breach = s.breach ∧
    (modBrake a0 a1 s).test = s.test ∧ (modBrake a0 a1 s).net = s.net ∧ (modBrake a0 a1 s).led = s.led ∧
    (modBrake a0 a1 s).time = s.time ∧ (modBrake a0 a1 s).draws = s.draws := by
  simp [modBrake]

@[simp] theorem modElem_keeps (a0) (a1) (s : State) :
    (modElem a0 a1 s).pending = s.pending ∧ (modElem a0 a1 s).ctl = s.ctl ∧ (modElem a0 a1 s).power = s.power ∧
    (modElem a0 a1 s).fuses = s.fuses ∧ (modElem a0 a1 s).cfg = s.cfg ∧ (modElem a0 a1 s).dict = s.dict ∧
    (modElem a0 a1 s).field = s.field ∧ (modElem a0 a1 s).pairs = s.pairs ∧ (modElem a0 a1 s).array = s.array ∧
    (modElem a0 a1 s).proc = s.proc ∧ (modElem a0 a1 s).col = s.col ∧ (modElem a0 a1 s).breach = s.breach ∧
    (modElem a0 a1 s).test = s.test ∧ (modElem a0 a1 s).net = s.net ∧ (modElem a0 a1 s).led = s.led ∧
    (modElem a0 a1 s).time = s.time ∧ (modElem a0 a1 s).draws = s.draws := by
  simp [modElem]

@[simp] theorem modLearn_keeps (a0) (a1) (s : State) :
    (modLearn a0 a1 s).pending = s.pending ∧ (modLearn a0 a1 s).ctl = s.ctl ∧ (modLearn a0 a1 s).power = s.power ∧
    (modLearn a0 a1 s).fuses = s.fuses ∧ (modLearn a0 a1 s).cfg = s.cfg ∧ (modLearn a0 a1 s).dict = s.dict ∧
    (modLearn a0 a1 s).field = s.field ∧ (modLearn a0 a1 s).pairs = s.pairs ∧ (modLearn a0 a1 s).array = s.array ∧
    (modLearn a0 a1 s).proc = s.proc ∧ (modLearn a0 a1 s).test = s.test ∧ (modLearn a0 a1 s).net = s.net ∧
    (modLearn a0 a1 s).time = s.time ∧ (modLearn a0 a1 s).draws = s.draws := by
  simp [modLearn]

@[simp] theorem modBrakeLearn_keeps (a0) (a1) (s : State) :
    (modBrakeLearn a0 a1 s).pending = s.pending ∧ (modBrakeLearn a0 a1 s).ctl = s.ctl ∧
    (modBrakeLearn a0 a1 s).power = s.power ∧ (modBrakeLearn a0 a1 s).fuses = s.fuses ∧
    (modBrakeLearn a0 a1 s).cfg = s.cfg ∧ (modBrakeLearn a0 a1 s).dict = s.dict ∧
    (modBrakeLearn a0 a1 s).field = s.field ∧ (modBrakeLearn a0 a1 s).pairs = s.pairs ∧
    (modBrakeLearn a0 a1 s).array = s.array ∧ (modBrakeLearn a0 a1 s).proc = s.proc ∧
    (modBrakeLearn a0 a1 s).test = s.test ∧ (modBrakeLearn a0 a1 s).net = s.net ∧
    (modBrakeLearn a0 a1 s).time = s.time ∧ (modBrakeLearn a0 a1 s).draws = s.draws := by
  simp [modBrakeLearn]

@[simp] theorem learnDrop_keeps (a0) (a1) (s : State) :
    (learnDrop a0 a1 s).pending = s.pending ∧ (learnDrop a0 a1 s).power = s.power ∧
    (learnDrop a0 a1 s).fuses = s.fuses ∧ (learnDrop a0 a1 s).cfg = s.cfg ∧ (learnDrop a0 a1 s).dict = s.dict ∧
    (learnDrop a0 a1 s).field = s.field ∧ (learnDrop a0 a1 s).pairs = s.pairs ∧ (learnDrop a0 a1 s).net = s.net ∧
    (learnDrop a0 a1 s).time = s.time := by
  simp [learnDrop]

@[simp] theorem dropTest_keeps (a0) (s : State) :
    (dropTest a0 s).pending = s.pending ∧ (dropTest a0 s).ctl = s.ctl ∧ (dropTest a0 s).power = s.power ∧
    (dropTest a0 s).fuses = s.fuses ∧ (dropTest a0 s).cfg = s.cfg ∧ (dropTest a0 s).dict = s.dict ∧
    (dropTest a0 s).field = s.field ∧ (dropTest a0 s).pairs = s.pairs ∧ (dropTest a0 s).array = s.array ∧
    (dropTest a0 s).proc = s.proc ∧ (dropTest a0 s).col = s.col ∧ (dropTest a0 s).breach = s.breach ∧
    (dropTest a0 s).test = s.test ∧ (dropTest a0 s).net = s.net ∧ (dropTest a0 s).led = s.led ∧
    (dropTest a0 s).time = s.time ∧ (dropTest a0 s).draws = s.draws := by
  simp [dropTest]

@[simp] theorem elemMoved_keeps (a0) (a1) (s : State) :
    (elemMoved a0 a1 s).pending = s.pending ∧ (elemMoved a0 a1 s).ctl = s.ctl ∧
    (elemMoved a0 a1 s).power = s.power ∧ (elemMoved a0 a1 s).fuses = s.fuses ∧ (elemMoved a0 a1 s).cfg = s.cfg ∧
    (elemMoved a0 a1 s).dict = s.dict ∧ (elemMoved a0 a1 s).field = s.field ∧ (elemMoved a0 a1 s).pairs = s.pairs ∧
    (elemMoved a0 a1 s).array = s.array ∧ (elemMoved a0 a1 s).test = s.test ∧ (elemMoved a0 a1 s).net = s.net ∧
    (elemMoved a0 a1 s).time = s.time ∧ (elemMoved a0 a1 s).draws = s.draws := by
  simp [elemMoved]

@[simp] theorem siteMoved_keeps (a0) (a1) (s : State) :
    (siteMoved a0 a1 s).pending = s.pending ∧ (siteMoved a0 a1 s).ctl = s.ctl ∧
    (siteMoved a0 a1 s).power = s.power ∧ (siteMoved a0 a1 s).fuses = s.fuses ∧ (siteMoved a0 a1 s).cfg = s.cfg ∧
    (siteMoved a0 a1 s).dict = s.dict ∧ (siteMoved a0 a1 s).field = s.field ∧ (siteMoved a0 a1 s).pairs = s.pairs ∧
    (siteMoved a0 a1 s).array = s.array ∧ (siteMoved a0 a1 s).test = s.test ∧ (siteMoved a0 a1 s).net = s.net ∧
    (siteMoved a0 a1 s).time = s.time ∧ (siteMoved a0 a1 s).draws = s.draws := by
  simp [siteMoved]

@[simp] theorem latchNets_keeps (a0) (s : State) :
    (latchNets a0 s).pending = s.pending ∧ (latchNets a0 s).ctl = s.ctl ∧ (latchNets a0 s).power = s.power ∧
    (latchNets a0 s).fuses = s.fuses ∧ (latchNets a0 s).cfg = s.cfg ∧ (latchNets a0 s).dict = s.dict ∧
    (latchNets a0 s).field = s.field ∧ (latchNets a0 s).pairs = s.pairs ∧ (latchNets a0 s).outs = s.outs ∧
    (latchNets a0 s).proc = s.proc ∧ (latchNets a0 s).col = s.col ∧ (latchNets a0 s).breach = s.breach ∧
    (latchNets a0 s).test = s.test ∧ (latchNets a0 s).net = s.net ∧ (latchNets a0 s).led = s.led ∧
    (latchNets a0 s).time = s.time ∧ (latchNets a0 s).draws = s.draws := by
  simp [latchNets]

@[simp] theorem faultAt_keeps (a0) (a1) (a2) (s : State) :
    (faultAt a0 a1 a2 s).pending = s.pending ∧ (faultAt a0 a1 a2 s).power = s.power ∧
    (faultAt a0 a1 a2 s).fuses = s.fuses ∧ (faultAt a0 a1 a2 s).cfg = s.cfg ∧ (faultAt a0 a1 a2 s).dict = s.dict ∧
    (faultAt a0 a1 a2 s).field = s.field ∧ (faultAt a0 a1 a2 s).pairs = s.pairs ∧
    (faultAt a0 a1 a2 s).outs = s.outs ∧ (faultAt a0 a1 a2 s).net = s.net ∧ (faultAt a0 a1 a2 s).time = s.time := by
  simp [faultAt]

@[simp] theorem setBlk_keeps (a0) (a1) (a2) (s : State) :
    (setBlk a0 a1 a2 s).pending = s.pending ∧ (setBlk a0 a1 a2 s).ctl = s.ctl ∧
    (setBlk a0 a1 a2 s).power = s.power ∧ (setBlk a0 a1 a2 s).fuses = s.fuses ∧ (setBlk a0 a1 a2 s).cfg = s.cfg ∧
    (setBlk a0 a1 a2 s).dict = s.dict ∧ (setBlk a0 a1 a2 s).field = s.field ∧ (setBlk a0 a1 a2 s).pairs = s.pairs ∧
    (setBlk a0 a1 a2 s).outs = s.outs ∧ (setBlk a0 a1 a2 s).proc = s.proc ∧ (setBlk a0 a1 a2 s).col = s.col ∧
    (setBlk a0 a1 a2 s).breach = s.breach ∧ (setBlk a0 a1 a2 s).test = s.test ∧ (setBlk a0 a1 a2 s).net = s.net ∧
    (setBlk a0 a1 a2 s).led = s.led ∧ (setBlk a0 a1 a2 s).time = s.time ∧ (setBlk a0 a1 a2 s).draws = s.draws := by
  simp [setBlk]

@[simp] theorem setOuts_keeps (a0) (a1) (a2) (s : State) :
    (setOuts a0 a1 a2 s).pending = s.pending ∧ (setOuts a0 a1 a2 s).ctl = s.ctl ∧
    (setOuts a0 a1 a2 s).power = s.power ∧ (setOuts a0 a1 a2 s).fuses = s.fuses ∧
    (setOuts a0 a1 a2 s).cfg = s.cfg ∧ (setOuts a0 a1 a2 s).dict = s.dict ∧ (setOuts a0 a1 a2 s).field = s.field ∧
    (setOuts a0 a1 a2 s).pairs = s.pairs ∧ (setOuts a0 a1 a2 s).outs = s.outs ∧
    (setOuts a0 a1 a2 s).proc = s.proc ∧ (setOuts a0 a1 a2 s).col = s.col ∧
    (setOuts a0 a1 a2 s).breach = s.breach ∧ (setOuts a0 a1 a2 s).test = s.test ∧
    (setOuts a0 a1 a2 s).net = s.net ∧ (setOuts a0 a1 a2 s).led = s.led ∧ (setOuts a0 a1 a2 s).time = s.time ∧
    (setOuts a0 a1 a2 s).draws = s.draws := by
  simp [setOuts]

@[simp] theorem agreeRun_keeps (a0) (a1) (a2) (a3) (a4) (a5) (s : State) :
    (agreeRun a0 a1 a2 a3 a4 a5 s).2.pending = s.pending ∧ (agreeRun a0 a1 a2 a3 a4 a5 s).2.power = s.power ∧
    (agreeRun a0 a1 a2 a3 a4 a5 s).2.fuses = s.fuses ∧ (agreeRun a0 a1 a2 a3 a4 a5 s).2.cfg = s.cfg ∧
    (agreeRun a0 a1 a2 a3 a4 a5 s).2.dict = s.dict ∧ (agreeRun a0 a1 a2 a3 a4 a5 s).2.field = s.field ∧
    (agreeRun a0 a1 a2 a3 a4 a5 s).2.pairs = s.pairs ∧ (agreeRun a0 a1 a2 a3 a4 a5 s).2.outs = s.outs ∧
    (agreeRun a0 a1 a2 a3 a4 a5 s).2.net = s.net ∧ (agreeRun a0 a1 a2 a3 a4 a5 s).2.time = s.time := by
  simp [agreeRun]

@[simp] theorem outBlk_keeps (a0) (a1) (a2) (a3) (a4) (s : State) :
    (outBlk a0 a1 a2 a3 a4 s).pending = s.pending ∧ (outBlk a0 a1 a2 a3 a4 s).power = s.power ∧
    (outBlk a0 a1 a2 a3 a4 s).fuses = s.fuses ∧ (outBlk a0 a1 a2 a3 a4 s).cfg = s.cfg ∧
    (outBlk a0 a1 a2 a3 a4 s).dict = s.dict ∧ (outBlk a0 a1 a2 a3 a4 s).field = s.field ∧
    (outBlk a0 a1 a2 a3 a4 s).pairs = s.pairs ∧ (outBlk a0 a1 a2 a3 a4 s).outs = s.outs ∧
    (outBlk a0 a1 a2 a3 a4 s).net = s.net ∧ (outBlk a0 a1 a2 a3 a4 s).time = s.time := by
  simp [outBlk]

@[simp] theorem edmCond_keeps (a0) (a1) (a2) (s : State) :
    (edmCond a0 a1 a2 s).pending = s.pending ∧ (edmCond a0 a1 a2 s).power = s.power ∧
    (edmCond a0 a1 a2 s).fuses = s.fuses ∧ (edmCond a0 a1 a2 s).cfg = s.cfg ∧ (edmCond a0 a1 a2 s).dict = s.dict ∧
    (edmCond a0 a1 a2 s).field = s.field ∧ (edmCond a0 a1 a2 s).pairs = s.pairs ∧
    (edmCond a0 a1 a2 s).outs = s.outs ∧ (edmCond a0 a1 a2 s).net = s.net ∧ (edmCond a0 a1 a2 s).time = s.time := by
  simp [edmCond]

@[simp] theorem edmFault_keeps (a0) (a1) (a2) (a3) (s : State) :
    (edmFault a0 a1 a2 a3 s).pending = s.pending ∧ (edmFault a0 a1 a2 a3 s).power = s.power ∧
    (edmFault a0 a1 a2 a3 s).fuses = s.fuses ∧ (edmFault a0 a1 a2 a3 s).cfg = s.cfg ∧
    (edmFault a0 a1 a2 a3 s).dict = s.dict ∧ (edmFault a0 a1 a2 a3 s).field = s.field ∧
    (edmFault a0 a1 a2 a3 s).pairs = s.pairs ∧ (edmFault a0 a1 a2 a3 s).outs = s.outs ∧
    (edmFault a0 a1 a2 a3 s).net = s.net ∧ (edmFault a0 a1 a2 a3 s).time = s.time := by
  simp [edmFault]

@[simp] theorem edmBlk_keeps (a0) (a1) (a2) (a3) (s : State) :
    (edmBlk a0 a1 a2 a3 s).pending = s.pending ∧ (edmBlk a0 a1 a2 a3 s).power = s.power ∧
    (edmBlk a0 a1 a2 a3 s).fuses = s.fuses ∧ (edmBlk a0 a1 a2 a3 s).cfg = s.cfg ∧
    (edmBlk a0 a1 a2 a3 s).dict = s.dict ∧ (edmBlk a0 a1 a2 a3 s).field = s.field ∧
    (edmBlk a0 a1 a2 a3 s).pairs = s.pairs ∧ (edmBlk a0 a1 a2 a3 s).net = s.net ∧
    (edmBlk a0 a1 a2 a3 s).time = s.time := by
  simp [edmBlk]

@[simp] theorem mechEnd_keeps (a0) (a1) (a2) (s : State) :
    (mechEnd a0 a1 a2 s).pending = s.pending ∧ (mechEnd a0 a1 a2 s).ctl = s.ctl ∧
    (mechEnd a0 a1 a2 s).power = s.power ∧ (mechEnd a0 a1 a2 s).fuses = s.fuses ∧
    (mechEnd a0 a1 a2 s).cfg = s.cfg ∧ (mechEnd a0 a1 a2 s).dict = s.dict ∧ (mechEnd a0 a1 a2 s).field = s.field ∧
    (mechEnd a0 a1 a2 s).pairs = s.pairs ∧ (mechEnd a0 a1 a2 s).array = s.array ∧
    (mechEnd a0 a1 a2 s).test = s.test ∧ (mechEnd a0 a1 a2 s).net = s.net ∧ (mechEnd a0 a1 a2 s).time = s.time ∧
    (mechEnd a0 a1 a2 s).draws = s.draws := by
  simp [mechEnd]

@[simp] theorem captureWave_keeps (a0) (s : State) :
    (captureWave a0 s).pending = s.pending ∧ (captureWave a0 s).ctl = s.ctl ∧ (captureWave a0 s).power = s.power ∧
    (captureWave a0 s).fuses = s.fuses ∧ (captureWave a0 s).cfg = s.cfg ∧ (captureWave a0 s).field = s.field ∧
    (captureWave a0 s).pairs = s.pairs ∧ (captureWave a0 s).array = s.array ∧ (captureWave a0 s).proc = s.proc ∧
    (captureWave a0 s).col = s.col ∧ (captureWave a0 s).breach = s.breach ∧ (captureWave a0 s).test = s.test ∧
    (captureWave a0 s).net = s.net ∧ (captureWave a0 s).led = s.led ∧ (captureWave a0 s).time = s.time := by
  simp [captureWave]

@[simp] theorem pullAbandon_keeps (a0) (a1) (s : State) :
    (pullAbandon a0 a1 s).pending = s.pending ∧ (pullAbandon a0 a1 s).ctl = s.ctl ∧
    (pullAbandon a0 a1 s).power = s.power ∧ (pullAbandon a0 a1 s).fuses = s.fuses ∧
    (pullAbandon a0 a1 s).cfg = s.cfg ∧ (pullAbandon a0 a1 s).field = s.field ∧
    (pullAbandon a0 a1 s).pairs = s.pairs ∧ (pullAbandon a0 a1 s).array = s.array ∧
    (pullAbandon a0 a1 s).proc = s.proc ∧ (pullAbandon a0 a1 s).col = s.col ∧
    (pullAbandon a0 a1 s).breach = s.breach ∧ (pullAbandon a0 a1 s).test = s.test ∧
    (pullAbandon a0 a1 s).net = s.net ∧ (pullAbandon a0 a1 s).led = s.led ∧
    (pullAbandon a0 a1 s).time = s.time := by
  simp [pullAbandon]

@[simp] theorem phaseEnd_keeps (a0) (a1) (a2) (s : State) :
    (phaseEnd a0 a1 a2 s).2.pending = s.pending ∧ (phaseEnd a0 a1 a2 s).2.ctl = s.ctl ∧
    (phaseEnd a0 a1 a2 s).2.power = s.power ∧ (phaseEnd a0 a1 a2 s).2.fuses = s.fuses ∧
    (phaseEnd a0 a1 a2 s).2.cfg = s.cfg ∧ (phaseEnd a0 a1 a2 s).2.dict = s.dict ∧
    (phaseEnd a0 a1 a2 s).2.field = s.field ∧ (phaseEnd a0 a1 a2 s).2.pairs = s.pairs ∧
    (phaseEnd a0 a1 a2 s).2.array = s.array ∧ (phaseEnd a0 a1 a2 s).2.test = s.test ∧
    (phaseEnd a0 a1 a2 s).2.net = s.net ∧ (phaseEnd a0 a1 a2 s).2.time = s.time ∧
    (phaseEnd a0 a1 a2 s).2.draws = s.draws := by
  simp [phaseEnd]

@[simp] theorem brakeBlk_keeps (a0) (a1) (a2) (a3) (s : State) :
    (brakeBlk a0 a1 a2 a3 s).pending = s.pending ∧ (brakeBlk a0 a1 a2 a3 s).power = s.power ∧
    (brakeBlk a0 a1 a2 a3 s).fuses = s.fuses ∧ (brakeBlk a0 a1 a2 a3 s).cfg = s.cfg ∧
    (brakeBlk a0 a1 a2 a3 s).field = s.field ∧ (brakeBlk a0 a1 a2 a3 s).pairs = s.pairs ∧
    (brakeBlk a0 a1 a2 a3 s).net = s.net ∧ (brakeBlk a0 a1 a2 a3 s).time = s.time := by
  simp [brakeBlk]

@[simp] theorem railSlot_keeps (a0) (a1) (a2) (s : State) :
    (railSlot a0 a1 a2 s).pending = s.pending ∧ (railSlot a0 a1 a2 s).power = s.power ∧
    (railSlot a0 a1 a2 s).fuses = s.fuses ∧ (railSlot a0 a1 a2 s).cfg = s.cfg ∧
    (railSlot a0 a1 a2 s).field = s.field ∧ (railSlot a0 a1 a2 s).pairs = s.pairs ∧
    (railSlot a0 a1 a2 s).net = s.net ∧ (railSlot a0 a1 a2 s).time = s.time := by
  simp only [railSlot]
  (repeat' split) <;> simp

@[simp] theorem railFault_keeps (a0) (a1) (a2) (s : State) :
    (railFault a0 a1 a2 s).pending = s.pending ∧ (railFault a0 a1 a2 s).power = s.power ∧
    (railFault a0 a1 a2 s).fuses = s.fuses ∧ (railFault a0 a1 a2 s).cfg = s.cfg ∧
    (railFault a0 a1 a2 s).dict = s.dict ∧ (railFault a0 a1 a2 s).field = s.field ∧
    (railFault a0 a1 a2 s).pairs = s.pairs ∧ (railFault a0 a1 a2 s).outs = s.outs ∧
    (railFault a0 a1 a2 s).net = s.net ∧ (railFault a0 a1 a2 s).time = s.time := by
  simp [railFault]

@[simp] theorem readNet_keeps (a0) (a1) (a2) (a3) (s : State) :
    (readNet a0 a1 a2 a3 s).pending = s.pending ∧ (readNet a0 a1 a2 a3 s).power = s.power ∧
    (readNet a0 a1 a2 a3 s).fuses = s.fuses ∧ (readNet a0 a1 a2 a3 s).cfg = s.cfg ∧
    (readNet a0 a1 a2 a3 s).dict = s.dict ∧ (readNet a0 a1 a2 a3 s).field = s.field ∧
    (readNet a0 a1 a2 a3 s).pairs = s.pairs ∧ (readNet a0 a1 a2 a3 s).outs = s.outs ∧
    (readNet a0 a1 a2 a3 s).net = s.net ∧ (readNet a0 a1 a2 a3 s).time = s.time := by
  simp only [readNet]
  (repeat' split) <;> simp

@[simp] theorem runSlot_keeps (a0) (a1) (a2) (s : State) :
    (runSlot a0 a1 a2 s).pending = s.pending ∧ (runSlot a0 a1 a2 s).power = s.power ∧
    (runSlot a0 a1 a2 s).fuses = s.fuses ∧ (runSlot a0 a1 a2 s).cfg = s.cfg ∧
    (runSlot a0 a1 a2 s).field = s.field ∧ (runSlot a0 a1 a2 s).pairs = s.pairs ∧
    (runSlot a0 a1 a2 s).net = s.net ∧ (runSlot a0 a1 a2 s).time = s.time := by
  simp [runSlot]

@[simp] theorem strike_keeps (a0) (a1) (a2) (s : State) :
    (strike a0 a1 a2 s).pending = s.pending ∧ (strike a0 a1 a2 s).ctl = s.ctl ∧
    (strike a0 a1 a2 s).power = s.power ∧ (strike a0 a1 a2 s).fuses = s.fuses ∧ (strike a0 a1 a2 s).cfg = s.cfg ∧
    (strike a0 a1 a2 s).dict = s.dict ∧ (strike a0 a1 a2 s).field = s.field ∧ (strike a0 a1 a2 s).pairs = s.pairs ∧
    (strike a0 a1 a2 s).outs = s.outs ∧ (strike a0 a1 a2 s).proc = s.proc ∧ (strike a0 a1 a2 s).col = s.col ∧
    (strike a0 a1 a2 s).breach = s.breach ∧ (strike a0 a1 a2 s).test = s.test ∧ (strike a0 a1 a2 s).net = s.net ∧
    (strike a0 a1 a2 s).led = s.led ∧ (strike a0 a1 a2 s).time = s.time ∧ (strike a0 a1 a2 s).draws = s.draws := by
  simp [strike]

@[simp] theorem strikeNet_keeps (a0) (a1) (s : State) :
    (strikeNet a0 a1 s).pending = s.pending ∧ (strikeNet a0 a1 s).ctl = s.ctl ∧
    (strikeNet a0 a1 s).power = s.power ∧ (strikeNet a0 a1 s).fuses = s.fuses ∧ (strikeNet a0 a1 s).cfg = s.cfg ∧
    (strikeNet a0 a1 s).dict = s.dict ∧ (strikeNet a0 a1 s).field = s.field ∧ (strikeNet a0 a1 s).pairs = s.pairs ∧
    (strikeNet a0 a1 s).outs = s.outs ∧ (strikeNet a0 a1 s).proc = s.proc ∧ (strikeNet a0 a1 s).col = s.col ∧
    (strikeNet a0 a1 s).breach = s.breach ∧ (strikeNet a0 a1 s).test = s.test ∧ (strikeNet a0 a1 s).net = s.net ∧
    (strikeNet a0 a1 s).led = s.led ∧ (strikeNet a0 a1 s).time = s.time ∧ (strikeNet a0 a1 s).draws = s.draws := by
  simp [strikeNet]

@[simp] theorem windowSlot_keeps (a0) (a1) (a2) (s : State) :
    (windowSlot a0 a1 a2 s).pending = s.pending ∧ (windowSlot a0 a1 a2 s).power = s.power ∧
    (windowSlot a0 a1 a2 s).fuses = s.fuses ∧ (windowSlot a0 a1 a2 s).cfg = s.cfg ∧
    (windowSlot a0 a1 a2 s).field = s.field ∧ (windowSlot a0 a1 a2 s).pairs = s.pairs ∧
    (windowSlot a0 a1 a2 s).net = s.net ∧ (windowSlot a0 a1 a2 s).time = s.time := by
  simp [windowSlot]

@[simp] theorem agreeInput_keeps (a0) (s : State) :
    (agreeInput a0 s).pending = s.pending ∧ (agreeInput a0 s).ctl = s.ctl ∧ (agreeInput a0 s).power = s.power ∧
    (agreeInput a0 s).fuses = s.fuses ∧ (agreeInput a0 s).cfg = s.cfg ∧ (agreeInput a0 s).dict = s.dict ∧
    (agreeInput a0 s).field = s.field ∧ (agreeInput a0 s).pairs = s.pairs ∧ (agreeInput a0 s).array = s.array ∧
    (agreeInput a0 s).outs = s.outs ∧ (agreeInput a0 s).test = s.test ∧ (agreeInput a0 s).net = s.net ∧
    (agreeInput a0 s).time = s.time ∧ (agreeInput a0 s).draws = s.draws := by
  simp [agreeInput]

@[simp] theorem agreeEntry_keeps (a0) (s : State) :
    (agreeEntry a0 s).pending = s.pending ∧ (agreeEntry a0 s).ctl = s.ctl ∧ (agreeEntry a0 s).power = s.power ∧
    (agreeEntry a0 s).fuses = s.fuses ∧ (agreeEntry a0 s).cfg = s.cfg ∧ (agreeEntry a0 s).dict = s.dict ∧
    (agreeEntry a0 s).field = s.field ∧ (agreeEntry a0 s).array = s.array ∧ (agreeEntry a0 s).outs = s.outs ∧
    (agreeEntry a0 s).test = s.test ∧ (agreeEntry a0 s).net = s.net ∧ (agreeEntry a0 s).time = s.time ∧
    (agreeEntry a0 s).draws = s.draws := by
  simp [agreeEntry]

@[simp] theorem takeSignal_keeps (a0) (a1) (s : State) :
    (takeSignal a0 a1 s).pending = s.pending ∧ (takeSignal a0 a1 s).power = s.power ∧
    (takeSignal a0 a1 s).fuses = s.fuses ∧ (takeSignal a0 a1 s).cfg = s.cfg ∧ (takeSignal a0 a1 s).dict = s.dict ∧
    (takeSignal a0 a1 s).field = s.field ∧ (takeSignal a0 a1 s).outs = s.outs ∧ (takeSignal a0 a1 s).net = s.net ∧
    (takeSignal a0 a1 s).time = s.time := by
  simp [takeSignal]

@[simp] theorem latchPhase_keeps (a0) (a1) (s : State) :
    (latchPhase a0 a1 s).pending = s.pending ∧ (latchPhase a0 a1 s).power = s.power ∧
    (latchPhase a0 a1 s).fuses = s.fuses ∧ (latchPhase a0 a1 s).cfg = s.cfg ∧ (latchPhase a0 a1 s).dict = s.dict ∧
    (latchPhase a0 a1 s).field = s.field ∧ (latchPhase a0 a1 s).outs = s.outs ∧
    (latchPhase a0 a1 s).net = s.net := by
  simp [latchPhase]

@[simp] theorem statusBad_keeps (a0) (a1) (s : State) :
    (statusBad a0 a1 s).pending = s.pending ∧ (statusBad a0 a1 s).power = s.power ∧
    (statusBad a0 a1 s).fuses = s.fuses ∧ (statusBad a0 a1 s).cfg = s.cfg ∧ (statusBad a0 a1 s).dict = s.dict ∧
    (statusBad a0 a1 s).field = s.field ∧ (statusBad a0 a1 s).pairs = s.pairs ∧ (statusBad a0 a1 s).outs = s.outs ∧
    (statusBad a0 a1 s).net = s.net ∧ (statusBad a0 a1 s).time = s.time := by
  simp [statusBad]

@[simp] theorem statusPhase_keeps (a0) (a1) (s : State) :
    (statusPhase a0 a1 s).pending = s.pending ∧ (statusPhase a0 a1 s).power = s.power ∧
    (statusPhase a0 a1 s).fuses = s.fuses ∧ (statusPhase a0 a1 s).cfg = s.cfg ∧
    (statusPhase a0 a1 s).dict = s.dict ∧ (statusPhase a0 a1 s).field = s.field ∧
    (statusPhase a0 a1 s).pairs = s.pairs ∧ (statusPhase a0 a1 s).outs = s.outs ∧
    (statusPhase a0 a1 s).net = s.net ∧ (statusPhase a0 a1 s).time = s.time := by
  simp [statusPhase]

@[simp] theorem commitPhase_keeps (a0) (a1) (s : State) :
    (commitPhase a0 a1 s).pending = s.pending ∧ (commitPhase a0 a1 s).power = s.power ∧
    (commitPhase a0 a1 s).fuses = s.fuses ∧ (commitPhase a0 a1 s).cfg = s.cfg ∧
    (commitPhase a0 a1 s).dict = s.dict ∧ (commitPhase a0 a1 s).field = s.field ∧
    (commitPhase a0 a1 s).pairs = s.pairs ∧ (commitPhase a0 a1 s).net = s.net ∧
    (commitPhase a0 a1 s).time = s.time := by
  simp [commitPhase]

@[simp] theorem slotsPhase_keeps (a0) (a1) (a2) (s : State) :
    (slotsPhase a0 a1 a2 s).pending = s.pending ∧ (slotsPhase a0 a1 a2 s).power = s.power ∧
    (slotsPhase a0 a1 a2 s).fuses = s.fuses ∧ (slotsPhase a0 a1 a2 s).cfg = s.cfg ∧
    (slotsPhase a0 a1 a2 s).field = s.field ∧ (slotsPhase a0 a1 a2 s).pairs = s.pairs ∧
    (slotsPhase a0 a1 a2 s).net = s.net ∧ (slotsPhase a0 a1 a2 s).time = s.time := by
  simp only [slotsPhase]
  (repeat' split) <;> simp

@[simp] theorem scanPhase_keeps (a0) (a1) (a2) (s : State) :
    (scanPhase a0 a1 a2 s).pending = s.pending ∧ (scanPhase a0 a1 a2 s).power = s.power ∧
    (scanPhase a0 a1 a2 s).fuses = s.fuses ∧ (scanPhase a0 a1 a2 s).cfg = s.cfg ∧
    (scanPhase a0 a1 a2 s).dict = s.dict ∧ (scanPhase a0 a1 a2 s).field = s.field ∧
    (scanPhase a0 a1 a2 s).pairs = s.pairs ∧ (scanPhase a0 a1 a2 s).outs = s.outs ∧
    (scanPhase a0 a1 a2 s).net = s.net ∧ (scanPhase a0 a1 a2 s).time = s.time := by
  simp only [scanPhase]
  (repeat' split) <;> simp

@[simp] theorem arrayBack_keeps (a0) (s : State) :
    (arrayBack a0 s).pending = s.pending ∧ (arrayBack a0 s).ctl = s.ctl ∧ (arrayBack a0 s).power = s.power ∧
    (arrayBack a0 s).fuses = s.fuses ∧ (arrayBack a0 s).cfg = s.cfg ∧ (arrayBack a0 s).dict = s.dict ∧
    (arrayBack a0 s).field = s.field ∧ (arrayBack a0 s).pairs = s.pairs ∧ (arrayBack a0 s).outs = s.outs ∧
    (arrayBack a0 s).proc = s.proc ∧ (arrayBack a0 s).col = s.col ∧ (arrayBack a0 s).breach = s.breach ∧
    (arrayBack a0 s).test = s.test ∧ (arrayBack a0 s).net = s.net ∧ (arrayBack a0 s).led = s.led ∧
    (arrayBack a0 s).time = s.time ∧ (arrayBack a0 s).draws = s.draws := by
  simp [arrayBack]

@[simp] theorem takeSnap_keeps (a0) (s : State) :
    (takeSnap a0 s).pending = s.pending ∧ (takeSnap a0 s).ctl = s.ctl ∧ (takeSnap a0 s).power = s.power ∧
    (takeSnap a0 s).fuses = s.fuses ∧ (takeSnap a0 s).cfg = s.cfg ∧ (takeSnap a0 s).dict = s.dict ∧
    (takeSnap a0 s).field = s.field ∧ (takeSnap a0 s).pairs = s.pairs ∧ (takeSnap a0 s).array = s.array ∧
    (takeSnap a0 s).outs = s.outs ∧ (takeSnap a0 s).proc = s.proc ∧ (takeSnap a0 s).col = s.col ∧
    (takeSnap a0 s).breach = s.breach ∧ (takeSnap a0 s).net = s.net ∧ (takeSnap a0 s).led = s.led ∧
    (takeSnap a0 s).time = s.time ∧ (takeSnap a0 s).draws = s.draws := by
  simp [takeSnap]

@[simp] theorem slotDue_keeps (a0) (a1) (a2) (a3) (s : State) :
    (slotDue a0 a1 a2 a3 s).pending = s.pending ∧ (slotDue a0 a1 a2 a3 s).power = s.power ∧
    (slotDue a0 a1 a2 a3 s).fuses = s.fuses ∧ (slotDue a0 a1 a2 a3 s).cfg = s.cfg ∧
    (slotDue a0 a1 a2 a3 s).field = s.field ∧ (slotDue a0 a1 a2 a3 s).pairs = s.pairs ∧
    (slotDue a0 a1 a2 a3 s).net = s.net := by
  simp [slotDue]

@[simp] theorem settleSite_keeps (a0) (s : State) :
    (settleSite a0 s).pending = s.pending ∧ (settleSite a0 s).ctl = s.ctl ∧ (settleSite a0 s).power = s.power ∧
    (settleSite a0 s).fuses = s.fuses ∧ (settleSite a0 s).cfg = s.cfg ∧ (settleSite a0 s).dict = s.dict ∧
    (settleSite a0 s).field = s.field ∧ (settleSite a0 s).pairs = s.pairs ∧ (settleSite a0 s).array = s.array ∧
    (settleSite a0 s).test = s.test ∧ (settleSite a0 s).net = s.net ∧ (settleSite a0 s).time = s.time ∧
    (settleSite a0 s).draws = s.draws := by
  simp [settleSite]

@[simp] theorem elemFault_keeps (a0) (a1) (a2) (a3) (s : State) :
    (elemFault a0 a1 a2 a3 s).pending = s.pending ∧ (elemFault a0 a1 a2 a3 s).power = s.power ∧
    (elemFault a0 a1 a2 a3 s).fuses = s.fuses ∧ (elemFault a0 a1 a2 a3 s).cfg = s.cfg ∧
    (elemFault a0 a1 a2 a3 s).dict = s.dict ∧ (elemFault a0 a1 a2 a3 s).field = s.field ∧
    (elemFault a0 a1 a2 a3 s).pairs = s.pairs ∧ (elemFault a0 a1 a2 a3 s).net = s.net ∧
    (elemFault a0 a1 a2 a3 s).time = s.time := by
  simp [elemFault]

@[simp] theorem bridged_keeps (a0) (a1) (s : State) :
    (bridged a0 a1 s).pending = s.pending ∧ (bridged a0 a1 s).power = s.power ∧ (bridged a0 a1 s).fuses = s.fuses ∧
    (bridged a0 a1 s).cfg = s.cfg ∧ (bridged a0 a1 s).dict = s.dict ∧ (bridged a0 a1 s).field = s.field ∧
    (bridged a0 a1 s).pairs = s.pairs ∧ (bridged a0 a1 s).net = s.net ∧ (bridged a0 a1 s).time = s.time := by
  simp [bridged]

@[simp] theorem darkNote_keeps (a0) (a1) (s : State) :
    (darkNote a0 a1 s).pending = s.pending ∧ (darkNote a0 a1 s).ctl = s.ctl ∧ (darkNote a0 a1 s).power = s.power ∧
    (darkNote a0 a1 s).fuses = s.fuses ∧ (darkNote a0 a1 s).cfg = s.cfg ∧ (darkNote a0 a1 s).dict = s.dict ∧
    (darkNote a0 a1 s).field = s.field ∧ (darkNote a0 a1 s).pairs = s.pairs ∧ (darkNote a0 a1 s).array = s.array ∧
    (darkNote a0 a1 s).outs = s.outs ∧ (darkNote a0 a1 s).proc = s.proc ∧ (darkNote a0 a1 s).test = s.test ∧
    (darkNote a0 a1 s).net = s.net ∧ (darkNote a0 a1 s).time = s.time ∧ (darkNote a0 a1 s).draws = s.draws := by
  simp [darkNote]

@[simp] theorem darkFault_keeps (a0) (a1) (a2) (a3) (s : State) :
    (darkFault a0 a1 a2 a3 s).pending = s.pending ∧ (darkFault a0 a1 a2 a3 s).power = s.power ∧
    (darkFault a0 a1 a2 a3 s).fuses = s.fuses ∧ (darkFault a0 a1 a2 a3 s).cfg = s.cfg ∧
    (darkFault a0 a1 a2 a3 s).dict = s.dict ∧ (darkFault a0 a1 a2 a3 s).field = s.field ∧
    (darkFault a0 a1 a2 a3 s).pairs = s.pairs ∧ (darkFault a0 a1 a2 a3 s).net = s.net ∧
    (darkFault a0 a1 a2 a3 s).time = s.time := by
  simp only [darkFault]
  (repeat' split) <;> simp

@[simp] theorem setSupply_keeps (a0) (a1) (a2) (s : State) :
    (setSupply a0 a1 a2 s).pending = s.pending ∧ (setSupply a0 a1 a2 s).ctl = s.ctl ∧
    (setSupply a0 a1 a2 s).fuses = s.fuses ∧ (setSupply a0 a1 a2 s).cfg = s.cfg ∧
    (setSupply a0 a1 a2 s).dict = s.dict ∧ (setSupply a0 a1 a2 s).field = s.field ∧
    (setSupply a0 a1 a2 s).pairs = s.pairs ∧ (setSupply a0 a1 a2 s).array = s.array ∧
    (setSupply a0 a1 a2 s).outs = s.outs ∧ (setSupply a0 a1 a2 s).proc = s.proc ∧
    (setSupply a0 a1 a2 s).col = s.col ∧ (setSupply a0 a1 a2 s).breach = s.breach ∧
    (setSupply a0 a1 a2 s).test = s.test ∧ (setSupply a0 a1 a2 s).net = s.net ∧
    (setSupply a0 a1 a2 s).led = s.led ∧ (setSupply a0 a1 a2 s).time = s.time ∧
    (setSupply a0 a1 a2 s).draws = s.draws := by
  simp [setSupply]

@[simp] theorem tpSources_keeps (a0) (a1) (s : State) :
    (tpSources a0 a1 s).pending = s.pending ∧ (tpSources a0 a1 s).ctl = s.ctl ∧
    (tpSources a0 a1 s).power = s.power ∧ (tpSources a0 a1 s).fuses = s.fuses ∧ (tpSources a0 a1 s).cfg = s.cfg ∧
    (tpSources a0 a1 s).dict = s.dict ∧ (tpSources a0 a1 s).pairs = s.pairs ∧ (tpSources a0 a1 s).array = s.array ∧
    (tpSources a0 a1 s).outs = s.outs ∧ (tpSources a0 a1 s).proc = s.proc ∧ (tpSources a0 a1 s).col = s.col ∧
    (tpSources a0 a1 s).breach = s.breach ∧ (tpSources a0 a1 s).test = s.test ∧ (tpSources a0 a1 s).net = s.net ∧
    (tpSources a0 a1 s).led = s.led ∧ (tpSources a0 a1 s).time = s.time ∧ (tpSources a0 a1 s).draws = s.draws := by
  simp [tpSources]

@[simp] theorem dropDark_keeps (a0) (s : State) :
    (dropDark a0 s).pending = s.pending ∧ (dropDark a0 s).ctl = s.ctl ∧ (dropDark a0 s).power = s.power ∧
    (dropDark a0 s).fuses = s.fuses ∧ (dropDark a0 s).cfg = s.cfg ∧ (dropDark a0 s).dict = s.dict ∧
    (dropDark a0 s).field = s.field ∧ (dropDark a0 s).pairs = s.pairs ∧ (dropDark a0 s).array = s.array ∧
    (dropDark a0 s).proc = s.proc ∧ (dropDark a0 s).col = s.col ∧ (dropDark a0 s).breach = s.breach ∧
    (dropDark a0 s).test = s.test ∧ (dropDark a0 s).net = s.net ∧ (dropDark a0 s).led = s.led ∧
    (dropDark a0 s).time = s.time ∧ (dropDark a0 s).draws = s.draws := by
  simp [dropDark]

@[simp] theorem supplyTrip_keeps (a0) (a1) (a2) (s : State) :
    (supplyTrip a0 a1 a2 s).pending = s.pending ∧ (supplyTrip a0 a1 a2 s).fuses = s.fuses ∧
    (supplyTrip a0 a1 a2 s).cfg = s.cfg ∧ (supplyTrip a0 a1 a2 s).dict = s.dict ∧
    (supplyTrip a0 a1 a2 s).net = s.net ∧ (supplyTrip a0 a1 a2 s).time = s.time := by
  simp [supplyTrip]

@[simp] theorem coilFault_keeps (a0) (a1) (s : State) :
    (coilFault a0 a1 s).pending = s.pending ∧ (coilFault a0 a1 s).power = s.power ∧
    (coilFault a0 a1 s).fuses = s.fuses ∧ (coilFault a0 a1 s).cfg = s.cfg ∧ (coilFault a0 a1 s).field = s.field ∧
    (coilFault a0 a1 s).pairs = s.pairs ∧ (coilFault a0 a1 s).net = s.net ∧ (coilFault a0 a1 s).time = s.time := by
  simp [coilFault]

@[simp] theorem wearCheck_keeps (a0) (s : State) :
    (wearCheck a0 s).pending = s.pending ∧ (wearCheck a0 s).power = s.power ∧ (wearCheck a0 s).fuses = s.fuses ∧
    (wearCheck a0 s).cfg = s.cfg ∧ (wearCheck a0 s).dict = s.dict ∧ (wearCheck a0 s).field = s.field ∧
    (wearCheck a0 s).pairs = s.pairs ∧ (wearCheck a0 s).outs = s.outs ∧ (wearCheck a0 s).net = s.net ∧
    (wearCheck a0 s).time = s.time := by
  simp [wearCheck]

@[simp] theorem relearnOut_keeps (a0) (s : State) :
    (relearnOut a0 s).pending = s.pending ∧ (relearnOut a0 s).ctl = s.ctl ∧ (relearnOut a0 s).power = s.power ∧
    (relearnOut a0 s).fuses = s.fuses ∧ (relearnOut a0 s).cfg = s.cfg ∧ (relearnOut a0 s).dict = s.dict ∧
    (relearnOut a0 s).field = s.field ∧ (relearnOut a0 s).pairs = s.pairs ∧ (relearnOut a0 s).array = s.array ∧
    (relearnOut a0 s).proc = s.proc ∧ (relearnOut a0 s).test = s.test ∧ (relearnOut a0 s).net = s.net ∧
    (relearnOut a0 s).time = s.time ∧ (relearnOut a0 s).draws = s.draws := by
  simp [relearnOut]

@[simp] theorem relearnBrake_keeps (a0) (s : State) :
    (relearnBrake a0 s).pending = s.pending ∧ (relearnBrake a0 s).ctl = s.ctl ∧
    (relearnBrake a0 s).power = s.power ∧ (relearnBrake a0 s).fuses = s.fuses ∧ (relearnBrake a0 s).cfg = s.cfg ∧
    (relearnBrake a0 s).dict = s.dict ∧ (relearnBrake a0 s).field = s.field ∧ (relearnBrake a0 s).pairs = s.pairs ∧
    (relearnBrake a0 s).array = s.array ∧ (relearnBrake a0 s).proc = s.proc ∧ (relearnBrake a0 s).test = s.test ∧
    (relearnBrake a0 s).net = s.net ∧ (relearnBrake a0 s).time = s.time ∧ (relearnBrake a0 s).draws = s.draws := by
  simp [relearnBrake]

@[simp] theorem relearn_keeps (a0) (s : State) :
    (relearn a0 s).pending = s.pending ∧ (relearn a0 s).ctl = s.ctl ∧ (relearn a0 s).power = s.power ∧
    (relearn a0 s).fuses = s.fuses ∧ (relearn a0 s).cfg = s.cfg ∧ (relearn a0 s).dict = s.dict ∧
    (relearn a0 s).field = s.field ∧ (relearn a0 s).pairs = s.pairs ∧ (relearn a0 s).array = s.array ∧
    (relearn a0 s).proc = s.proc ∧ (relearn a0 s).test = s.test ∧ (relearn a0 s).net = s.net ∧
    (relearn a0 s).time = s.time ∧ (relearn a0 s).draws = s.draws := by
  simp [relearn]

@[simp] theorem relearnSite_keeps (a0) (a1) (a2) (s : State) :
    (relearnSite a0 a1 a2 s).pending = s.pending ∧ (relearnSite a0 a1 a2 s).ctl = s.ctl ∧
    (relearnSite a0 a1 a2 s).power = s.power ∧ (relearnSite a0 a1 a2 s).fuses = s.fuses ∧
    (relearnSite a0 a1 a2 s).cfg = s.cfg ∧ (relearnSite a0 a1 a2 s).dict = s.dict ∧
    (relearnSite a0 a1 a2 s).field = s.field ∧ (relearnSite a0 a1 a2 s).pairs = s.pairs ∧
    (relearnSite a0 a1 a2 s).array = s.array ∧ (relearnSite a0 a1 a2 s).proc = s.proc ∧
    (relearnSite a0 a1 a2 s).test = s.test ∧ (relearnSite a0 a1 a2 s).net = s.net ∧
    (relearnSite a0 a1 a2 s).time = s.time ∧ (relearnSite a0 a1 a2 s).draws = s.draws := by
  simp [relearnSite]

@[simp] theorem relearnChanged_keeps (a0) (a1) (s : State) :
    (relearnChanged a0 a1 s).pending = s.pending ∧ (relearnChanged a0 a1 s).ctl = s.ctl ∧
    (relearnChanged a0 a1 s).power = s.power ∧ (relearnChanged a0 a1 s).fuses = s.fuses ∧
    (relearnChanged a0 a1 s).cfg = s.cfg ∧ (relearnChanged a0 a1 s).dict = s.dict ∧
    (relearnChanged a0 a1 s).field = s.field ∧ (relearnChanged a0 a1 s).pairs = s.pairs ∧
    (relearnChanged a0 a1 s).array = s.array ∧ (relearnChanged a0 a1 s).proc = s.proc ∧
    (relearnChanged a0 a1 s).test = s.test ∧ (relearnChanged a0 a1 s).net = s.net ∧
    (relearnChanged a0 a1 s).time = s.time ∧ (relearnChanged a0 a1 s).draws = s.draws := by
  simp [relearnChanged]

@[simp] theorem modPower_keeps (a0) (s : State) :
    (modPower a0 s).pending = s.pending ∧ (modPower a0 s).ctl = s.ctl ∧ (modPower a0 s).fuses = s.fuses ∧
    (modPower a0 s).cfg = s.cfg ∧ (modPower a0 s).dict = s.dict ∧ (modPower a0 s).field = s.field ∧
    (modPower a0 s).pairs = s.pairs ∧ (modPower a0 s).array = s.array ∧ (modPower a0 s).outs = s.outs ∧
    (modPower a0 s).proc = s.proc ∧ (modPower a0 s).col = s.col ∧ (modPower a0 s).breach = s.breach ∧
    (modPower a0 s).test = s.test ∧ (modPower a0 s).net = s.net ∧ (modPower a0 s).led = s.led ∧
    (modPower a0 s).time = s.time ∧ (modPower a0 s).draws = s.draws := by
  simp [modPower]

@[simp] theorem setRails_keeps (a0) (s : State) :
    (setRails a0 s).pending = s.pending ∧ (setRails a0 s).ctl = s.ctl ∧ (setRails a0 s).fuses = s.fuses ∧
    (setRails a0 s).cfg = s.cfg ∧ (setRails a0 s).dict = s.dict ∧ (setRails a0 s).field = s.field ∧
    (setRails a0 s).pairs = s.pairs ∧ (setRails a0 s).array = s.array ∧ (setRails a0 s).outs = s.outs ∧
    (setRails a0 s).proc = s.proc ∧ (setRails a0 s).col = s.col ∧ (setRails a0 s).breach = s.breach ∧
    (setRails a0 s).test = s.test ∧ (setRails a0 s).net = s.net ∧ (setRails a0 s).led = s.led ∧
    (setRails a0 s).time = s.time ∧ (setRails a0 s).draws = s.draws := by
  simp [setRails]

@[simp] theorem setVhold_keeps (a0) (s : State) :
    (setVhold a0 s).pending = s.pending ∧ (setVhold a0 s).ctl = s.ctl ∧ (setVhold a0 s).fuses = s.fuses ∧
    (setVhold a0 s).cfg = s.cfg ∧ (setVhold a0 s).dict = s.dict ∧ (setVhold a0 s).field = s.field ∧
    (setVhold a0 s).pairs = s.pairs ∧ (setVhold a0 s).array = s.array ∧ (setVhold a0 s).outs = s.outs ∧
    (setVhold a0 s).proc = s.proc ∧ (setVhold a0 s).col = s.col ∧ (setVhold a0 s).breach = s.breach ∧
    (setVhold a0 s).test = s.test ∧ (setVhold a0 s).net = s.net ∧ (setVhold a0 s).led = s.led ∧
    (setVhold a0 s).time = s.time ∧ (setVhold a0 s).draws = s.draws := by
  simp [setVhold]

@[simp] theorem holdAt_keeps (a0) (s : State) :
    (holdAt a0 s).pending = s.pending ∧ (holdAt a0 s).power = s.power ∧ (holdAt a0 s).fuses = s.fuses ∧
    (holdAt a0 s).cfg = s.cfg ∧ (holdAt a0 s).dict = s.dict ∧ (holdAt a0 s).field = s.field ∧
    (holdAt a0 s).pairs = s.pairs ∧ (holdAt a0 s).array = s.array ∧ (holdAt a0 s).outs = s.outs ∧
    (holdAt a0 s).proc = s.proc ∧ (holdAt a0 s).col = s.col ∧ (holdAt a0 s).breach = s.breach ∧
    (holdAt a0 s).test = s.test ∧ (holdAt a0 s).net = s.net ∧ (holdAt a0 s).led = s.led ∧
    (holdAt a0 s).time = s.time ∧ (holdAt a0 s).draws = s.draws := by
  simp [holdAt]

@[simp] theorem faultHalt_keeps (a0) (a1) (s : State) :
    (faultHalt a0 a1 s).pending = s.pending ∧ (faultHalt a0 a1 s).power = s.power ∧
    (faultHalt a0 a1 s).fuses = s.fuses ∧ (faultHalt a0 a1 s).cfg = s.cfg ∧ (faultHalt a0 a1 s).field = s.field ∧
    (faultHalt a0 a1 s).pairs = s.pairs ∧ (faultHalt a0 a1 s).outs = s.outs := by
  simp [faultHalt]

@[simp] theorem setTemp_keeps (a0) (a1) (s : State) :
    (setTemp a0 a1 s).pending = s.pending ∧ (setTemp a0 a1 s).ctl = s.ctl ∧ (setTemp a0 a1 s).fuses = s.fuses ∧
    (setTemp a0 a1 s).cfg = s.cfg ∧ (setTemp a0 a1 s).dict = s.dict ∧ (setTemp a0 a1 s).field = s.field ∧
    (setTemp a0 a1 s).pairs = s.pairs ∧ (setTemp a0 a1 s).array = s.array ∧ (setTemp a0 a1 s).outs = s.outs ∧
    (setTemp a0 a1 s).proc = s.proc ∧ (setTemp a0 a1 s).col = s.col ∧ (setTemp a0 a1 s).breach = s.breach ∧
    (setTemp a0 a1 s).test = s.test ∧ (setTemp a0 a1 s).net = s.net ∧ (setTemp a0 a1 s).led = s.led ∧
    (setTemp a0 a1 s).time = s.time ∧ (setTemp a0 a1 s).draws = s.draws := by
  simp [setTemp]

@[simp] theorem dropFlush_keeps (s : State) :
    (dropFlush s).pending = s.pending ∧ (dropFlush s).ctl = s.ctl ∧ (dropFlush s).power = s.power ∧
    (dropFlush s).fuses = s.fuses ∧ (dropFlush s).cfg = s.cfg ∧ (dropFlush s).dict = s.dict ∧
    (dropFlush s).field = s.field ∧ (dropFlush s).pairs = s.pairs ∧ (dropFlush s).array = s.array ∧
    (dropFlush s).outs = s.outs ∧ (dropFlush s).proc = s.proc ∧ (dropFlush s).test = s.test ∧
    (dropFlush s).net = s.net ∧ (dropFlush s).time = s.time ∧ (dropFlush s).draws = s.draws := by
  simp [dropFlush]

@[simp] theorem modPort_keeps (a0) (a1) (s : State) :
    (modPort a0 a1 s).pending = s.pending ∧ (modPort a0 a1 s).ctl = s.ctl ∧ (modPort a0 a1 s).power = s.power ∧
    (modPort a0 a1 s).fuses = s.fuses ∧ (modPort a0 a1 s).cfg = s.cfg ∧ (modPort a0 a1 s).dict = s.dict ∧
    (modPort a0 a1 s).field = s.field ∧ (modPort a0 a1 s).pairs = s.pairs ∧ (modPort a0 a1 s).array = s.array ∧
    (modPort a0 a1 s).outs = s.outs ∧ (modPort a0 a1 s).proc = s.proc ∧ (modPort a0 a1 s).col = s.col ∧
    (modPort a0 a1 s).breach = s.breach ∧ (modPort a0 a1 s).test = s.test ∧ (modPort a0 a1 s).led = s.led ∧
    (modPort a0 a1 s).time = s.time ∧ (modPort a0 a1 s).draws = s.draws := by
  simp [modPort]

@[simp] theorem modSwitch_keeps (a0) (a1) (s : State) :
    (modSwitch a0 a1 s).pending = s.pending ∧ (modSwitch a0 a1 s).ctl = s.ctl ∧
    (modSwitch a0 a1 s).power = s.power ∧ (modSwitch a0 a1 s).fuses = s.fuses ∧ (modSwitch a0 a1 s).cfg = s.cfg ∧
    (modSwitch a0 a1 s).dict = s.dict ∧ (modSwitch a0 a1 s).field = s.field ∧ (modSwitch a0 a1 s).pairs = s.pairs ∧
    (modSwitch a0 a1 s).array = s.array ∧ (modSwitch a0 a1 s).outs = s.outs ∧ (modSwitch a0 a1 s).proc = s.proc ∧
    (modSwitch a0 a1 s).col = s.col ∧ (modSwitch a0 a1 s).breach = s.breach ∧ (modSwitch a0 a1 s).test = s.test ∧
    (modSwitch a0 a1 s).led = s.led ∧ (modSwitch a0 a1 s).time = s.time ∧ (modSwitch a0 a1 s).draws = s.draws := by
  simp [modSwitch]

@[simp] theorem modCan_keeps (a0) (a1) (s : State) :
    (modCan a0 a1 s).pending = s.pending ∧ (modCan a0 a1 s).ctl = s.ctl ∧ (modCan a0 a1 s).power = s.power ∧
    (modCan a0 a1 s).fuses = s.fuses ∧ (modCan a0 a1 s).cfg = s.cfg ∧ (modCan a0 a1 s).dict = s.dict ∧
    (modCan a0 a1 s).field = s.field ∧ (modCan a0 a1 s).pairs = s.pairs ∧ (modCan a0 a1 s).array = s.array ∧
    (modCan a0 a1 s).outs = s.outs ∧ (modCan a0 a1 s).proc = s.proc ∧ (modCan a0 a1 s).col = s.col ∧
    (modCan a0 a1 s).breach = s.breach ∧ (modCan a0 a1 s).test = s.test ∧ (modCan a0 a1 s).led = s.led ∧
    (modCan a0 a1 s).time = s.time ∧ (modCan a0 a1 s).draws = s.draws := by
  simp [modCan]

@[simp] theorem modLink_keeps (a0) (a1) (s : State) :
    (modLink a0 a1 s).pending = s.pending ∧ (modLink a0 a1 s).ctl = s.ctl ∧ (modLink a0 a1 s).power = s.power ∧
    (modLink a0 a1 s).fuses = s.fuses ∧ (modLink a0 a1 s).cfg = s.cfg ∧ (modLink a0 a1 s).dict = s.dict ∧
    (modLink a0 a1 s).field = s.field ∧ (modLink a0 a1 s).pairs = s.pairs ∧ (modLink a0 a1 s).array = s.array ∧
    (modLink a0 a1 s).outs = s.outs ∧ (modLink a0 a1 s).proc = s.proc ∧ (modLink a0 a1 s).col = s.col ∧
    (modLink a0 a1 s).breach = s.breach ∧ (modLink a0 a1 s).test = s.test ∧ (modLink a0 a1 s).led = s.led ∧
    (modLink a0 a1 s).time = s.time ∧ (modLink a0 a1 s).draws = s.draws := by
  simp [modLink]

@[simp] theorem netNote_keeps (a0) (a1) (a2) (s : State) :
    (netNote a0 a1 a2 s).pending = s.pending ∧ (netNote a0 a1 a2 s).ctl = s.ctl ∧
    (netNote a0 a1 a2 s).power = s.power ∧ (netNote a0 a1 a2 s).fuses = s.fuses ∧
    (netNote a0 a1 a2 s).cfg = s.cfg ∧ (netNote a0 a1 a2 s).dict = s.dict ∧ (netNote a0 a1 a2 s).field = s.field ∧
    (netNote a0 a1 a2 s).pairs = s.pairs ∧ (netNote a0 a1 a2 s).array = s.array ∧
    (netNote a0 a1 a2 s).outs = s.outs ∧ (netNote a0 a1 a2 s).proc = s.proc ∧ (netNote a0 a1 a2 s).test = s.test ∧
    (netNote a0 a1 a2 s).net = s.net ∧ (netNote a0 a1 a2 s).time = s.time ∧
    (netNote a0 a1 a2 s).draws = s.draws := by
  simp [netNote]

@[simp] theorem withRedundancy_pending (w f) (s : State) (h : ∀ t, (f t).pending = t.pending) : (withRedundancy w f s).pending = s.pending := by
  simp only [withRedundancy]; split <;> simp [h]

@[simp] theorem withRedundancy_ctl (w f) (s : State) (h : ∀ t, (f t).ctl = t.ctl) : (withRedundancy w f s).ctl = s.ctl := by
  simp only [withRedundancy]; split <;> simp [h]

@[simp] theorem withRedundancy_power (w f) (s : State) (h : ∀ t, (f t).power = t.power) : (withRedundancy w f s).power = s.power := by
  simp only [withRedundancy]; split <;> simp [h]

@[simp] theorem withRedundancy_fuses (w f) (s : State) (h : ∀ t, (f t).fuses = t.fuses) : (withRedundancy w f s).fuses = s.fuses := by
  simp only [withRedundancy]; split <;> simp [h]

@[simp] theorem withRedundancy_cfg (w f) (s : State) (h : ∀ t, (f t).cfg = t.cfg) : (withRedundancy w f s).cfg = s.cfg := by
  simp only [withRedundancy]; split <;> simp [h]

@[simp] theorem withRedundancy_dict (w f) (s : State) (h : ∀ t, (f t).dict = t.dict) : (withRedundancy w f s).dict = s.dict := by
  simp only [withRedundancy]; split <;> simp [h]

@[simp] theorem withRedundancy_field (w f) (s : State) (h : ∀ t, (f t).field = t.field) : (withRedundancy w f s).field = s.field := by
  simp only [withRedundancy]; split <;> simp [h]

@[simp] theorem withRedundancy_pairs (w f) (s : State) (h : ∀ t, (f t).pairs = t.pairs) : (withRedundancy w f s).pairs = s.pairs := by
  simp only [withRedundancy]; split <;> simp [h]

@[simp] theorem withRedundancy_array (w f) (s : State) (h : ∀ t, (f t).array = t.array) : (withRedundancy w f s).array = s.array := by
  simp only [withRedundancy]; split <;> simp [h]

@[simp] theorem withRedundancy_outs (w f) (s : State) (h : ∀ t, (f t).outs = t.outs) : (withRedundancy w f s).outs = s.outs := by
  simp only [withRedundancy]; split <;> simp [h]

@[simp] theorem withRedundancy_proc (w f) (s : State) (h : ∀ t, (f t).proc = t.proc) : (withRedundancy w f s).proc = s.proc := by
  simp only [withRedundancy]; split <;> simp [h]

@[simp] theorem withRedundancy_test (w f) (s : State) (h : ∀ t, (f t).test = t.test) : (withRedundancy w f s).test = s.test := by
  simp only [withRedundancy]; split <;> simp [h]

@[simp] theorem withRedundancy_net (w f) (s : State) (h : ∀ t, (f t).net = t.net) : (withRedundancy w f s).net = s.net := by
  simp only [withRedundancy]; split <;> simp [h]

@[simp] theorem withRedundancy_time (w f) (s : State) (h : ∀ t, (f t).time = t.time) : (withRedundancy w f s).time = s.time := by
  simp only [withRedundancy]; split <;> simp [h]

@[simp] theorem withRedundancy_draws (w f) (s : State) (h : ∀ t, (f t).draws = t.draws) : (withRedundancy w f s).draws = s.draws := by
  simp only [withRedundancy]; split <;> simp [h]

@[simp] theorem sendPort_keeps (a0) (a1) (a2) (s : State) :
    (sendPort a0 a1 a2 s).pending = s.pending ∧ (sendPort a0 a1 a2 s).ctl = s.ctl ∧
    (sendPort a0 a1 a2 s).power = s.power ∧ (sendPort a0 a1 a2 s).fuses = s.fuses ∧
    (sendPort a0 a1 a2 s).cfg = s.cfg ∧ (sendPort a0 a1 a2 s).dict = s.dict ∧
    (sendPort a0 a1 a2 s).field = s.field ∧ (sendPort a0 a1 a2 s).pairs = s.pairs ∧
    (sendPort a0 a1 a2 s).array = s.array ∧ (sendPort a0 a1 a2 s).outs = s.outs ∧
    (sendPort a0 a1 a2 s).proc = s.proc ∧ (sendPort a0 a1 a2 s).test = s.test ∧
    (sendPort a0 a1 a2 s).time = s.time ∧ (sendPort a0 a1 a2 s).draws = s.draws := by
  simp [sendPort]

@[simp] theorem sendPorts_keeps (a0) (a1) (a2) (s : State) :
    (sendPorts a0 a1 a2 s).pending = s.pending ∧ (sendPorts a0 a1 a2 s).ctl = s.ctl ∧
    (sendPorts a0 a1 a2 s).power = s.power ∧ (sendPorts a0 a1 a2 s).fuses = s.fuses ∧
    (sendPorts a0 a1 a2 s).cfg = s.cfg ∧ (sendPorts a0 a1 a2 s).dict = s.dict ∧
    (sendPorts a0 a1 a2 s).field = s.field ∧ (sendPorts a0 a1 a2 s).pairs = s.pairs ∧
    (sendPorts a0 a1 a2 s).array = s.array ∧ (sendPorts a0 a1 a2 s).outs = s.outs ∧
    (sendPorts a0 a1 a2 s).proc = s.proc ∧ (sendPorts a0 a1 a2 s).test = s.test ∧
    (sendPorts a0 a1 a2 s).time = s.time ∧ (sendPorts a0 a1 a2 s).draws = s.draws := by
  simp [sendPorts]

@[simp] theorem stationSend_keeps (a0) (a1) (a2) (s : State) :
    (stationSend a0 a1 a2 s).pending = s.pending ∧ (stationSend a0 a1 a2 s).ctl = s.ctl ∧
    (stationSend a0 a1 a2 s).power = s.power ∧ (stationSend a0 a1 a2 s).fuses = s.fuses ∧
    (stationSend a0 a1 a2 s).cfg = s.cfg ∧ (stationSend a0 a1 a2 s).dict = s.dict ∧
    (stationSend a0 a1 a2 s).field = s.field ∧ (stationSend a0 a1 a2 s).pairs = s.pairs ∧
    (stationSend a0 a1 a2 s).array = s.array ∧ (stationSend a0 a1 a2 s).outs = s.outs ∧
    (stationSend a0 a1 a2 s).proc = s.proc ∧ (stationSend a0 a1 a2 s).test = s.test ∧
    (stationSend a0 a1 a2 s).time = s.time ∧ (stationSend a0 a1 a2 s).draws = s.draws := by
  simp only [stationSend]
  (repeat' split) <;> simp

@[simp] theorem setBus_keeps (a0) (a1) (s : State) :
    (setBus a0 a1 s).pending = s.pending ∧ (setBus a0 a1 s).ctl = s.ctl ∧ (setBus a0 a1 s).power = s.power ∧
    (setBus a0 a1 s).fuses = s.fuses ∧ (setBus a0 a1 s).cfg = s.cfg ∧ (setBus a0 a1 s).dict = s.dict ∧
    (setBus a0 a1 s).field = s.field ∧ (setBus a0 a1 s).pairs = s.pairs ∧ (setBus a0 a1 s).array = s.array ∧
    (setBus a0 a1 s).outs = s.outs ∧ (setBus a0 a1 s).proc = s.proc ∧ (setBus a0 a1 s).test = s.test ∧
    (setBus a0 a1 s).time = s.time ∧ (setBus a0 a1 s).draws = s.draws := by
  simp [setBus]

@[simp] theorem canSend_keeps (a0) (a1) (s : State) :
    (canSend a0 a1 s).pending = s.pending ∧ (canSend a0 a1 s).ctl = s.ctl ∧ (canSend a0 a1 s).power = s.power ∧
    (canSend a0 a1 s).fuses = s.fuses ∧ (canSend a0 a1 s).cfg = s.cfg ∧ (canSend a0 a1 s).dict = s.dict ∧
    (canSend a0 a1 s).field = s.field ∧ (canSend a0 a1 s).pairs = s.pairs ∧ (canSend a0 a1 s).array = s.array ∧
    (canSend a0 a1 s).outs = s.outs ∧ (canSend a0 a1 s).proc = s.proc ∧ (canSend a0 a1 s).test = s.test ∧
    (canSend a0 a1 s).time = s.time := by
  simp [canSend]

@[simp] theorem bootUp_keeps (a0) (s : State) :
    (bootUp a0 s).pending = s.pending ∧ (bootUp a0 s).ctl = s.ctl ∧ (bootUp a0 s).power = s.power ∧
    (bootUp a0 s).fuses = s.fuses ∧ (bootUp a0 s).cfg = s.cfg ∧ (bootUp a0 s).dict = s.dict ∧
    (bootUp a0 s).field = s.field ∧ (bootUp a0 s).pairs = s.pairs ∧ (bootUp a0 s).array = s.array ∧
    (bootUp a0 s).outs = s.outs ∧ (bootUp a0 s).proc = s.proc ∧ (bootUp a0 s).test = s.test ∧
    (bootUp a0 s).time = s.time := by
  simp [bootUp]

@[simp] theorem canStart_keeps (a0) (s : State) :
    (canStart a0 s).pending = s.pending ∧ (canStart a0 s).ctl = s.ctl ∧ (canStart a0 s).power = s.power ∧
    (canStart a0 s).fuses = s.fuses ∧ (canStart a0 s).cfg = s.cfg ∧ (canStart a0 s).dict = s.dict ∧
    (canStart a0 s).field = s.field ∧ (canStart a0 s).pairs = s.pairs ∧ (canStart a0 s).array = s.array ∧
    (canStart a0 s).outs = s.outs ∧ (canStart a0 s).proc = s.proc ∧ (canStart a0 s).test = s.test ∧
    (canStart a0 s).time = s.time := by
  simp [canStart]

@[simp] theorem cansStart_keeps (s : State) :
    (cansStart s).pending = s.pending ∧ (cansStart s).ctl = s.ctl ∧ (cansStart s).power = s.power ∧
    (cansStart s).fuses = s.fuses ∧ (cansStart s).cfg = s.cfg ∧ (cansStart s).dict = s.dict ∧
    (cansStart s).field = s.field ∧ (cansStart s).pairs = s.pairs ∧ (cansStart s).array = s.array ∧
    (cansStart s).outs = s.outs ∧ (cansStart s).proc = s.proc ∧ (cansStart s).test = s.test ∧
    (cansStart s).time = s.time := by
  simp [cansStart]

@[simp] theorem cansAgain_keeps (s : State) :
    (cansAgain s).pending = s.pending ∧ (cansAgain s).ctl = s.ctl ∧ (cansAgain s).power = s.power ∧
    (cansAgain s).fuses = s.fuses ∧ (cansAgain s).cfg = s.cfg ∧ (cansAgain s).dict = s.dict ∧
    (cansAgain s).field = s.field ∧ (cansAgain s).pairs = s.pairs ∧ (cansAgain s).array = s.array ∧
    (cansAgain s).outs = s.outs ∧ (cansAgain s).proc = s.proc ∧ (cansAgain s).test = s.test ∧
    (cansAgain s).time = s.time := by
  simp [cansAgain]

@[simp] theorem nmt_keeps (a0) (a1) (a2) (s : State) :
    (nmt a0 a1 a2 s).pending = s.pending ∧ (nmt a0 a1 a2 s).ctl = s.ctl ∧ (nmt a0 a1 a2 s).power = s.power ∧
    (nmt a0 a1 a2 s).fuses = s.fuses ∧ (nmt a0 a1 a2 s).cfg = s.cfg ∧ (nmt a0 a1 a2 s).dict = s.dict ∧
    (nmt a0 a1 a2 s).field = s.field ∧ (nmt a0 a1 a2 s).pairs = s.pairs ∧ (nmt a0 a1 a2 s).array = s.array ∧
    (nmt a0 a1 a2 s).outs = s.outs ∧ (nmt a0 a1 a2 s).proc = s.proc ∧ (nmt a0 a1 a2 s).test = s.test ∧
    (nmt a0 a1 a2 s).time = s.time := by
  simp [nmt]

@[simp] theorem linkSend_keeps (a0) (a1) (s : State) :
    (linkSend a0 a1 s).pending = s.pending ∧ (linkSend a0 a1 s).ctl = s.ctl ∧ (linkSend a0 a1 s).power = s.power ∧
    (linkSend a0 a1 s).fuses = s.fuses ∧ (linkSend a0 a1 s).cfg = s.cfg ∧ (linkSend a0 a1 s).dict = s.dict ∧
    (linkSend a0 a1 s).field = s.field ∧ (linkSend a0 a1 s).pairs = s.pairs ∧ (linkSend a0 a1 s).array = s.array ∧
    (linkSend a0 a1 s).outs = s.outs ∧ (linkSend a0 a1 s).proc = s.proc ∧ (linkSend a0 a1 s).col = s.col ∧
    (linkSend a0 a1 s).breach = s.breach ∧ (linkSend a0 a1 s).test = s.test ∧ (linkSend a0 a1 s).led = s.led ∧
    (linkSend a0 a1 s).time = s.time ∧ (linkSend a0 a1 s).draws = s.draws := by
  simp [linkSend]

@[simp] theorem setLink_keeps (a0) (a1) (s : State) :
    (setLink a0 a1 s).pending = s.pending ∧ (setLink a0 a1 s).ctl = s.ctl ∧ (setLink a0 a1 s).power = s.power ∧
    (setLink a0 a1 s).fuses = s.fuses ∧ (setLink a0 a1 s).cfg = s.cfg ∧ (setLink a0 a1 s).dict = s.dict ∧
    (setLink a0 a1 s).field = s.field ∧ (setLink a0 a1 s).pairs = s.pairs ∧ (setLink a0 a1 s).array = s.array ∧
    (setLink a0 a1 s).outs = s.outs ∧ (setLink a0 a1 s).proc = s.proc ∧ (setLink a0 a1 s).test = s.test ∧
    (setLink a0 a1 s).time = s.time ∧ (setLink a0 a1 s).draws = s.draws := by
  simp [setLink]

@[simp] theorem portsSettle_keeps (s : State) :
    (portsSettle s).pending = s.pending ∧ (portsSettle s).ctl = s.ctl ∧ (portsSettle s).power = s.power ∧
    (portsSettle s).fuses = s.fuses ∧ (portsSettle s).cfg = s.cfg ∧ (portsSettle s).dict = s.dict ∧
    (portsSettle s).field = s.field ∧ (portsSettle s).pairs = s.pairs ∧ (portsSettle s).array = s.array ∧
    (portsSettle s).outs = s.outs ∧ (portsSettle s).proc = s.proc ∧ (portsSettle s).test = s.test ∧
    (portsSettle s).time = s.time ∧ (portsSettle s).draws = s.draws := by
  simp [portsSettle]

@[simp] theorem netSettle_keeps (s : State) :
    (netSettle s).pending = s.pending ∧ (netSettle s).ctl = s.ctl ∧ (netSettle s).power = s.power ∧
    (netSettle s).fuses = s.fuses ∧ (netSettle s).cfg = s.cfg ∧ (netSettle s).dict = s.dict ∧
    (netSettle s).field = s.field ∧ (netSettle s).pairs = s.pairs ∧ (netSettle s).array = s.array ∧
    (netSettle s).outs = s.outs ∧ (netSettle s).proc = s.proc ∧ (netSettle s).test = s.test ∧
    (netSettle s).time = s.time := by
  simp [netSettle]

@[simp] theorem modConn_keeps (a0) (a1) (s : State) :
    (modConn a0 a1 s).pending = s.pending ∧ (modConn a0 a1 s).ctl = s.ctl ∧ (modConn a0 a1 s).power = s.power ∧
    (modConn a0 a1 s).fuses = s.fuses ∧ (modConn a0 a1 s).cfg = s.cfg ∧ (modConn a0 a1 s).dict = s.dict ∧
    (modConn a0 a1 s).field = s.field ∧ (modConn a0 a1 s).pairs = s.pairs ∧ (modConn a0 a1 s).array = s.array ∧
    (modConn a0 a1 s).outs = s.outs ∧ (modConn a0 a1 s).proc = s.proc ∧ (modConn a0 a1 s).col = s.col ∧
    (modConn a0 a1 s).breach = s.breach ∧ (modConn a0 a1 s).test = s.test ∧ (modConn a0 a1 s).led = s.led ∧
    (modConn a0 a1 s).time = s.time ∧ (modConn a0 a1 s).draws = s.draws := by
  simp [modConn]

@[simp] theorem modPairing_keeps (a0) (s : State) :
    (modPairing a0 s).pending = s.pending ∧ (modPairing a0 s).ctl = s.ctl ∧ (modPairing a0 s).power = s.power ∧
    (modPairing a0 s).fuses = s.fuses ∧ (modPairing a0 s).cfg = s.cfg ∧ (modPairing a0 s).dict = s.dict ∧
    (modPairing a0 s).field = s.field ∧ (modPairing a0 s).pairs = s.pairs ∧ (modPairing a0 s).array = s.array ∧
    (modPairing a0 s).outs = s.outs ∧ (modPairing a0 s).proc = s.proc ∧ (modPairing a0 s).col = s.col ∧
    (modPairing a0 s).breach = s.breach ∧ (modPairing a0 s).test = s.test ∧ (modPairing a0 s).led = s.led ∧
    (modPairing a0 s).time = s.time ∧ (modPairing a0 s).draws = s.draws := by
  simp [modPairing]

@[simp] theorem sendRoute_keeps (a0) (a1) (a2) (s : State) :
    (sendRoute a0 a1 a2 s).pending = s.pending ∧ (sendRoute a0 a1 a2 s).ctl = s.ctl ∧
    (sendRoute a0 a1 a2 s).power = s.power ∧ (sendRoute a0 a1 a2 s).fuses = s.fuses ∧
    (sendRoute a0 a1 a2 s).cfg = s.cfg ∧ (sendRoute a0 a1 a2 s).dict = s.dict ∧
    (sendRoute a0 a1 a2 s).field = s.field ∧ (sendRoute a0 a1 a2 s).pairs = s.pairs ∧
    (sendRoute a0 a1 a2 s).array = s.array ∧ (sendRoute a0 a1 a2 s).outs = s.outs ∧
    (sendRoute a0 a1 a2 s).proc = s.proc ∧ (sendRoute a0 a1 a2 s).test = s.test ∧
    (sendRoute a0 a1 a2 s).time = s.time := by
  simp only [sendRoute]
  (repeat' split) <;> simp

@[simp] theorem sendRoutes_keeps (a0) (a1) (s : State) :
    (sendRoutes a0 a1 s).pending = s.pending ∧ (sendRoutes a0 a1 s).ctl = s.ctl ∧
    (sendRoutes a0 a1 s).power = s.power ∧ (sendRoutes a0 a1 s).fuses = s.fuses ∧
    (sendRoutes a0 a1 s).cfg = s.cfg ∧ (sendRoutes a0 a1 s).dict = s.dict ∧ (sendRoutes a0 a1 s).field = s.field ∧
    (sendRoutes a0 a1 s).pairs = s.pairs ∧ (sendRoutes a0 a1 s).array = s.array ∧
    (sendRoutes a0 a1 s).outs = s.outs ∧ (sendRoutes a0 a1 s).proc = s.proc ∧ (sendRoutes a0 a1 s).test = s.test ∧
    (sendRoutes a0 a1 s).time = s.time := by
  simp [sendRoutes]

@[simp] theorem lateTelegram_keeps (a0) (a1) (a2) (s : State) :
    (lateTelegram a0 a1 a2 s).pending = s.pending ∧ (lateTelegram a0 a1 a2 s).ctl = s.ctl ∧
    (lateTelegram a0 a1 a2 s).power = s.power ∧ (lateTelegram a0 a1 a2 s).fuses = s.fuses ∧
    (lateTelegram a0 a1 a2 s).cfg = s.cfg ∧ (lateTelegram a0 a1 a2 s).dict = s.dict ∧
    (lateTelegram a0 a1 a2 s).field = s.field ∧ (lateTelegram a0 a1 a2 s).pairs = s.pairs ∧
    (lateTelegram a0 a1 a2 s).array = s.array ∧ (lateTelegram a0 a1 a2 s).outs = s.outs ∧
    (lateTelegram a0 a1 a2 s).proc = s.proc ∧ (lateTelegram a0 a1 a2 s).test = s.test ∧
    (lateTelegram a0 a1 a2 s).time = s.time ∧ (lateTelegram a0 a1 a2 s).draws = s.draws := by
  simp [lateTelegram]

@[simp] theorem sendConn_keeps (a0) (a1) (a2) (s : State) :
    (sendConn a0 a1 a2 s).pending = s.pending ∧ (sendConn a0 a1 a2 s).ctl = s.ctl ∧
    (sendConn a0 a1 a2 s).power = s.power ∧ (sendConn a0 a1 a2 s).fuses = s.fuses ∧
    (sendConn a0 a1 a2 s).cfg = s.cfg ∧ (sendConn a0 a1 a2 s).dict = s.dict ∧
    (sendConn a0 a1 a2 s).field = s.field ∧ (sendConn a0 a1 a2 s).pairs = s.pairs ∧
    (sendConn a0 a1 a2 s).array = s.array ∧ (sendConn a0 a1 a2 s).outs = s.outs ∧
    (sendConn a0 a1 a2 s).proc = s.proc ∧ (sendConn a0 a1 a2 s).test = s.test ∧
    (sendConn a0 a1 a2 s).time = s.time := by
  simp [sendConn]

@[simp] theorem sendList_pending (c k l) (s : State) : (sendList c k l s).pending = s.pending := by
  induction k generalizing l s with
  | nil => rfl
  | cons k ks ih => simp [sendList, ih]

@[simp] theorem sendList_ctl (c k l) (s : State) : (sendList c k l s).ctl = s.ctl := by
  induction k generalizing l s with
  | nil => rfl
  | cons k ks ih => simp [sendList, ih]

@[simp] theorem sendList_power (c k l) (s : State) : (sendList c k l s).power = s.power := by
  induction k generalizing l s with
  | nil => rfl
  | cons k ks ih => simp [sendList, ih]

@[simp] theorem sendList_fuses (c k l) (s : State) : (sendList c k l s).fuses = s.fuses := by
  induction k generalizing l s with
  | nil => rfl
  | cons k ks ih => simp [sendList, ih]

@[simp] theorem sendList_cfg (c k l) (s : State) : (sendList c k l s).cfg = s.cfg := by
  induction k generalizing l s with
  | nil => rfl
  | cons k ks ih => simp [sendList, ih]

@[simp] theorem sendList_dict (c k l) (s : State) : (sendList c k l s).dict = s.dict := by
  induction k generalizing l s with
  | nil => rfl
  | cons k ks ih => simp [sendList, ih]

@[simp] theorem sendList_field (c k l) (s : State) : (sendList c k l s).field = s.field := by
  induction k generalizing l s with
  | nil => rfl
  | cons k ks ih => simp [sendList, ih]

@[simp] theorem sendList_pairs (c k l) (s : State) : (sendList c k l s).pairs = s.pairs := by
  induction k generalizing l s with
  | nil => rfl
  | cons k ks ih => simp [sendList, ih]

@[simp] theorem sendList_array (c k l) (s : State) : (sendList c k l s).array = s.array := by
  induction k generalizing l s with
  | nil => rfl
  | cons k ks ih => simp [sendList, ih]

@[simp] theorem sendList_outs (c k l) (s : State) : (sendList c k l s).outs = s.outs := by
  induction k generalizing l s with
  | nil => rfl
  | cons k ks ih => simp [sendList, ih]

@[simp] theorem sendList_proc (c k l) (s : State) : (sendList c k l s).proc = s.proc := by
  induction k generalizing l s with
  | nil => rfl
  | cons k ks ih => simp [sendList, ih]

@[simp] theorem sendList_test (c k l) (s : State) : (sendList c k l s).test = s.test := by
  induction k generalizing l s with
  | nil => rfl
  | cons k ks ih => simp [sendList, ih]

@[simp] theorem sendList_time (c k l) (s : State) : (sendList c k l s).time = s.time := by
  induction k generalizing l s with
  | nil => rfl
  | cons k ks ih => simp [sendList, ih]

@[simp] theorem sendAll_keeps (a0) (s : State) :
    (sendAll a0 s).pending = s.pending ∧ (sendAll a0 s).ctl = s.ctl ∧ (sendAll a0 s).power = s.power ∧
    (sendAll a0 s).fuses = s.fuses ∧ (sendAll a0 s).cfg = s.cfg ∧ (sendAll a0 s).dict = s.dict ∧
    (sendAll a0 s).field = s.field ∧ (sendAll a0 s).pairs = s.pairs ∧ (sendAll a0 s).array = s.array ∧
    (sendAll a0 s).outs = s.outs ∧ (sendAll a0 s).proc = s.proc ∧ (sendAll a0 s).test = s.test ∧
    (sendAll a0 s).time = s.time := by
  simp [sendAll]

@[simp] theorem connStart_keeps (a0) (s : State) :
    (connStart a0 s).pending = s.pending ∧ (connStart a0 s).ctl = s.ctl ∧ (connStart a0 s).power = s.power ∧
    (connStart a0 s).fuses = s.fuses ∧ (connStart a0 s).cfg = s.cfg ∧ (connStart a0 s).dict = s.dict ∧
    (connStart a0 s).field = s.field ∧ (connStart a0 s).pairs = s.pairs ∧ (connStart a0 s).array = s.array ∧
    (connStart a0 s).outs = s.outs ∧ (connStart a0 s).proc = s.proc ∧ (connStart a0 s).col = s.col ∧
    (connStart a0 s).breach = s.breach ∧ (connStart a0 s).test = s.test ∧ (connStart a0 s).led = s.led ∧
    (connStart a0 s).time = s.time := by
  simp [connStart]

@[simp] theorem connsStart_keeps (s : State) :
    (connsStart s).pending = s.pending ∧ (connsStart s).ctl = s.ctl ∧ (connsStart s).power = s.power ∧
    (connsStart s).fuses = s.fuses ∧ (connsStart s).cfg = s.cfg ∧ (connsStart s).dict = s.dict ∧
    (connsStart s).field = s.field ∧ (connsStart s).pairs = s.pairs ∧ (connsStart s).array = s.array ∧
    (connsStart s).outs = s.outs ∧ (connsStart s).proc = s.proc ∧ (connsStart s).col = s.col ∧
    (connsStart s).breach = s.breach ∧ (connsStart s).test = s.test ∧ (connsStart s).led = s.led ∧
    (connsStart s).time = s.time := by
  simp [connsStart]

@[simp] theorem connAgain_keeps (a0) (s : State) :
    (connAgain a0 s).pending = s.pending ∧ (connAgain a0 s).ctl = s.ctl ∧ (connAgain a0 s).power = s.power ∧
    (connAgain a0 s).fuses = s.fuses ∧ (connAgain a0 s).cfg = s.cfg ∧ (connAgain a0 s).dict = s.dict ∧
    (connAgain a0 s).field = s.field ∧ (connAgain a0 s).pairs = s.pairs ∧ (connAgain a0 s).array = s.array ∧
    (connAgain a0 s).outs = s.outs ∧ (connAgain a0 s).proc = s.proc ∧ (connAgain a0 s).col = s.col ∧
    (connAgain a0 s).breach = s.breach ∧ (connAgain a0 s).test = s.test ∧ (connAgain a0 s).led = s.led ∧
    (connAgain a0 s).time = s.time ∧ (connAgain a0 s).draws = s.draws := by
  simp [connAgain]

@[simp] theorem connsAgain_keeps (s : State) :
    (connsAgain s).pending = s.pending ∧ (connsAgain s).ctl = s.ctl ∧ (connsAgain s).power = s.power ∧
    (connsAgain s).fuses = s.fuses ∧ (connsAgain s).cfg = s.cfg ∧ (connsAgain s).dict = s.dict ∧
    (connsAgain s).field = s.field ∧ (connsAgain s).pairs = s.pairs ∧ (connsAgain s).array = s.array ∧
    (connsAgain s).outs = s.outs ∧ (connsAgain s).proc = s.proc ∧ (connsAgain s).col = s.col ∧
    (connsAgain s).breach = s.breach ∧ (connsAgain s).test = s.test ∧ (connsAgain s).led = s.led ∧
    (connsAgain s).time = s.time ∧ (connsAgain s).draws = s.draws := by
  simp [connsAgain]

@[simp] theorem pairingSend_keeps (a0) (a1) (s : State) :
    (pairingSend a0 a1 s).pending = s.pending ∧ (pairingSend a0 a1 s).ctl = s.ctl ∧
    (pairingSend a0 a1 s).power = s.power ∧ (pairingSend a0 a1 s).fuses = s.fuses ∧
    (pairingSend a0 a1 s).cfg = s.cfg ∧ (pairingSend a0 a1 s).dict = s.dict ∧
    (pairingSend a0 a1 s).field = s.field ∧ (pairingSend a0 a1 s).pairs = s.pairs ∧
    (pairingSend a0 a1 s).array = s.array ∧ (pairingSend a0 a1 s).outs = s.outs ∧
    (pairingSend a0 a1 s).proc = s.proc ∧ (pairingSend a0 a1 s).test = s.test ∧
    (pairingSend a0 a1 s).time = s.time := by
  simp only [pairingSend]
  (repeat' split) <;> simp

@[simp] theorem settleAll_keeps (s : State) :
    (settleAll s).pending = s.pending ∧ (settleAll s).ctl = s.ctl ∧ (settleAll s).power = s.power ∧
    (settleAll s).fuses = s.fuses ∧ (settleAll s).cfg = s.cfg ∧ (settleAll s).dict = s.dict ∧
    (settleAll s).field = s.field ∧ (settleAll s).pairs = s.pairs ∧ (settleAll s).array = s.array ∧
    (settleAll s).test = s.test ∧ (settleAll s).net = s.net ∧ (settleAll s).time = s.time ∧
    (settleAll s).draws = s.draws := by
  simp [settleAll]

@[simp] theorem connFault_keeps (a0) (a1) (s : State) :
    (connFault a0 a1 s).pending = s.pending ∧ (connFault a0 a1 s).power = s.power ∧
    (connFault a0 a1 s).fuses = s.fuses ∧ (connFault a0 a1 s).cfg = s.cfg ∧ (connFault a0 a1 s).dict = s.dict ∧
    (connFault a0 a1 s).field = s.field ∧ (connFault a0 a1 s).pairs = s.pairs ∧
    (connFault a0 a1 s).time = s.time := by
  simp [connFault]

@[simp] theorem pairFault_keeps (a0) (a1) (a2) (s : State) :
    (pairFault a0 a1 a2 s).pending = s.pending ∧ (pairFault a0 a1 a2 s).power = s.power ∧
    (pairFault a0 a1 a2 s).fuses = s.fuses ∧ (pairFault a0 a1 a2 s).cfg = s.cfg ∧
    (pairFault a0 a1 a2 s).dict = s.dict ∧ (pairFault a0 a1 a2 s).field = s.field ∧
    (pairFault a0 a1 a2 s).pairs = s.pairs ∧ (pairFault a0 a1 a2 s).time = s.time := by
  simp [pairFault]

@[simp] theorem pairGone_keeps (a0) (a1) (s : State) :
    (pairGone a0 a1 s).pending = s.pending ∧ (pairGone a0 a1 s).ctl = s.ctl ∧ (pairGone a0 a1 s).power = s.power ∧
    (pairGone a0 a1 s).fuses = s.fuses ∧ (pairGone a0 a1 s).cfg = s.cfg ∧ (pairGone a0 a1 s).dict = s.dict ∧
    (pairGone a0 a1 s).field = s.field ∧ (pairGone a0 a1 s).pairs = s.pairs ∧ (pairGone a0 a1 s).array = s.array ∧
    (pairGone a0 a1 s).outs = s.outs ∧ (pairGone a0 a1 s).test = s.test ∧ (pairGone a0 a1 s).net = s.net ∧
    (pairGone a0 a1 s).time = s.time ∧ (pairGone a0 a1 s).draws = s.draws := by
  simp [pairGone]

@[simp] theorem exchangeIn_keeps (a0) (a1) (a2) (s : State) :
    (exchangeIn a0 a1 a2 s).pending = s.pending ∧ (exchangeIn a0 a1 a2 s).power = s.power ∧
    (exchangeIn a0 a1 a2 s).fuses = s.fuses ∧ (exchangeIn a0 a1 a2 s).cfg = s.cfg ∧
    (exchangeIn a0 a1 a2 s).dict = s.dict ∧ (exchangeIn a0 a1 a2 s).field = s.field ∧
    (exchangeIn a0 a1 a2 s).pairs = s.pairs ∧ (exchangeIn a0 a1 a2 s).time = s.time := by
  simp [exchangeIn]

@[simp] theorem checkIn_keeps (a0) (a1) (s : State) :
    (checkIn a0 a1 s).pending = s.pending ∧ (checkIn a0 a1 s).power = s.power ∧ (checkIn a0 a1 s).fuses = s.fuses ∧
    (checkIn a0 a1 s).cfg = s.cfg ∧ (checkIn a0 a1 s).dict = s.dict ∧ (checkIn a0 a1 s).field = s.field ∧
    (checkIn a0 a1 s).pairs = s.pairs ∧ (checkIn a0 a1 s).time = s.time := by
  simp [checkIn]

@[simp] theorem countFailure_keeps (a0) (s : State) :
    (countFailure a0 s).pending = s.pending ∧ (countFailure a0 s).power = s.power ∧
    (countFailure a0 s).fuses = s.fuses ∧ (countFailure a0 s).cfg = s.cfg ∧ (countFailure a0 s).dict = s.dict ∧
    (countFailure a0 s).field = s.field ∧ (countFailure a0 s).pairs = s.pairs ∧
    (countFailure a0 s).time = s.time := by
  simp [countFailure]

@[simp] theorem macFailure_keeps (a0) (s : State) :
    (macFailure a0 s).pending = s.pending ∧ (macFailure a0 s).power = s.power ∧ (macFailure a0 s).fuses = s.fuses ∧
    (macFailure a0 s).cfg = s.cfg ∧ (macFailure a0 s).dict = s.dict ∧ (macFailure a0 s).field = s.field ∧
    (macFailure a0 s).pairs = s.pairs ∧ (macFailure a0 s).time = s.time := by
  simp [macFailure]

@[simp] theorem formatFailure_keeps (s : State) :
    (formatFailure s).pending = s.pending ∧ (formatFailure s).ctl = s.ctl ∧ (formatFailure s).power = s.power ∧
    (formatFailure s).fuses = s.fuses ∧ (formatFailure s).cfg = s.cfg ∧ (formatFailure s).dict = s.dict ∧
    (formatFailure s).field = s.field ∧ (formatFailure s).pairs = s.pairs ∧ (formatFailure s).array = s.array ∧
    (formatFailure s).outs = s.outs ∧ (formatFailure s).proc = s.proc ∧ (formatFailure s).col = s.col ∧
    (formatFailure s).breach = s.breach ∧ (formatFailure s).test = s.test ∧ (formatFailure s).led = s.led ∧
    (formatFailure s).time = s.time ∧ (formatFailure s).draws = s.draws := by
  simp [formatFailure]

@[simp] theorem crcFailure_keeps (a0) (s : State) :
    (crcFailure a0 s).pending = s.pending ∧ (crcFailure a0 s).power = s.power ∧ (crcFailure a0 s).fuses = s.fuses ∧
    (crcFailure a0 s).cfg = s.cfg ∧ (crcFailure a0 s).dict = s.dict ∧ (crcFailure a0 s).field = s.field ∧
    (crcFailure a0 s).pairs = s.pairs ∧ (crcFailure a0 s).time = s.time := by
  simp [crcFailure]

@[simp] theorem acceptTel_keeps (a0) (a1) (a2) (s : State) :
    (acceptTel a0 a1 a2 s).pending = s.pending ∧ (acceptTel a0 a1 a2 s).ctl = s.ctl ∧
    (acceptTel a0 a1 a2 s).power = s.power ∧ (acceptTel a0 a1 a2 s).fuses = s.fuses ∧
    (acceptTel a0 a1 a2 s).cfg = s.cfg ∧ (acceptTel a0 a1 a2 s).dict = s.dict ∧
    (acceptTel a0 a1 a2 s).field = s.field ∧ (acceptTel a0 a1 a2 s).pairs = s.pairs ∧
    (acceptTel a0 a1 a2 s).array = s.array ∧ (acceptTel a0 a1 a2 s).outs = s.outs ∧
    (acceptTel a0 a1 a2 s).test = s.test ∧ (acceptTel a0 a1 a2 s).time = s.time ∧
    (acceptTel a0 a1 a2 s).draws = s.draws := by
  simp [acceptTel]

@[simp] theorem repeatIn_keeps (a0) (a1) (a2) (s : State) :
    (repeatIn a0 a1 a2 s).pending = s.pending ∧ (repeatIn a0 a1 a2 s).ctl = s.ctl ∧
    (repeatIn a0 a1 a2 s).power = s.power ∧ (repeatIn a0 a1 a2 s).fuses = s.fuses ∧
    (repeatIn a0 a1 a2 s).cfg = s.cfg ∧ (repeatIn a0 a1 a2 s).dict = s.dict ∧
    (repeatIn a0 a1 a2 s).field = s.field ∧ (repeatIn a0 a1 a2 s).pairs = s.pairs ∧
    (repeatIn a0 a1 a2 s).array = s.array ∧ (repeatIn a0 a1 a2 s).outs = s.outs ∧
    (repeatIn a0 a1 a2 s).proc = s.proc ∧ (repeatIn a0 a1 a2 s).col = s.col ∧
    (repeatIn a0 a1 a2 s).breach = s.breach ∧ (repeatIn a0 a1 a2 s).test = s.test ∧
    (repeatIn a0 a1 a2 s).led = s.led ∧ (repeatIn a0 a1 a2 s).time = s.time ∧
    (repeatIn a0 a1 a2 s).draws = s.draws := by
  simp [repeatIn]

@[simp] theorem telChecks_keeps (a0) (a1) (a2) (s : State) :
    (telChecks a0 a1 a2 s).pending = s.pending ∧ (telChecks a0 a1 a2 s).power = s.power ∧
    (telChecks a0 a1 a2 s).fuses = s.fuses ∧ (telChecks a0 a1 a2 s).cfg = s.cfg ∧
    (telChecks a0 a1 a2 s).dict = s.dict ∧ (telChecks a0 a1 a2 s).field = s.field ∧
    (telChecks a0 a1 a2 s).pairs = s.pairs ∧ (telChecks a0 a1 a2 s).time = s.time := by
  simp [telChecks]

@[simp] theorem telegramIn_keeps (a0) (a1) (s : State) :
    (telegramIn a0 a1 s).pending = s.pending ∧ (telegramIn a0 a1 s).power = s.power ∧
    (telegramIn a0 a1 s).fuses = s.fuses ∧ (telegramIn a0 a1 s).cfg = s.cfg ∧ (telegramIn a0 a1 s).dict = s.dict ∧
    (telegramIn a0 a1 s).field = s.field ∧ (telegramIn a0 a1 s).pairs = s.pairs ∧
    (telegramIn a0 a1 s).time = s.time := by
  simp only [telegramIn]
  (repeat' split) <;> simp

@[simp] theorem expire_keeps (a0) (a1) (s : State) :
    (expire a0 a1 s).pending = s.pending ∧ (expire a0 a1 s).power = s.power ∧ (expire a0 a1 s).fuses = s.fuses ∧
    (expire a0 a1 s).cfg = s.cfg ∧ (expire a0 a1 s).dict = s.dict ∧ (expire a0 a1 s).field = s.field ∧
    (expire a0 a1 s).pairs = s.pairs ∧ (expire a0 a1 s).time = s.time := by
  simp [expire]

@[simp] theorem setPort_keeps (a0) (a1) (a2) (a3) (s : State) :
    (setPort a0 a1 a2 a3 s).pending = s.pending ∧ (setPort a0 a1 a2 a3 s).ctl = s.ctl ∧
    (setPort a0 a1 a2 a3 s).power = s.power ∧ (setPort a0 a1 a2 a3 s).fuses = s.fuses ∧
    (setPort a0 a1 a2 a3 s).cfg = s.cfg ∧ (setPort a0 a1 a2 a3 s).dict = s.dict ∧
    (setPort a0 a1 a2 a3 s).field = s.field ∧ (setPort a0 a1 a2 a3 s).pairs = s.pairs ∧
    (setPort a0 a1 a2 a3 s).array = s.array ∧ (setPort a0 a1 a2 a3 s).outs = s.outs ∧
    (setPort a0 a1 a2 a3 s).proc = s.proc ∧ (setPort a0 a1 a2 a3 s).test = s.test ∧
    (setPort a0 a1 a2 a3 s).time = s.time ∧ (setPort a0 a1 a2 a3 s).draws = s.draws := by
  simp [setPort]

@[simp] theorem arpIn_keeps (a0) (a1) (a2) (a3) (a4) (s : State) :
    (arpIn a0 a1 a2 a3 a4 s).pending = s.pending ∧ (arpIn a0 a1 a2 a3 a4 s).ctl = s.ctl ∧
    (arpIn a0 a1 a2 a3 a4 s).power = s.power ∧ (arpIn a0 a1 a2 a3 a4 s).fuses = s.fuses ∧
    (arpIn a0 a1 a2 a3 a4 s).cfg = s.cfg ∧ (arpIn a0 a1 a2 a3 a4 s).dict = s.dict ∧
    (arpIn a0 a1 a2 a3 a4 s).field = s.field ∧ (arpIn a0 a1 a2 a3 a4 s).pairs = s.pairs ∧
    (arpIn a0 a1 a2 a3 a4 s).array = s.array ∧ (arpIn a0 a1 a2 a3 a4 s).outs = s.outs ∧
    (arpIn a0 a1 a2 a3 a4 s).proc = s.proc ∧ (arpIn a0 a1 a2 a3 a4 s).test = s.test ∧
    (arpIn a0 a1 a2 a3 a4 s).time = s.time ∧ (arpIn a0 a1 a2 a3 a4 s).draws = s.draws := by
  simp [arpIn]

@[simp] theorem echoIn_keeps (a0) (a1) (s : State) :
    (echoIn a0 a1 s).pending = s.pending ∧ (echoIn a0 a1 s).ctl = s.ctl ∧ (echoIn a0 a1 s).power = s.power ∧
    (echoIn a0 a1 s).fuses = s.fuses ∧ (echoIn a0 a1 s).cfg = s.cfg ∧ (echoIn a0 a1 s).dict = s.dict ∧
    (echoIn a0 a1 s).field = s.field ∧ (echoIn a0 a1 s).pairs = s.pairs ∧ (echoIn a0 a1 s).array = s.array ∧
    (echoIn a0 a1 s).outs = s.outs ∧ (echoIn a0 a1 s).proc = s.proc ∧ (echoIn a0 a1 s).test = s.test ∧
    (echoIn a0 a1 s).time = s.time ∧ (echoIn a0 a1 s).draws = s.draws := by
  simp [echoIn]

@[simp] theorem supIn_keeps (a0) (s : State) :
    (supIn a0 s).pending = s.pending ∧ (supIn a0 s).ctl = s.ctl ∧ (supIn a0 s).power = s.power ∧
    (supIn a0 s).fuses = s.fuses ∧ (supIn a0 s).cfg = s.cfg ∧ (supIn a0 s).dict = s.dict ∧
    (supIn a0 s).field = s.field ∧ (supIn a0 s).pairs = s.pairs ∧ (supIn a0 s).array = s.array ∧
    (supIn a0 s).outs = s.outs ∧ (supIn a0 s).proc = s.proc ∧ (supIn a0 s).test = s.test ∧
    (supIn a0 s).time = s.time ∧ (supIn a0 s).draws = s.draws := by
  simp [supIn]

@[simp] theorem kdpIn_keeps (a0) (a1) (a2) (a3) (a4) (s : State) :
    (kdpIn a0 a1 a2 a3 a4 s).pending = s.pending ∧ (kdpIn a0 a1 a2 a3 a4 s).ctl = s.ctl ∧
    (kdpIn a0 a1 a2 a3 a4 s).power = s.power ∧ (kdpIn a0 a1 a2 a3 a4 s).fuses = s.fuses ∧
    (kdpIn a0 a1 a2 a3 a4 s).cfg = s.cfg ∧ (kdpIn a0 a1 a2 a3 a4 s).field = s.field ∧
    (kdpIn a0 a1 a2 a3 a4 s).pairs = s.pairs ∧ (kdpIn a0 a1 a2 a3 a4 s).array = s.array ∧
    (kdpIn a0 a1 a2 a3 a4 s).outs = s.outs ∧ (kdpIn a0 a1 a2 a3 a4 s).proc = s.proc ∧
    (kdpIn a0 a1 a2 a3 a4 s).col = s.col ∧ (kdpIn a0 a1 a2 a3 a4 s).breach = s.breach ∧
    (kdpIn a0 a1 a2 a3 a4 s).test = s.test ∧ (kdpIn a0 a1 a2 a3 a4 s).led = s.led ∧
    (kdpIn a0 a1 a2 a3 a4 s).time = s.time ∧ (kdpIn a0 a1 a2 a3 a4 s).draws = s.draws := by
  simp [kdpIn]

@[simp] theorem stationIn_keeps (a0) (a1) (s : State) :
    (stationIn a0 a1 s).pending = s.pending ∧ (stationIn a0 a1 s).power = s.power ∧
    (stationIn a0 a1 s).fuses = s.fuses ∧ (stationIn a0 a1 s).cfg = s.cfg ∧ (stationIn a0 a1 s).field = s.field ∧
    (stationIn a0 a1 s).pairs = s.pairs ∧ (stationIn a0 a1 s).time = s.time := by
  simp only [stationIn]
  (repeat' split) <;> simp

@[simp] theorem portTakes_keeps (a0) (a1) (s : State) :
    (portTakes a0 a1 s).2.pending = s.pending ∧ (portTakes a0 a1 s).2.ctl = s.ctl ∧
    (portTakes a0 a1 s).2.power = s.power ∧ (portTakes a0 a1 s).2.fuses = s.fuses ∧
    (portTakes a0 a1 s).2.cfg = s.cfg ∧ (portTakes a0 a1 s).2.dict = s.dict ∧
    (portTakes a0 a1 s).2.field = s.field ∧ (portTakes a0 a1 s).2.pairs = s.pairs ∧
    (portTakes a0 a1 s).2.array = s.array ∧ (portTakes a0 a1 s).2.outs = s.outs ∧
    (portTakes a0 a1 s).2.proc = s.proc ∧ (portTakes a0 a1 s).2.col = s.col ∧
    (portTakes a0 a1 s).2.breach = s.breach ∧ (portTakes a0 a1 s).2.test = s.test ∧
    (portTakes a0 a1 s).2.led = s.led ∧ (portTakes a0 a1 s).2.time = s.time ∧
    (portTakes a0 a1 s).2.draws = s.draws := by
  simp only [portTakes]
  (repeat' split) <;> simp

@[simp] theorem learnMac_keeps (a0) (a1) (a2) (s : State) :
    (learnMac a0 a1 a2 s).pending = s.pending ∧ (learnMac a0 a1 a2 s).ctl = s.ctl ∧
    (learnMac a0 a1 a2 s).power = s.power ∧ (learnMac a0 a1 a2 s).fuses = s.fuses ∧
    (learnMac a0 a1 a2 s).cfg = s.cfg ∧ (learnMac a0 a1 a2 s).dict = s.dict ∧
    (learnMac a0 a1 a2 s).field = s.field ∧ (learnMac a0 a1 a2 s).pairs = s.pairs ∧
    (learnMac a0 a1 a2 s).array = s.array ∧ (learnMac a0 a1 a2 s).outs = s.outs ∧
    (learnMac a0 a1 a2 s).proc = s.proc ∧ (learnMac a0 a1 a2 s).col = s.col ∧
    (learnMac a0 a1 a2 s).breach = s.breach ∧ (learnMac a0 a1 a2 s).test = s.test ∧
    (learnMac a0 a1 a2 s).led = s.led ∧ (learnMac a0 a1 a2 s).time = s.time ∧
    (learnMac a0 a1 a2 s).draws = s.draws := by
  simp [learnMac]

@[simp] theorem dupSeen_keeps (a0) (a1) (a2) (s : State) :
    (dupSeen a0 a1 a2 s).2.pending = s.pending ∧ (dupSeen a0 a1 a2 s).2.ctl = s.ctl ∧
    (dupSeen a0 a1 a2 s).2.power = s.power ∧ (dupSeen a0 a1 a2 s).2.fuses = s.fuses ∧
    (dupSeen a0 a1 a2 s).2.cfg = s.cfg ∧ (dupSeen a0 a1 a2 s).2.dict = s.dict ∧
    (dupSeen a0 a1 a2 s).2.field = s.field ∧ (dupSeen a0 a1 a2 s).2.pairs = s.pairs ∧
    (dupSeen a0 a1 a2 s).2.array = s.array ∧ (dupSeen a0 a1 a2 s).2.outs = s.outs ∧
    (dupSeen a0 a1 a2 s).2.proc = s.proc ∧ (dupSeen a0 a1 a2 s).2.col = s.col ∧
    (dupSeen a0 a1 a2 s).2.breach = s.breach ∧ (dupSeen a0 a1 a2 s).2.test = s.test ∧
    (dupSeen a0 a1 a2 s).2.led = s.led ∧ (dupSeen a0 a1 a2 s).2.time = s.time ∧
    (dupSeen a0 a1 a2 s).2.draws = s.draws := by
  simp only [dupSeen]
  (repeat' split) <;> simp

@[simp] theorem bridge_keeps (a0) (a1) (a2) (a3) (s : State) :
    (bridge a0 a1 a2 a3 s).pending = s.pending ∧ (bridge a0 a1 a2 a3 s).ctl = s.ctl ∧
    (bridge a0 a1 a2 a3 s).power = s.power ∧ (bridge a0 a1 a2 a3 s).fuses = s.fuses ∧
    (bridge a0 a1 a2 a3 s).cfg = s.cfg ∧ (bridge a0 a1 a2 a3 s).dict = s.dict ∧
    (bridge a0 a1 a2 a3 s).field = s.field ∧ (bridge a0 a1 a2 a3 s).pairs = s.pairs ∧
    (bridge a0 a1 a2 a3 s).array = s.array ∧ (bridge a0 a1 a2 a3 s).outs = s.outs ∧
    (bridge a0 a1 a2 a3 s).proc = s.proc ∧ (bridge a0 a1 a2 a3 s).test = s.test ∧
    (bridge a0 a1 a2 a3 s).time = s.time ∧ (bridge a0 a1 a2 a3 s).draws = s.draws := by
  simp only [bridge]
  (repeat' split) <;> simp

@[simp] theorem pairIn_keeps (a0) (a1) (s : State) :
    (pairIn a0 a1 s).pending = s.pending ∧ (pairIn a0 a1 s).power = s.power ∧ (pairIn a0 a1 s).fuses = s.fuses ∧
    (pairIn a0 a1 s).cfg = s.cfg ∧ (pairIn a0 a1 s).field = s.field ∧ (pairIn a0 a1 s).pairs = s.pairs ∧
    (pairIn a0 a1 s).time = s.time := by
  simp [pairIn]

@[simp] theorem beat_keeps (a0) (s : State) :
    (beat a0 s).pending = s.pending ∧ (beat a0 s).ctl = s.ctl ∧ (beat a0 s).power = s.power ∧
    (beat a0 s).fuses = s.fuses ∧ (beat a0 s).cfg = s.cfg ∧ (beat a0 s).dict = s.dict ∧
    (beat a0 s).field = s.field ∧ (beat a0 s).pairs = s.pairs ∧ (beat a0 s).array = s.array ∧
    (beat a0 s).outs = s.outs ∧ (beat a0 s).proc = s.proc ∧ (beat a0 s).test = s.test ∧
    (beat a0 s).time = s.time := by
  simp [beat]

@[simp] theorem countViolations_keeps (a0) (s : State) :
    (countViolations a0 s).pending = s.pending ∧ (countViolations a0 s).ctl = s.ctl ∧
    (countViolations a0 s).power = s.power ∧ (countViolations a0 s).fuses = s.fuses ∧
    (countViolations a0 s).cfg = s.cfg ∧ (countViolations a0 s).dict = s.dict ∧
    (countViolations a0 s).field = s.field ∧ (countViolations a0 s).pairs = s.pairs ∧
    (countViolations a0 s).array = s.array ∧ (countViolations a0 s).outs = s.outs ∧
    (countViolations a0 s).proc = s.proc ∧ (countViolations a0 s).col = s.col ∧
    (countViolations a0 s).breach = s.breach ∧ (countViolations a0 s).test = s.test ∧
    (countViolations a0 s).led = s.led ∧ (countViolations a0 s).time = s.time := by
  simp [countViolations]

@[simp] theorem helloIn_keeps (a0) (a1) (s : State) :
    (helloIn a0 a1 s).pending = s.pending ∧ (helloIn a0 a1 s).power = s.power ∧ (helloIn a0 a1 s).fuses = s.fuses ∧
    (helloIn a0 a1 s).cfg = s.cfg ∧ (helloIn a0 a1 s).dict = s.dict ∧ (helloIn a0 a1 s).field = s.field ∧
    (helloIn a0 a1 s).pairs = s.pairs ∧ (helloIn a0 a1 s).outs = s.outs ∧ (helloIn a0 a1 s).time = s.time := by
  simp [helloIn]

@[simp] theorem blockNote_keeps (a0) (a1) (a2) (a3) (s : State) :
    (blockNote a0 a1 a2 a3 s).pending = s.pending ∧ (blockNote a0 a1 a2 a3 s).ctl = s.ctl ∧
    (blockNote a0 a1 a2 a3 s).power = s.power ∧ (blockNote a0 a1 a2 a3 s).fuses = s.fuses ∧
    (blockNote a0 a1 a2 a3 s).cfg = s.cfg ∧ (blockNote a0 a1 a2 a3 s).dict = s.dict ∧
    (blockNote a0 a1 a2 a3 s).field = s.field ∧ (blockNote a0 a1 a2 a3 s).pairs = s.pairs ∧
    (blockNote a0 a1 a2 a3 s).array = s.array ∧ (blockNote a0 a1 a2 a3 s).outs = s.outs ∧
    (blockNote a0 a1 a2 a3 s).proc = s.proc ∧ (blockNote a0 a1 a2 a3 s).test = s.test ∧
    (blockNote a0 a1 a2 a3 s).net = s.net ∧ (blockNote a0 a1 a2 a3 s).time = s.time ∧
    (blockNote a0 a1 a2 a3 s).draws = s.draws := by
  simp [blockNote]

@[simp] theorem swapBlocks_keeps (a0) (a1) (s : State) :
    (swapBlocks a0 a1 s).pending = s.pending ∧ (swapBlocks a0 a1 s).ctl = s.ctl ∧
    (swapBlocks a0 a1 s).power = s.power ∧ (swapBlocks a0 a1 s).fuses = s.fuses ∧
    (swapBlocks a0 a1 s).cfg = s.cfg ∧ (swapBlocks a0 a1 s).dict = s.dict ∧ (swapBlocks a0 a1 s).field = s.field ∧
    (swapBlocks a0 a1 s).pairs = s.pairs ∧ (swapBlocks a0 a1 s).array = s.array ∧
    (swapBlocks a0 a1 s).outs = s.outs ∧ (swapBlocks a0 a1 s).proc = s.proc ∧ (swapBlocks a0 a1 s).col = s.col ∧
    (swapBlocks a0 a1 s).breach = s.breach ∧ (swapBlocks a0 a1 s).test = s.test ∧
    (swapBlocks a0 a1 s).net = s.net ∧ (swapBlocks a0 a1 s).time = s.time ∧
    (swapBlocks a0 a1 s).draws = s.draws := by
  simp [swapBlocks]

@[simp] theorem shortBlocks_keeps (s : State) :
    (shortBlocks s).pending = s.pending ∧ (shortBlocks s).power = s.power ∧ (shortBlocks s).fuses = s.fuses ∧
    (shortBlocks s).cfg = s.cfg ∧ (shortBlocks s).dict = s.dict ∧ (shortBlocks s).field = s.field ∧
    (shortBlocks s).pairs = s.pairs ∧ (shortBlocks s).outs = s.outs ∧ (shortBlocks s).net = s.net ∧
    (shortBlocks s).time = s.time := by
  simp [shortBlocks]

@[simp] theorem ringGive_keeps (s : State) :
    (ringGive s).pending = s.pending ∧ (ringGive s).ctl = s.ctl ∧ (ringGive s).power = s.power ∧
    (ringGive s).fuses = s.fuses ∧ (ringGive s).cfg = s.cfg ∧ (ringGive s).dict = s.dict ∧
    (ringGive s).field = s.field ∧ (ringGive s).pairs = s.pairs ∧ (ringGive s).array = s.array ∧
    (ringGive s).outs = s.outs ∧ (ringGive s).proc = s.proc ∧ (ringGive s).col = s.col ∧
    (ringGive s).breach = s.breach ∧ (ringGive s).test = s.test ∧ (ringGive s).net = s.net ∧
    (ringGive s).time = s.time ∧ (ringGive s).draws = s.draws := by
  simp [ringGive]

@[simp] theorem retireBlock_keeps (a0) (s : State) :
    (retireBlock a0 s).pending = s.pending ∧ (retireBlock a0 s).power = s.power ∧
    (retireBlock a0 s).fuses = s.fuses ∧ (retireBlock a0 s).cfg = s.cfg ∧ (retireBlock a0 s).dict = s.dict ∧
    (retireBlock a0 s).field = s.field ∧ (retireBlock a0 s).pairs = s.pairs ∧ (retireBlock a0 s).outs = s.outs ∧
    (retireBlock a0 s).net = s.net ∧ (retireBlock a0 s).time = s.time := by
  simp [retireBlock]

@[simp] theorem ledgerStop_keeps (s : State) :
    (ledgerStop s).pending = s.pending ∧ (ledgerStop s).ctl = s.ctl ∧ (ledgerStop s).power = s.power ∧
    (ledgerStop s).fuses = s.fuses ∧ (ledgerStop s).cfg = s.cfg ∧ (ledgerStop s).dict = s.dict ∧
    (ledgerStop s).field = s.field ∧ (ledgerStop s).pairs = s.pairs ∧ (ledgerStop s).array = s.array ∧
    (ledgerStop s).outs = s.outs ∧ (ledgerStop s).proc = s.proc ∧ (ledgerStop s).test = s.test ∧
    (ledgerStop s).net = s.net ∧ (ledgerStop s).time = s.time ∧ (ledgerStop s).draws = s.draws := by
  simp [ledgerStop]

@[simp] theorem pinSettle_keeps (a0) (s : State) :
    (pinSettle a0 s).pending = s.pending ∧ (pinSettle a0 s).ctl = s.ctl ∧ (pinSettle a0 s).power = s.power ∧
    (pinSettle a0 s).fuses = s.fuses ∧ (pinSettle a0 s).cfg = s.cfg ∧ (pinSettle a0 s).dict = s.dict ∧
    (pinSettle a0 s).field = s.field ∧ (pinSettle a0 s).pairs = s.pairs ∧ (pinSettle a0 s).array = s.array ∧
    (pinSettle a0 s).outs = s.outs ∧ (pinSettle a0 s).proc = s.proc ∧ (pinSettle a0 s).test = s.test ∧
    (pinSettle a0 s).net = s.net ∧ (pinSettle a0 s).time = s.time ∧ (pinSettle a0 s).draws = s.draws := by
  simp [pinSettle]

@[simp] theorem pinStep_keeps (s : State) :
    (pinStep s).pending = s.pending ∧ (pinStep s).ctl = s.ctl ∧ (pinStep s).power = s.power ∧
    (pinStep s).fuses = s.fuses ∧ (pinStep s).cfg = s.cfg ∧ (pinStep s).dict = s.dict ∧
    (pinStep s).field = s.field ∧ (pinStep s).pairs = s.pairs ∧ (pinStep s).array = s.array ∧
    (pinStep s).outs = s.outs ∧ (pinStep s).proc = s.proc ∧ (pinStep s).col = s.col ∧
    (pinStep s).breach = s.breach ∧ (pinStep s).test = s.test ∧ (pinStep s).net = s.net ∧
    (pinStep s).time = s.time ∧ (pinStep s).draws = s.draws := by
  simp only [pinStep]
  (repeat' split) <;> simp

@[simp] theorem pageFailed_keeps (a0) (s : State) :
    (pageFailed a0 s).pending = s.pending ∧ (pageFailed a0 s).power = s.power ∧ (pageFailed a0 s).fuses = s.fuses ∧
    (pageFailed a0 s).cfg = s.cfg ∧ (pageFailed a0 s).dict = s.dict ∧ (pageFailed a0 s).field = s.field ∧
    (pageFailed a0 s).pairs = s.pairs ∧ (pageFailed a0 s).outs = s.outs ∧ (pageFailed a0 s).net = s.net ∧
    (pageFailed a0 s).time = s.time := by
  simp [pageFailed]

@[simp] theorem mountFail_keeps (a0) (s : State) :
    (mountFail a0 s).pending = s.pending ∧ (mountFail a0 s).ctl = s.ctl ∧ (mountFail a0 s).power = s.power ∧
    (mountFail a0 s).fuses = s.fuses ∧ (mountFail a0 s).cfg = s.cfg ∧ (mountFail a0 s).dict = s.dict ∧
    (mountFail a0 s).field = s.field ∧ (mountFail a0 s).pairs = s.pairs ∧ (mountFail a0 s).array = s.array ∧
    (mountFail a0 s).outs = s.outs ∧ (mountFail a0 s).proc = s.proc ∧ (mountFail a0 s).test = s.test ∧
    (mountFail a0 s).net = s.net ∧ (mountFail a0 s).time = s.time ∧ (mountFail a0 s).draws = s.draws := by
  simp [mountFail]

@[simp] theorem usePart_keeps (a0) (s : State) :
    (usePart a0 s).pending = s.pending ∧ (usePart a0 s).power = s.power ∧ (usePart a0 s).fuses = s.fuses ∧
    (usePart a0 s).cfg = s.cfg ∧ (usePart a0 s).dict = s.dict ∧ (usePart a0 s).field = s.field ∧
    (usePart a0 s).pairs = s.pairs ∧ (usePart a0 s).outs = s.outs ∧ (usePart a0 s).net = s.net ∧
    (usePart a0 s).time = s.time := by
  simp [usePart]

@[simp] theorem formatTables_keeps (a0) (s : State) :
    (formatTables a0 s).pending = s.pending ∧ (formatTables a0 s).ctl = s.ctl ∧
    (formatTables a0 s).power = s.power ∧ (formatTables a0 s).fuses = s.fuses ∧ (formatTables a0 s).cfg = s.cfg ∧
    (formatTables a0 s).dict = s.dict ∧ (formatTables a0 s).field = s.field ∧ (formatTables a0 s).pairs = s.pairs ∧
    (formatTables a0 s).array = s.array ∧ (formatTables a0 s).outs = s.outs ∧ (formatTables a0 s).proc = s.proc ∧
    (formatTables a0 s).col = s.col ∧ (formatTables a0 s).breach = s.breach ∧ (formatTables a0 s).test = s.test ∧
    (formatTables a0 s).net = s.net ∧ (formatTables a0 s).time = s.time ∧ (formatTables a0 s).draws = s.draws := by
  simp [formatTables]

@[simp] theorem mountTables_keeps (a0) (s : State) :
    (mountTables a0 s).pending = s.pending ∧ (mountTables a0 s).ctl = s.ctl ∧ (mountTables a0 s).power = s.power ∧
    (mountTables a0 s).fuses = s.fuses ∧ (mountTables a0 s).cfg = s.cfg ∧ (mountTables a0 s).dict = s.dict ∧
    (mountTables a0 s).field = s.field ∧ (mountTables a0 s).pairs = s.pairs ∧ (mountTables a0 s).array = s.array ∧
    (mountTables a0 s).outs = s.outs ∧ (mountTables a0 s).proc = s.proc ∧ (mountTables a0 s).col = s.col ∧
    (mountTables a0 s).breach = s.breach ∧ (mountTables a0 s).test = s.test ∧ (mountTables a0 s).net = s.net ∧
    (mountTables a0 s).time = s.time ∧ (mountTables a0 s).draws = s.draws := by
  simp only [mountTables]
  (repeat' split) <;> simp

@[simp] theorem ringResume_keeps (a0) (a1) (a2) (a3) (s : State) :
    (ringResume a0 a1 a2 a3 s).pending = s.pending ∧ (ringResume a0 a1 a2 a3 s).ctl = s.ctl ∧
    (ringResume a0 a1 a2 a3 s).power = s.power ∧ (ringResume a0 a1 a2 a3 s).fuses = s.fuses ∧
    (ringResume a0 a1 a2 a3 s).cfg = s.cfg ∧ (ringResume a0 a1 a2 a3 s).dict = s.dict ∧
    (ringResume a0 a1 a2 a3 s).field = s.field ∧ (ringResume a0 a1 a2 a3 s).pairs = s.pairs ∧
    (ringResume a0 a1 a2 a3 s).array = s.array ∧ (ringResume a0 a1 a2 a3 s).outs = s.outs ∧
    (ringResume a0 a1 a2 a3 s).proc = s.proc ∧ (ringResume a0 a1 a2 a3 s).col = s.col ∧
    (ringResume a0 a1 a2 a3 s).breach = s.breach ∧ (ringResume a0 a1 a2 a3 s).test = s.test ∧
    (ringResume a0 a1 a2 a3 s).net = s.net ∧ (ringResume a0 a1 a2 a3 s).time = s.time ∧
    (ringResume a0 a1 a2 a3 s).draws = s.draws := by
  simp [ringResume]

@[simp] theorem mountRing_keeps (a0) (s : State) :
    (mountRing a0 s).pending = s.pending ∧ (mountRing a0 s).power = s.power ∧ (mountRing a0 s).fuses = s.fuses ∧
    (mountRing a0 s).cfg = s.cfg ∧ (mountRing a0 s).dict = s.dict ∧ (mountRing a0 s).field = s.field ∧
    (mountRing a0 s).pairs = s.pairs ∧ (mountRing a0 s).outs = s.outs ∧ (mountRing a0 s).net = s.net ∧
    (mountRing a0 s).time = s.time := by
  simp [mountRing]

@[simp] theorem restoreBackup_keeps (a0) (s : State) :
    (restoreBackup a0 s).pending = s.pending ∧ (restoreBackup a0 s).ctl = s.ctl ∧
    (restoreBackup a0 s).power = s.power ∧ (restoreBackup a0 s).fuses = s.fuses ∧
    (restoreBackup a0 s).field = s.field ∧ (restoreBackup a0 s).array = s.array ∧
    (restoreBackup a0 s).proc = s.proc ∧ (restoreBackup a0 s).breach = s.breach ∧
    (restoreBackup a0 s).led = s.led ∧ (restoreBackup a0 s).draws = s.draws := by
  simp [restoreBackup]

@[simp] theorem mountSlots_keeps (a0) (s : State) :
    (mountSlots a0 s).pending = s.pending ∧ (mountSlots a0 s).ctl = s.ctl ∧ (mountSlots a0 s).power = s.power ∧
    (mountSlots a0 s).fuses = s.fuses ∧ (mountSlots a0 s).cfg = s.cfg ∧ (mountSlots a0 s).dict = s.dict ∧
    (mountSlots a0 s).field = s.field ∧ (mountSlots a0 s).pairs = s.pairs ∧ (mountSlots a0 s).array = s.array ∧
    (mountSlots a0 s).outs = s.outs ∧ (mountSlots a0 s).proc = s.proc ∧ (mountSlots a0 s).col = s.col ∧
    (mountSlots a0 s).breach = s.breach ∧ (mountSlots a0 s).test = s.test ∧ (mountSlots a0 s).net = s.net ∧
    (mountSlots a0 s).time = s.time ∧ (mountSlots a0 s).draws = s.draws := by
  simp [mountSlots]

@[simp] theorem mount_keeps (a0) (s : State) :
    (mount a0 s).pending = s.pending ∧ (mount a0 s).power = s.power ∧ (mount a0 s).fuses = s.fuses ∧
    (mount a0 s).field = s.field := by
  simp only [mount]
  (repeat' split) <;> simp

@[simp] theorem formatWrite_keeps (s : State) :
    (formatWrite s).2.pending = s.pending ∧ (formatWrite s).2.ctl = s.ctl ∧ (formatWrite s).2.power = s.power ∧
    (formatWrite s).2.fuses = s.fuses ∧ (formatWrite s).2.cfg = s.cfg ∧ (formatWrite s).2.dict = s.dict ∧
    (formatWrite s).2.field = s.field ∧ (formatWrite s).2.pairs = s.pairs ∧ (formatWrite s).2.array = s.array ∧
    (formatWrite s).2.outs = s.outs ∧ (formatWrite s).2.proc = s.proc ∧ (formatWrite s).2.col = s.col ∧
    (formatWrite s).2.breach = s.breach ∧ (formatWrite s).2.test = s.test ∧ (formatWrite s).2.net = s.net ∧
    (formatWrite s).2.time = s.time ∧ (formatWrite s).2.draws = s.draws := by
  simp [formatWrite]

@[simp] theorem rewriteBlock_keeps (a0) (s : State) :
    (rewriteBlock a0 s).pending = s.pending ∧ (rewriteBlock a0 s).ctl = s.ctl ∧
    (rewriteBlock a0 s).power = s.power ∧ (rewriteBlock a0 s).fuses = s.fuses ∧ (rewriteBlock a0 s).cfg = s.cfg ∧
    (rewriteBlock a0 s).dict = s.dict ∧ (rewriteBlock a0 s).field = s.field ∧ (rewriteBlock a0 s).pairs = s.pairs ∧
    (rewriteBlock a0 s).array = s.array ∧ (rewriteBlock a0 s).outs = s.outs ∧ (rewriteBlock a0 s).proc = s.proc ∧
    (rewriteBlock a0 s).test = s.test ∧ (rewriteBlock a0 s).net = s.net ∧ (rewriteBlock a0 s).time = s.time ∧
    (rewriteBlock a0 s).draws = s.draws := by
  simp only [rewriteBlock]
  (repeat' split) <;> simp

@[simp] theorem weakSector_keeps (a0) (s : State) :
    (weakSector a0 s).pending = s.pending ∧ (weakSector a0 s).power = s.power ∧ (weakSector a0 s).fuses = s.fuses ∧
    (weakSector a0 s).cfg = s.cfg ∧ (weakSector a0 s).dict = s.dict ∧ (weakSector a0 s).field = s.field ∧
    (weakSector a0 s).pairs = s.pairs ∧ (weakSector a0 s).outs = s.outs ∧ (weakSector a0 s).net = s.net ∧
    (weakSector a0 s).time = s.time := by
  simp [weakSector]

@[simp] theorem pinRequestWrite_keeps (a0) (s : State) :
    (pinRequestWrite a0 s).2.pending = s.pending ∧ (pinRequestWrite a0 s).2.ctl = s.ctl ∧
    (pinRequestWrite a0 s).2.power = s.power ∧ (pinRequestWrite a0 s).2.fuses = s.fuses ∧
    (pinRequestWrite a0 s).2.cfg = s.cfg ∧ (pinRequestWrite a0 s).2.dict = s.dict ∧
    (pinRequestWrite a0 s).2.field = s.field ∧ (pinRequestWrite a0 s).2.pairs = s.pairs ∧
    (pinRequestWrite a0 s).2.array = s.array ∧ (pinRequestWrite a0 s).2.outs = s.outs ∧
    (pinRequestWrite a0 s).2.proc = s.proc ∧ (pinRequestWrite a0 s).2.test = s.test ∧
    (pinRequestWrite a0 s).2.net = s.net ∧ (pinRequestWrite a0 s).2.time = s.time ∧
    (pinRequestWrite a0 s).2.draws = s.draws := by
  simp [pinRequestWrite]

@[simp] theorem pinFree_keeps (s : State) :
    (pinFree s).pending = s.pending ∧ (pinFree s).ctl = s.ctl ∧ (pinFree s).power = s.power ∧
    (pinFree s).fuses = s.fuses ∧ (pinFree s).cfg = s.cfg ∧ (pinFree s).dict = s.dict ∧
    (pinFree s).field = s.field ∧ (pinFree s).pairs = s.pairs ∧ (pinFree s).array = s.array ∧
    (pinFree s).outs = s.outs ∧ (pinFree s).proc = s.proc ∧ (pinFree s).col = s.col ∧
    (pinFree s).breach = s.breach ∧ (pinFree s).test = s.test ∧ (pinFree s).net = s.net ∧
    (pinFree s).time = s.time ∧ (pinFree s).draws = s.draws := by
  simp [pinFree]

@[simp] theorem pinRelease_keeps (a0) (s : State) :
    (pinRelease a0 s).2.pending = s.pending ∧ (pinRelease a0 s).2.ctl = s.ctl ∧
    (pinRelease a0 s).2.power = s.power ∧ (pinRelease a0 s).2.fuses = s.fuses ∧ (pinRelease a0 s).2.cfg = s.cfg ∧
    (pinRelease a0 s).2.dict = s.dict ∧ (pinRelease a0 s).2.field = s.field ∧ (pinRelease a0 s).2.pairs = s.pairs ∧
    (pinRelease a0 s).2.array = s.array ∧ (pinRelease a0 s).2.outs = s.outs ∧ (pinRelease a0 s).2.proc = s.proc ∧
    (pinRelease a0 s).2.test = s.test ∧ (pinRelease a0 s).2.net = s.net ∧ (pinRelease a0 s).2.time = s.time ∧
    (pinRelease a0 s).2.draws = s.draws := by
  simp [pinRelease]

@[simp] theorem pageOut_keeps (a0) (a1) (s : State) :
    (pageOut a0 a1 s).2.2.pending = s.pending ∧ (pageOut a0 a1 s).2.2.power = s.power ∧
    (pageOut a0 a1 s).2.2.fuses = s.fuses ∧ (pageOut a0 a1 s).2.2.cfg = s.cfg ∧
    (pageOut a0 a1 s).2.2.dict = s.dict ∧ (pageOut a0 a1 s).2.2.field = s.field ∧
    (pageOut a0 a1 s).2.2.pairs = s.pairs ∧ (pageOut a0 a1 s).2.2.outs = s.outs ∧
    (pageOut a0 a1 s).2.2.net = s.net ∧ (pageOut a0 a1 s).2.2.time = s.time := by
  simp [pageOut]

@[simp] theorem setPage_keeps (a0) (a1) (s : State) :
    (setPage a0 a1 s).pending = s.pending ∧ (setPage a0 a1 s).ctl = s.ctl ∧ (setPage a0 a1 s).power = s.power ∧
    (setPage a0 a1 s).fuses = s.fuses ∧ (setPage a0 a1 s).cfg = s.cfg ∧ (setPage a0 a1 s).field = s.field ∧
    (setPage a0 a1 s).pairs = s.pairs ∧ (setPage a0 a1 s).array = s.array ∧ (setPage a0 a1 s).outs = s.outs ∧
    (setPage a0 a1 s).proc = s.proc ∧ (setPage a0 a1 s).col = s.col ∧ (setPage a0 a1 s).breach = s.breach ∧
    (setPage a0 a1 s).test = s.test ∧ (setPage a0 a1 s).net = s.net ∧ (setPage a0 a1 s).time = s.time ∧
    (setPage a0 a1 s).draws = s.draws := by
  simp [setPage]

@[simp] theorem setPinned_keeps (a0) (a1) (s : State) :
    (setPinned a0 a1 s).pending = s.pending ∧ (setPinned a0 a1 s).ctl = s.ctl ∧
    (setPinned a0 a1 s).power = s.power ∧ (setPinned a0 a1 s).fuses = s.fuses ∧ (setPinned a0 a1 s).cfg = s.cfg ∧
    (setPinned a0 a1 s).field = s.field ∧ (setPinned a0 a1 s).pairs = s.pairs ∧
    (setPinned a0 a1 s).array = s.array ∧ (setPinned a0 a1 s).outs = s.outs ∧ (setPinned a0 a1 s).proc = s.proc ∧
    (setPinned a0 a1 s).col = s.col ∧ (setPinned a0 a1 s).breach = s.breach ∧ (setPinned a0 a1 s).test = s.test ∧
    (setPinned a0 a1 s).net = s.net ∧ (setPinned a0 a1 s).time = s.time ∧ (setPinned a0 a1 s).draws = s.draws := by
  simp [setPinned]

@[simp] theorem readRing_keeps (a0) (s : State) :
    (readRing a0 s).pending = s.pending ∧ (readRing a0 s).power = s.power ∧ (readRing a0 s).fuses = s.fuses ∧
    (readRing a0 s).cfg = s.cfg ∧ (readRing a0 s).field = s.field ∧ (readRing a0 s).pairs = s.pairs ∧
    (readRing a0 s).outs = s.outs ∧ (readRing a0 s).net = s.net ∧ (readRing a0 s).time = s.time := by
  simp only [readRing]
  (repeat' split) <;> simp

@[simp] theorem readPinned_keeps (a0) (s : State) :
    (readPinned a0 s).pending = s.pending ∧ (readPinned a0 s).power = s.power ∧ (readPinned a0 s).fuses = s.fuses ∧
    (readPinned a0 s).cfg = s.cfg ∧ (readPinned a0 s).field = s.field ∧ (readPinned a0 s).pairs = s.pairs ∧
    (readPinned a0 s).outs = s.outs ∧ (readPinned a0 s).net = s.net ∧ (readPinned a0 s).time = s.time := by
  simp only [readPinned]
  (repeat' split) <;> simp

@[simp] theorem modSpi_keeps (a0) (a1) (s : State) :
    (modSpi a0 a1 s).pending = s.pending ∧ (modSpi a0 a1 s).ctl = s.ctl ∧ (modSpi a0 a1 s).power = s.power ∧
    (modSpi a0 a1 s).fuses = s.fuses ∧ (modSpi a0 a1 s).cfg = s.cfg ∧ (modSpi a0 a1 s).dict = s.dict ∧
    (modSpi a0 a1 s).field = s.field ∧ (modSpi a0 a1 s).pairs = s.pairs ∧ (modSpi a0 a1 s).array = s.array ∧
    (modSpi a0 a1 s).outs = s.outs ∧ (modSpi a0 a1 s).proc = s.proc ∧ (modSpi a0 a1 s).col = s.col ∧
    (modSpi a0 a1 s).breach = s.breach ∧ (modSpi a0 a1 s).test = s.test ∧ (modSpi a0 a1 s).led = s.led ∧
    (modSpi a0 a1 s).time = s.time ∧ (modSpi a0 a1 s).draws = s.draws := by
  simp [modSpi]

@[simp] theorem spiTurn_keeps (a0) (s : State) :
    (spiTurn a0 s).pending = s.pending ∧ (spiTurn a0 s).ctl = s.ctl ∧ (spiTurn a0 s).power = s.power ∧
    (spiTurn a0 s).fuses = s.fuses ∧ (spiTurn a0 s).cfg = s.cfg ∧ (spiTurn a0 s).dict = s.dict ∧
    (spiTurn a0 s).field = s.field ∧ (spiTurn a0 s).pairs = s.pairs ∧ (spiTurn a0 s).array = s.array ∧
    (spiTurn a0 s).outs = s.outs ∧ (spiTurn a0 s).proc = s.proc ∧ (spiTurn a0 s).col = s.col ∧
    (spiTurn a0 s).breach = s.breach ∧ (spiTurn a0 s).test = s.test ∧ (spiTurn a0 s).led = s.led ∧
    (spiTurn a0 s).time = s.time ∧ (spiTurn a0 s).draws = s.draws := by
  simp [spiTurn]

@[simp] theorem modUart_keeps (a0) (a1) (s : State) :
    (modUart a0 a1 s).pending = s.pending ∧ (modUart a0 a1 s).ctl = s.ctl ∧ (modUart a0 a1 s).power = s.power ∧
    (modUart a0 a1 s).fuses = s.fuses ∧ (modUart a0 a1 s).cfg = s.cfg ∧ (modUart a0 a1 s).dict = s.dict ∧
    (modUart a0 a1 s).field = s.field ∧ (modUart a0 a1 s).pairs = s.pairs ∧ (modUart a0 a1 s).array = s.array ∧
    (modUart a0 a1 s).outs = s.outs ∧ (modUart a0 a1 s).proc = s.proc ∧ (modUart a0 a1 s).col = s.col ∧
    (modUart a0 a1 s).breach = s.breach ∧ (modUart a0 a1 s).test = s.test ∧ (modUart a0 a1 s).led = s.led ∧
    (modUart a0 a1 s).time = s.time ∧ (modUart a0 a1 s).draws = s.draws := by
  simp [modUart]

@[simp] theorem uartSend_keeps (a0) (a1) (a2) (s : State) :
    (uartSend a0 a1 a2 s).pending = s.pending ∧ (uartSend a0 a1 a2 s).ctl = s.ctl ∧
    (uartSend a0 a1 a2 s).power = s.power ∧ (uartSend a0 a1 a2 s).fuses = s.fuses ∧
    (uartSend a0 a1 a2 s).cfg = s.cfg ∧ (uartSend a0 a1 a2 s).dict = s.dict ∧
    (uartSend a0 a1 a2 s).field = s.field ∧ (uartSend a0 a1 a2 s).pairs = s.pairs ∧
    (uartSend a0 a1 a2 s).array = s.array ∧ (uartSend a0 a1 a2 s).outs = s.outs ∧
    (uartSend a0 a1 a2 s).proc = s.proc ∧ (uartSend a0 a1 a2 s).col = s.col ∧
    (uartSend a0 a1 a2 s).breach = s.breach ∧ (uartSend a0 a1 a2 s).test = s.test ∧
    (uartSend a0 a1 a2 s).led = s.led ∧ (uartSend a0 a1 a2 s).time = s.time ∧
    (uartSend a0 a1 a2 s).draws = s.draws := by
  simp [uartSend]

@[simp] theorem streamStart_keeps (a0) (a1) (s : State) :
    (streamStart a0 a1 s).pending = s.pending ∧ (streamStart a0 a1 s).ctl = s.ctl ∧
    (streamStart a0 a1 s).power = s.power ∧ (streamStart a0 a1 s).fuses = s.fuses ∧
    (streamStart a0 a1 s).cfg = s.cfg ∧ (streamStart a0 a1 s).dict = s.dict ∧
    (streamStart a0 a1 s).field = s.field ∧ (streamStart a0 a1 s).pairs = s.pairs ∧
    (streamStart a0 a1 s).array = s.array ∧ (streamStart a0 a1 s).outs = s.outs ∧
    (streamStart a0 a1 s).proc = s.proc ∧ (streamStart a0 a1 s).col = s.col ∧
    (streamStart a0 a1 s).breach = s.breach ∧ (streamStart a0 a1 s).test = s.test ∧
    (streamStart a0 a1 s).led = s.led ∧ (streamStart a0 a1 s).time = s.time ∧
    (streamStart a0 a1 s).draws = s.draws := by
  simp [streamStart]

@[simp] theorem modSensor_keeps (a0) (a1) (s : State) :
    (modSensor a0 a1 s).pending = s.pending ∧ (modSensor a0 a1 s).ctl = s.ctl ∧
    (modSensor a0 a1 s).power = s.power ∧ (modSensor a0 a1 s).fuses = s.fuses ∧ (modSensor a0 a1 s).cfg = s.cfg ∧
    (modSensor a0 a1 s).dict = s.dict ∧ (modSensor a0 a1 s).field = s.field ∧ (modSensor a0 a1 s).pairs = s.pairs ∧
    (modSensor a0 a1 s).array = s.array ∧ (modSensor a0 a1 s).outs = s.outs ∧ (modSensor a0 a1 s).proc = s.proc ∧
    (modSensor a0 a1 s).col = s.col ∧ (modSensor a0 a1 s).breach = s.breach ∧ (modSensor a0 a1 s).test = s.test ∧
    (modSensor a0 a1 s).led = s.led ∧ (modSensor a0 a1 s).time = s.time ∧ (modSensor a0 a1 s).draws = s.draws := by
  simp [modSensor]

@[simp] theorem sensorRead_keeps (a0) (a1) (s : State) :
    (sensorRead a0 a1 s).pending = s.pending ∧ (sensorRead a0 a1 s).power = s.power ∧
    (sensorRead a0 a1 s).fuses = s.fuses ∧ (sensorRead a0 a1 s).cfg = s.cfg ∧ (sensorRead a0 a1 s).dict = s.dict ∧
    (sensorRead a0 a1 s).field = s.field ∧ (sensorRead a0 a1 s).pairs = s.pairs ∧
    (sensorRead a0 a1 s).outs = s.outs ∧ (sensorRead a0 a1 s).time = s.time := by
  simp only [sensorRead]
  (repeat' split) <;> simp

@[simp] theorem identityRead_keeps (a0) (s : State) :
    (identityRead a0 s).pending = s.pending ∧ (identityRead a0 s).power = s.power ∧
    (identityRead a0 s).fuses = s.fuses ∧ (identityRead a0 s).cfg = s.cfg ∧ (identityRead a0 s).dict = s.dict ∧
    (identityRead a0 s).field = s.field ∧ (identityRead a0 s).pairs = s.pairs ∧ (identityRead a0 s).outs = s.outs ∧
    (identityRead a0 s).time = s.time := by
  simp only [identityRead]
  (repeat' split) <;> simp

@[simp] theorem identityAgain_keeps (s : State) :
    (identityAgain s).pending = s.pending ∧ (identityAgain s).power = s.power ∧ (identityAgain s).fuses = s.fuses ∧
    (identityAgain s).cfg = s.cfg ∧ (identityAgain s).dict = s.dict ∧ (identityAgain s).field = s.field ∧
    (identityAgain s).pairs = s.pairs ∧ (identityAgain s).outs = s.outs ∧ (identityAgain s).time = s.time := by
  simp [identityAgain]

@[simp] theorem modTime_keeps (a0) (s : State) :
    (modTime a0 s).pending = s.pending ∧ (modTime a0 s).ctl = s.ctl ∧ (modTime a0 s).power = s.power ∧
    (modTime a0 s).fuses = s.fuses ∧ (modTime a0 s).cfg = s.cfg ∧ (modTime a0 s).dict = s.dict ∧
    (modTime a0 s).field = s.field ∧ (modTime a0 s).pairs = s.pairs ∧ (modTime a0 s).array = s.array ∧
    (modTime a0 s).outs = s.outs ∧ (modTime a0 s).proc = s.proc ∧ (modTime a0 s).col = s.col ∧
    (modTime a0 s).breach = s.breach ∧ (modTime a0 s).test = s.test ∧ (modTime a0 s).net = s.net ∧
    (modTime a0 s).led = s.led ∧ (modTime a0 s).draws = s.draws := by
  simp [modTime]

@[simp] theorem modAlign_keeps (a0) (a1) (s : State) :
    (modAlign a0 a1 s).pending = s.pending ∧ (modAlign a0 a1 s).ctl = s.ctl ∧ (modAlign a0 a1 s).fuses = s.fuses ∧
    (modAlign a0 a1 s).cfg = s.cfg ∧ (modAlign a0 a1 s).dict = s.dict ∧ (modAlign a0 a1 s).field = s.field ∧
    (modAlign a0 a1 s).pairs = s.pairs ∧ (modAlign a0 a1 s).array = s.array ∧ (modAlign a0 a1 s).outs = s.outs ∧
    (modAlign a0 a1 s).proc = s.proc ∧ (modAlign a0 a1 s).col = s.col ∧ (modAlign a0 a1 s).breach = s.breach ∧
    (modAlign a0 a1 s).test = s.test ∧ (modAlign a0 a1 s).net = s.net ∧ (modAlign a0 a1 s).led = s.led ∧
    (modAlign a0 a1 s).time = s.time ∧ (modAlign a0 a1 s).draws = s.draws := by
  simp [modAlign]

@[simp] theorem clockReading_keeps (a0) (a1) (a2) (s : State) :
    (clockReading a0 a1 a2 s).pending = s.pending ∧ (clockReading a0 a1 a2 s).ctl = s.ctl ∧
    (clockReading a0 a1 a2 s).fuses = s.fuses ∧ (clockReading a0 a1 a2 s).cfg = s.cfg ∧
    (clockReading a0 a1 a2 s).dict = s.dict ∧ (clockReading a0 a1 a2 s).field = s.field ∧
    (clockReading a0 a1 a2 s).pairs = s.pairs ∧ (clockReading a0 a1 a2 s).array = s.array ∧
    (clockReading a0 a1 a2 s).outs = s.outs ∧ (clockReading a0 a1 a2 s).proc = s.proc ∧
    (clockReading a0 a1 a2 s).col = s.col ∧ (clockReading a0 a1 a2 s).breach = s.breach ∧
    (clockReading a0 a1 a2 s).test = s.test ∧ (clockReading a0 a1 a2 s).net = s.net ∧
    (clockReading a0 a1 a2 s).led = s.led ∧ (clockReading a0 a1 a2 s).time = s.time ∧
    (clockReading a0 a1 a2 s).draws = s.draws := by
  simp [clockReading]

@[simp] theorem clockMark_keeps (a0) (a1) (a2) (s : State) :
    (clockMark a0 a1 a2 s).pending = s.pending ∧ (clockMark a0 a1 a2 s).ctl = s.ctl ∧
    (clockMark a0 a1 a2 s).fuses = s.fuses ∧ (clockMark a0 a1 a2 s).cfg = s.cfg ∧
    (clockMark a0 a1 a2 s).dict = s.dict ∧ (clockMark a0 a1 a2 s).field = s.field ∧
    (clockMark a0 a1 a2 s).pairs = s.pairs ∧ (clockMark a0 a1 a2 s).array = s.array ∧
    (clockMark a0 a1 a2 s).outs = s.outs ∧ (clockMark a0 a1 a2 s).proc = s.proc ∧
    (clockMark a0 a1 a2 s).col = s.col ∧ (clockMark a0 a1 a2 s).breach = s.breach ∧
    (clockMark a0 a1 a2 s).test = s.test ∧ (clockMark a0 a1 a2 s).net = s.net ∧
    (clockMark a0 a1 a2 s).led = s.led ∧ (clockMark a0 a1 a2 s).time = s.time ∧
    (clockMark a0 a1 a2 s).draws = s.draws := by
  simp [clockMark]

@[simp] theorem stepTime_keeps (a0) (s : State) :
    (stepTime a0 s).pending = s.pending ∧ (stepTime a0 s).power = s.power ∧ (stepTime a0 s).fuses = s.fuses ∧
    (stepTime a0 s).cfg = s.cfg ∧ (stepTime a0 s).dict = s.dict ∧ (stepTime a0 s).field = s.field ∧
    (stepTime a0 s).pairs = s.pairs ∧ (stepTime a0 s).outs = s.outs ∧ (stepTime a0 s).net = s.net := by
  simp [stepTime]

@[simp] theorem setTimeWrite_keeps (a0) (a1) (s : State) :
    (setTimeWrite a0 a1 s).2.pending = s.pending ∧ (setTimeWrite a0 a1 s).2.power = s.power ∧
    (setTimeWrite a0 a1 s).2.fuses = s.fuses ∧ (setTimeWrite a0 a1 s).2.cfg = s.cfg ∧
    (setTimeWrite a0 a1 s).2.dict = s.dict ∧ (setTimeWrite a0 a1 s).2.field = s.field ∧
    (setTimeWrite a0 a1 s).2.pairs = s.pairs ∧ (setTimeWrite a0 a1 s).2.outs = s.outs ∧
    (setTimeWrite a0 a1 s).2.net = s.net := by
  simp [setTimeWrite]

@[simp] theorem nextSecondWrite_keeps (a0) (s : State) :
    (nextSecondWrite a0 s).pending = s.pending ∧ (nextSecondWrite a0 s).ctl = s.ctl ∧
    (nextSecondWrite a0 s).power = s.power ∧ (nextSecondWrite a0 s).fuses = s.fuses ∧
    (nextSecondWrite a0 s).cfg = s.cfg ∧ (nextSecondWrite a0 s).dict = s.dict ∧
    (nextSecondWrite a0 s).field = s.field ∧ (nextSecondWrite a0 s).pairs = s.pairs ∧
    (nextSecondWrite a0 s).array = s.array ∧ (nextSecondWrite a0 s).outs = s.outs ∧
    (nextSecondWrite a0 s).proc = s.proc ∧ (nextSecondWrite a0 s).col = s.col ∧
    (nextSecondWrite a0 s).breach = s.breach ∧ (nextSecondWrite a0 s).test = s.test ∧
    (nextSecondWrite a0 s).net = s.net ∧ (nextSecondWrite a0 s).led = s.led ∧
    (nextSecondWrite a0 s).draws = s.draws := by
  simp [nextSecondWrite]

@[simp] theorem noteUpdate_keeps (a0) (a1) (s : State) :
    (noteUpdate a0 a1 s).pending = s.pending ∧ (noteUpdate a0 a1 s).ctl = s.ctl ∧
    (noteUpdate a0 a1 s).power = s.power ∧ (noteUpdate a0 a1 s).fuses = s.fuses ∧
    (noteUpdate a0 a1 s).cfg = s.cfg ∧ (noteUpdate a0 a1 s).dict = s.dict ∧ (noteUpdate a0 a1 s).field = s.field ∧
    (noteUpdate a0 a1 s).pairs = s.pairs ∧ (noteUpdate a0 a1 s).array = s.array ∧
    (noteUpdate a0 a1 s).outs = s.outs ∧ (noteUpdate a0 a1 s).proc = s.proc ∧ (noteUpdate a0 a1 s).col = s.col ∧
    (noteUpdate a0 a1 s).breach = s.breach ∧ (noteUpdate a0 a1 s).test = s.test ∧
    (noteUpdate a0 a1 s).net = s.net ∧ (noteUpdate a0 a1 s).led = s.led ∧ (noteUpdate a0 a1 s).draws = s.draws := by
  simp [noteUpdate]

@[simp] theorem setSpring_keeps (a0) (s : State) :
    (setSpring a0 s).pending = s.pending ∧ (setSpring a0 s).ctl = s.ctl ∧ (setSpring a0 s).power = s.power ∧
    (setSpring a0 s).fuses = s.fuses ∧ (setSpring a0 s).cfg = s.cfg ∧ (setSpring a0 s).dict = s.dict ∧
    (setSpring a0 s).field = s.field ∧ (setSpring a0 s).pairs = s.pairs ∧ (setSpring a0 s).array = s.array ∧
    (setSpring a0 s).outs = s.outs ∧ (setSpring a0 s).test = s.test ∧ (setSpring a0 s).net = s.net ∧
    (setSpring a0 s).draws = s.draws := by
  simp [setSpring]

@[simp] theorem slew_keeps (s : State) :
    (slew s).pending = s.pending ∧ (slew s).ctl = s.ctl ∧ (slew s).power = s.power ∧ (slew s).fuses = s.fuses ∧
    (slew s).cfg = s.cfg ∧ (slew s).dict = s.dict ∧ (slew s).field = s.field ∧ (slew s).pairs = s.pairs ∧
    (slew s).array = s.array ∧ (slew s).outs = s.outs ∧ (slew s).proc = s.proc ∧ (slew s).col = s.col ∧
    (slew s).breach = s.breach ∧ (slew s).test = s.test ∧ (slew s).net = s.net ∧ (slew s).led = s.led := by
  simp [slew]

@[simp] theorem springUpdate_keeps (a0) (s : State) :
    (springUpdate a0 s).pending = s.pending ∧ (springUpdate a0 s).power = s.power ∧
    (springUpdate a0 s).fuses = s.fuses ∧ (springUpdate a0 s).cfg = s.cfg ∧ (springUpdate a0 s).dict = s.dict ∧
    (springUpdate a0 s).field = s.field ∧ (springUpdate a0 s).pairs = s.pairs ∧ (springUpdate a0 s).outs = s.outs ∧
    (springUpdate a0 s).net = s.net := by
  simp [springUpdate]

@[simp] theorem offsetFrom_keeps (a0) (a1) (s : State) :
    (offsetFrom a0 a1 s).pending = s.pending ∧ (offsetFrom a0 a1 s).power = s.power ∧
    (offsetFrom a0 a1 s).fuses = s.fuses ∧ (offsetFrom a0 a1 s).cfg = s.cfg ∧ (offsetFrom a0 a1 s).dict = s.dict ∧
    (offsetFrom a0 a1 s).field = s.field ∧ (offsetFrom a0 a1 s).pairs = s.pairs ∧
    (offsetFrom a0 a1 s).outs = s.outs ∧ (offsetFrom a0 a1 s).net = s.net := by
  simp [offsetFrom]

@[simp] theorem sourceLost_keeps (a0) (s : State) :
    (sourceLost a0 s).pending = s.pending ∧ (sourceLost a0 s).power = s.power ∧ (sourceLost a0 s).fuses = s.fuses ∧
    (sourceLost a0 s).cfg = s.cfg ∧ (sourceLost a0 s).dict = s.dict ∧ (sourceLost a0 s).field = s.field ∧
    (sourceLost a0 s).pairs = s.pairs ∧ (sourceLost a0 s).outs = s.outs ∧ (sourceLost a0 s).net = s.net := by
  simp [sourceLost]

@[simp] theorem withRole_keeps (a0) (s : State) :
    (withRole a0 s).pending = s.pending ∧ (withRole a0 s).ctl = s.ctl ∧ (withRole a0 s).power = s.power ∧
    (withRole a0 s).fuses = s.fuses ∧ (withRole a0 s).cfg = s.cfg ∧ (withRole a0 s).dict = s.dict ∧
    (withRole a0 s).field = s.field ∧ (withRole a0 s).pairs = s.pairs ∧ (withRole a0 s).array = s.array ∧
    (withRole a0 s).outs = s.outs ∧ (withRole a0 s).proc = s.proc ∧ (withRole a0 s).col = s.col ∧
    (withRole a0 s).breach = s.breach ∧ (withRole a0 s).test = s.test ∧ (withRole a0 s).led = s.led ∧
    (withRole a0 s).time = s.time := by
  simp [withRole]

@[simp] theorem ptpSend_keeps (a0) (a1) (a2) (a3) (a4) (s : State) :
    (ptpSend a0 a1 a2 a3 a4 s).pending = s.pending ∧ (ptpSend a0 a1 a2 a3 a4 s).ctl = s.ctl ∧
    (ptpSend a0 a1 a2 a3 a4 s).power = s.power ∧ (ptpSend a0 a1 a2 a3 a4 s).fuses = s.fuses ∧
    (ptpSend a0 a1 a2 a3 a4 s).cfg = s.cfg ∧ (ptpSend a0 a1 a2 a3 a4 s).dict = s.dict ∧
    (ptpSend a0 a1 a2 a3 a4 s).field = s.field ∧ (ptpSend a0 a1 a2 a3 a4 s).pairs = s.pairs ∧
    (ptpSend a0 a1 a2 a3 a4 s).array = s.array ∧ (ptpSend a0 a1 a2 a3 a4 s).outs = s.outs ∧
    (ptpSend a0 a1 a2 a3 a4 s).proc = s.proc ∧ (ptpSend a0 a1 a2 a3 a4 s).test = s.test ∧
    (ptpSend a0 a1 a2 a3 a4 s).time = s.time ∧ (ptpSend a0 a1 a2 a3 a4 s).draws = s.draws := by
  simp [ptpSend]

@[simp] theorem scrubFound_keeps (a0) (s : State) :
    (scrubFound a0 s).pending = s.pending ∧ (scrubFound a0 s).power = s.power ∧ (scrubFound a0 s).fuses = s.fuses ∧
    (scrubFound a0 s).cfg = s.cfg ∧ (scrubFound a0 s).dict = s.dict ∧ (scrubFound a0 s).field = s.field ∧
    (scrubFound a0 s).pairs = s.pairs ∧ (scrubFound a0 s).outs = s.outs ∧ (scrubFound a0 s).net = s.net ∧
    (scrubFound a0 s).time = s.time := by
  simp only [scrubFound]
  (repeat' split) <;> simp

@[simp] theorem scrubPlace_keeps (a0) (s : State) :
    (scrubPlace a0 s).pending = s.pending ∧ (scrubPlace a0 s).power = s.power ∧ (scrubPlace a0 s).fuses = s.fuses ∧
    (scrubPlace a0 s).cfg = s.cfg ∧ (scrubPlace a0 s).dict = s.dict ∧ (scrubPlace a0 s).field = s.field ∧
    (scrubPlace a0 s).pairs = s.pairs ∧ (scrubPlace a0 s).outs = s.outs ∧ (scrubPlace a0 s).net = s.net ∧
    (scrubPlace a0 s).time = s.time := by
  simp only [scrubPlace]
  (repeat' split) <;> simp

@[simp] theorem makeEligible_keeps (a0) (s : State) :
    (makeEligible a0 s).pending = s.pending ∧ (makeEligible a0 s).ctl = s.ctl ∧
    (makeEligible a0 s).power = s.power ∧ (makeEligible a0 s).fuses = s.fuses ∧ (makeEligible a0 s).cfg = s.cfg ∧
    (makeEligible a0 s).dict = s.dict ∧ (makeEligible a0 s).field = s.field ∧ (makeEligible a0 s).pairs = s.pairs ∧
    (makeEligible a0 s).array = s.array ∧ (makeEligible a0 s).outs = s.outs ∧ (makeEligible a0 s).proc = s.proc ∧
    (makeEligible a0 s).col = s.col ∧ (makeEligible a0 s).breach = s.breach ∧ (makeEligible a0 s).net = s.net ∧
    (makeEligible a0 s).led = s.led ∧ (makeEligible a0 s).time = s.time ∧ (makeEligible a0 s).draws = s.draws := by
  simp [makeEligible]

@[simp] theorem testReqWrite_keeps (a0) (a1) (s : State) :
    (testReqWrite a0 a1 s).2.pending = s.pending ∧ (testReqWrite a0 a1 s).2.ctl = s.ctl ∧
    (testReqWrite a0 a1 s).2.power = s.power ∧ (testReqWrite a0 a1 s).2.fuses = s.fuses ∧
    (testReqWrite a0 a1 s).2.cfg = s.cfg ∧ (testReqWrite a0 a1 s).2.dict = s.dict ∧
    (testReqWrite a0 a1 s).2.field = s.field ∧ (testReqWrite a0 a1 s).2.pairs = s.pairs ∧
    (testReqWrite a0 a1 s).2.array = s.array ∧ (testReqWrite a0 a1 s).2.outs = s.outs ∧
    (testReqWrite a0 a1 s).2.proc = s.proc ∧ (testReqWrite a0 a1 s).2.col = s.col ∧
    (testReqWrite a0 a1 s).2.breach = s.breach ∧ (testReqWrite a0 a1 s).2.net = s.net ∧
    (testReqWrite a0 a1 s).2.led = s.led ∧ (testReqWrite a0 a1 s).2.time = s.time ∧
    (testReqWrite a0 a1 s).2.draws = s.draws := by
  simp [testReqWrite]

@[simp] theorem itemPass_keeps (a0) (s : State) :
    (itemPass a0 s).pending = s.pending ∧ (itemPass a0 s).ctl = s.ctl ∧ (itemPass a0 s).power = s.power ∧
    (itemPass a0 s).fuses = s.fuses ∧ (itemPass a0 s).cfg = s.cfg ∧ (itemPass a0 s).dict = s.dict ∧
    (itemPass a0 s).field = s.field ∧ (itemPass a0 s).pairs = s.pairs ∧ (itemPass a0 s).array = s.array ∧
    (itemPass a0 s).outs = s.outs ∧ (itemPass a0 s).net = s.net ∧ (itemPass a0 s).time = s.time ∧
    (itemPass a0 s).draws = s.draws := by
  simp [itemPass]

@[simp] theorem itemFail_keeps (a0) (a1) (a2) (s : State) :
    (itemFail a0 a1 a2 s).pending = s.pending ∧ (itemFail a0 a1 a2 s).ctl = s.ctl ∧
    (itemFail a0 a1 a2 s).power = s.power ∧ (itemFail a0 a1 a2 s).fuses = s.fuses ∧
    (itemFail a0 a1 a2 s).cfg = s.cfg ∧ (itemFail a0 a1 a2 s).dict = s.dict ∧
    (itemFail a0 a1 a2 s).field = s.field ∧ (itemFail a0 a1 a2 s).pairs = s.pairs ∧
    (itemFail a0 a1 a2 s).array = s.array ∧ (itemFail a0 a1 a2 s).outs = s.outs ∧
    (itemFail a0 a1 a2 s).proc = s.proc ∧ (itemFail a0 a1 a2 s).col = s.col ∧
    (itemFail a0 a1 a2 s).breach = s.breach ∧ (itemFail a0 a1 a2 s).net = s.net ∧
    (itemFail a0 a1 a2 s).led = s.led ∧ (itemFail a0 a1 a2 s).time = s.time ∧
    (itemFail a0 a1 a2 s).draws = s.draws := by
  simp [itemFail]

@[simp] theorem itemReport_keeps (a0) (a1) (s : State) :
    (itemReport a0 a1 s).pending = s.pending ∧ (itemReport a0 a1 s).ctl = s.ctl ∧
    (itemReport a0 a1 s).power = s.power ∧ (itemReport a0 a1 s).fuses = s.fuses ∧
    (itemReport a0 a1 s).cfg = s.cfg ∧ (itemReport a0 a1 s).dict = s.dict ∧ (itemReport a0 a1 s).field = s.field ∧
    (itemReport a0 a1 s).pairs = s.pairs ∧ (itemReport a0 a1 s).array = s.array ∧
    (itemReport a0 a1 s).outs = s.outs ∧ (itemReport a0 a1 s).proc = s.proc ∧ (itemReport a0 a1 s).net = s.net ∧
    (itemReport a0 a1 s).time = s.time ∧ (itemReport a0 a1 s).draws = s.draws := by
  simp [itemReport]

@[simp] theorem heldSnap_keeps (a0) (s : State) :
    (heldSnap a0 s).pending = s.pending ∧ (heldSnap a0 s).ctl = s.ctl ∧ (heldSnap a0 s).power = s.power ∧
    (heldSnap a0 s).fuses = s.fuses ∧ (heldSnap a0 s).cfg = s.cfg ∧ (heldSnap a0 s).dict = s.dict ∧
    (heldSnap a0 s).field = s.field ∧ (heldSnap a0 s).pairs = s.pairs ∧ (heldSnap a0 s).array = s.array ∧
    (heldSnap a0 s).outs = s.outs ∧ (heldSnap a0 s).proc = s.proc ∧ (heldSnap a0 s).col = s.col ∧
    (heldSnap a0 s).breach = s.breach ∧ (heldSnap a0 s).net = s.net ∧ (heldSnap a0 s).led = s.led ∧
    (heldSnap a0 s).time = s.time ∧ (heldSnap a0 s).draws = s.draws := by
  simp [heldSnap]

@[simp] theorem reloadArray_keeps (a0) (s : State) :
    (reloadArray a0 s).pending = s.pending ∧ (reloadArray a0 s).ctl = s.ctl ∧ (reloadArray a0 s).power = s.power ∧
    (reloadArray a0 s).fuses = s.fuses ∧ (reloadArray a0 s).cfg = s.cfg ∧ (reloadArray a0 s).dict = s.dict ∧
    (reloadArray a0 s).field = s.field ∧ (reloadArray a0 s).pairs = s.pairs ∧ (reloadArray a0 s).outs = s.outs ∧
    (reloadArray a0 s).proc = s.proc ∧ (reloadArray a0 s).col = s.col ∧ (reloadArray a0 s).breach = s.breach ∧
    (reloadArray a0 s).test = s.test ∧ (reloadArray a0 s).net = s.net ∧ (reloadArray a0 s).led = s.led ∧
    (reloadArray a0 s).time = s.time ∧ (reloadArray a0 s).draws = s.draws := by
  simp [reloadArray]

@[simp] theorem oweTests_keeps (a0) (s : State) :
    (oweTests a0 s).pending = s.pending ∧ (oweTests a0 s).ctl = s.ctl ∧ (oweTests a0 s).power = s.power ∧
    (oweTests a0 s).fuses = s.fuses ∧ (oweTests a0 s).cfg = s.cfg ∧ (oweTests a0 s).dict = s.dict ∧
    (oweTests a0 s).field = s.field ∧ (oweTests a0 s).pairs = s.pairs ∧ (oweTests a0 s).array = s.array ∧
    (oweTests a0 s).proc = s.proc ∧ (oweTests a0 s).col = s.col ∧ (oweTests a0 s).breach = s.breach ∧
    (oweTests a0 s).test = s.test ∧ (oweTests a0 s).net = s.net ∧ (oweTests a0 s).led = s.led ∧
    (oweTests a0 s).time = s.time ∧ (oweTests a0 s).draws = s.draws := by
  simp [oweTests]

@[simp] theorem readAreas_keeps (s : State) :
    (readAreas s).pending = s.pending ∧ (readAreas s).power = s.power ∧ (readAreas s).fuses = s.fuses ∧
    (readAreas s).cfg = s.cfg ∧ (readAreas s).dict = s.dict ∧ (readAreas s).field = s.field ∧
    (readAreas s).pairs = s.pairs ∧ (readAreas s).outs = s.outs ∧ (readAreas s).net = s.net ∧
    (readAreas s).time = s.time := by
  simp [readAreas]

@[simp] theorem capture_keeps (s : State) :
    (capture s).pending = s.pending ∧ (capture s).power = s.power ∧ (capture s).fuses = s.fuses ∧
    (capture s).cfg = s.cfg ∧ (capture s).dict = s.dict ∧ (capture s).field = s.field ∧
    (capture s).pairs = s.pairs ∧ (capture s).outs = s.outs ∧ (capture s).net = s.net ∧
    (capture s).time = s.time := by
  simp [capture]

@[simp] theorem readDemands_keeps (a0) (s : State) :
    (readDemands a0 s).pending = s.pending ∧ (readDemands a0 s).power = s.power ∧
    (readDemands a0 s).fuses = s.fuses ∧ (readDemands a0 s).cfg = s.cfg ∧ (readDemands a0 s).dict = s.dict ∧
    (readDemands a0 s).field = s.field ∧ (readDemands a0 s).pairs = s.pairs ∧ (readDemands a0 s).outs = s.outs ∧
    (readDemands a0 s).net = s.net ∧ (readDemands a0 s).time = s.time := by
  simp [readDemands]

@[simp] theorem publish_keeps (a0) (s : State) :
    (publish a0 s).pending = s.pending ∧ (publish a0 s).power = s.power ∧ (publish a0 s).fuses = s.fuses ∧
    (publish a0 s).cfg = s.cfg ∧ (publish a0 s).dict = s.dict ∧ (publish a0 s).field = s.field ∧
    (publish a0 s).pairs = s.pairs ∧ (publish a0 s).net = s.net ∧ (publish a0 s).time = s.time := by
  simp [publish]

@[simp] theorem cycleEnd_keeps (a0) (s : State) :
    (cycleEnd a0 s).pending = s.pending ∧ (cycleEnd a0 s).ctl = s.ctl ∧ (cycleEnd a0 s).power = s.power ∧
    (cycleEnd a0 s).fuses = s.fuses ∧ (cycleEnd a0 s).cfg = s.cfg ∧ (cycleEnd a0 s).dict = s.dict ∧
    (cycleEnd a0 s).field = s.field ∧ (cycleEnd a0 s).pairs = s.pairs ∧ (cycleEnd a0 s).array = s.array ∧
    (cycleEnd a0 s).outs = s.outs ∧ (cycleEnd a0 s).col = s.col ∧ (cycleEnd a0 s).breach = s.breach ∧
    (cycleEnd a0 s).test = s.test ∧ (cycleEnd a0 s).net = s.net ∧ (cycleEnd a0 s).led = s.led ∧
    (cycleEnd a0 s).time = s.time ∧ (cycleEnd a0 s).draws = s.draws := by
  simp [cycleEnd]

@[simp] theorem lanesStop_keeps (s : State) :
    (lanesStop s).pending = s.pending ∧ (lanesStop s).ctl = s.ctl ∧ (lanesStop s).power = s.power ∧
    (lanesStop s).fuses = s.fuses ∧ (lanesStop s).cfg = s.cfg ∧ (lanesStop s).dict = s.dict ∧
    (lanesStop s).field = s.field ∧ (lanesStop s).pairs = s.pairs ∧ (lanesStop s).array = s.array ∧
    (lanesStop s).outs = s.outs ∧ (lanesStop s).col = s.col ∧ (lanesStop s).breach = s.breach ∧
    (lanesStop s).test = s.test ∧ (lanesStop s).net = s.net ∧ (lanesStop s).led = s.led ∧
    (lanesStop s).time = s.time ∧ (lanesStop s).draws = s.draws := by
  simp [lanesStop]

@[simp] theorem statsReset_keeps (s : State) :
    (statsReset s).pending = s.pending ∧ (statsReset s).ctl = s.ctl ∧ (statsReset s).power = s.power ∧
    (statsReset s).fuses = s.fuses ∧ (statsReset s).cfg = s.cfg ∧ (statsReset s).dict = s.dict ∧
    (statsReset s).field = s.field ∧ (statsReset s).pairs = s.pairs ∧ (statsReset s).array = s.array ∧
    (statsReset s).outs = s.outs ∧ (statsReset s).col = s.col ∧ (statsReset s).breach = s.breach ∧
    (statsReset s).test = s.test ∧ (statsReset s).net = s.net ∧ (statsReset s).led = s.led ∧
    (statsReset s).time = s.time ∧ (statsReset s).draws = s.draws := by
  simp [statsReset]

@[simp] theorem boundaryWork_keeps (a0) (a1) (s : State) :
    (boundaryWork a0 a1 s).pending = s.pending ∧ (boundaryWork a0 a1 s).power = s.power ∧
    (boundaryWork a0 a1 s).fuses = s.fuses ∧ (boundaryWork a0 a1 s).cfg = s.cfg ∧
    (boundaryWork a0 a1 s).dict = s.dict ∧ (boundaryWork a0 a1 s).field = s.field ∧
    (boundaryWork a0 a1 s).pairs = s.pairs ∧ (boundaryWork a0 a1 s).outs = s.outs ∧
    (boundaryWork a0 a1 s).time = s.time := by
  simp [boundaryWork]

@[simp] theorem missWindows_keeps (a0) (s : State) :
    (missWindows a0 s).pending = s.pending ∧ (missWindows a0 s).power = s.power ∧
    (missWindows a0 s).fuses = s.fuses ∧ (missWindows a0 s).cfg = s.cfg ∧ (missWindows a0 s).dict = s.dict ∧
    (missWindows a0 s).field = s.field ∧ (missWindows a0 s).pairs = s.pairs ∧ (missWindows a0 s).outs = s.outs ∧
    (missWindows a0 s).net = s.net ∧ (missWindows a0 s).time = s.time := by
  simp [missWindows]

@[simp] theorem loadPart_keeps (a0) (s : State) :
    (loadPart a0 s).pending = s.pending ∧ (loadPart a0 s).ctl = s.ctl ∧ (loadPart a0 s).power = s.power ∧
    (loadPart a0 s).fuses = s.fuses ∧ (loadPart a0 s).cfg = s.cfg ∧ (loadPart a0 s).dict = s.dict ∧
    (loadPart a0 s).field = s.field ∧ (loadPart a0 s).pairs = s.pairs ∧ (loadPart a0 s).array = s.array ∧
    (loadPart a0 s).outs = s.outs ∧ (loadPart a0 s).col = s.col ∧ (loadPart a0 s).breach = s.breach ∧
    (loadPart a0 s).test = s.test ∧ (loadPart a0 s).net = s.net ∧ (loadPart a0 s).led = s.led ∧
    (loadPart a0 s).time = s.time ∧ (loadPart a0 s).draws = s.draws := by
  simp only [loadPart]
  (repeat' split) <;> simp

@[simp] theorem assignRoles_keeps (s : State) :
    (assignRoles s).pending = s.pending ∧ (assignRoles s).ctl = s.ctl ∧ (assignRoles s).power = s.power ∧
    (assignRoles s).fuses = s.fuses ∧ (assignRoles s).cfg = s.cfg ∧ (assignRoles s).dict = s.dict ∧
    (assignRoles s).field = s.field ∧ (assignRoles s).pairs = s.pairs ∧ (assignRoles s).array = s.array ∧
    (assignRoles s).outs = s.outs ∧ (assignRoles s).col = s.col ∧ (assignRoles s).breach = s.breach ∧
    (assignRoles s).test = s.test ∧ (assignRoles s).net = s.net ∧ (assignRoles s).led = s.led ∧
    (assignRoles s).time = s.time ∧ (assignRoles s).draws = s.draws := by
  simp [assignRoles]

@[simp] theorem startField_keeps (a0) (s : State) :
    (startField a0 s).pending = s.pending ∧ (startField a0 s).ctl = s.ctl ∧ (startField a0 s).power = s.power ∧
    (startField a0 s).fuses = s.fuses ∧ (startField a0 s).cfg = s.cfg ∧ (startField a0 s).dict = s.dict ∧
    (startField a0 s).pairs = s.pairs ∧ (startField a0 s).array = s.array ∧ (startField a0 s).outs = s.outs ∧
    (startField a0 s).proc = s.proc ∧ (startField a0 s).col = s.col ∧ (startField a0 s).breach = s.breach ∧
    (startField a0 s).test = s.test ∧ (startField a0 s).net = s.net ∧ (startField a0 s).led = s.led ∧
    (startField a0 s).time = s.time ∧ (startField a0 s).draws = s.draws := by
  simp [startField]

@[simp] theorem doorNotes_keeps (a0) (a1) (a2) (s : State) :
    (doorNotes a0 a1 a2 s).pending = s.pending ∧ (doorNotes a0 a1 a2 s).ctl = s.ctl ∧
    (doorNotes a0 a1 a2 s).power = s.power ∧ (doorNotes a0 a1 a2 s).fuses = s.fuses ∧
    (doorNotes a0 a1 a2 s).cfg = s.cfg ∧ (doorNotes a0 a1 a2 s).dict = s.dict ∧
    (doorNotes a0 a1 a2 s).field = s.field ∧ (doorNotes a0 a1 a2 s).pairs = s.pairs ∧
    (doorNotes a0 a1 a2 s).array = s.array ∧ (doorNotes a0 a1 a2 s).outs = s.outs ∧
    (doorNotes a0 a1 a2 s).proc = s.proc ∧ (doorNotes a0 a1 a2 s).test = s.test ∧
    (doorNotes a0 a1 a2 s).net = s.net ∧ (doorNotes a0 a1 a2 s).time = s.time ∧
    (doorNotes a0 a1 a2 s).draws = s.draws := by
  simp [doorNotes]

@[simp] theorem turnEntry_keeps (a0) (a1) (a2) (s : State) :
    (turnEntry a0 a1 a2 s).pending = s.pending ∧ (turnEntry a0 a1 a2 s).ctl = s.ctl ∧
    (turnEntry a0 a1 a2 s).power = s.power ∧ (turnEntry a0 a1 a2 s).fuses = s.fuses ∧
    (turnEntry a0 a1 a2 s).cfg = s.cfg ∧ (turnEntry a0 a1 a2 s).dict = s.dict ∧
    (turnEntry a0 a1 a2 s).field = s.field ∧ (turnEntry a0 a1 a2 s).array = s.array ∧
    (turnEntry a0 a1 a2 s).outs = s.outs ∧ (turnEntry a0 a1 a2 s).proc = s.proc ∧
    (turnEntry a0 a1 a2 s).test = s.test ∧ (turnEntry a0 a1 a2 s).net = s.net ∧
    (turnEntry a0 a1 a2 s).time = s.time ∧ (turnEntry a0 a1 a2 s).draws = s.draws := by
  simp [turnEntry]

@[simp] theorem stopPairs_keeps (s : State) :
    (stopPairs s).pending = s.pending ∧ (stopPairs s).ctl = s.ctl ∧ (stopPairs s).power = s.power ∧
    (stopPairs s).fuses = s.fuses ∧ (stopPairs s).cfg = s.cfg ∧ (stopPairs s).dict = s.dict ∧
    (stopPairs s).field = s.field ∧ (stopPairs s).array = s.array ∧ (stopPairs s).outs = s.outs ∧
    (stopPairs s).proc = s.proc ∧ (stopPairs s).test = s.test ∧ (stopPairs s).net = s.net ∧
    (stopPairs s).time = s.time ∧ (stopPairs s).draws = s.draws := by
  simp [stopPairs]

@[simp] theorem startPairs_keeps (a0) (s : State) :
    (startPairs a0 s).pending = s.pending ∧ (startPairs a0 s).ctl = s.ctl ∧ (startPairs a0 s).power = s.power ∧
    (startPairs a0 s).fuses = s.fuses ∧ (startPairs a0 s).cfg = s.cfg ∧ (startPairs a0 s).dict = s.dict ∧
    (startPairs a0 s).field = s.field ∧ (startPairs a0 s).array = s.array ∧ (startPairs a0 s).outs = s.outs ∧
    (startPairs a0 s).proc = s.proc ∧ (startPairs a0 s).test = s.test ∧ (startPairs a0 s).net = s.net ∧
    (startPairs a0 s).time = s.time ∧ (startPairs a0 s).draws = s.draws := by
  simp [startPairs]

@[simp] theorem startArray_keeps (a0) (a1) (s : State) :
    (startArray a0 a1 s).pending = s.pending ∧ (startArray a0 a1 s).ctl = s.ctl ∧
    (startArray a0 a1 s).power = s.power ∧ (startArray a0 a1 s).fuses = s.fuses ∧
    (startArray a0 a1 s).cfg = s.cfg ∧ (startArray a0 a1 s).dict = s.dict ∧ (startArray a0 a1 s).field = s.field ∧
    (startArray a0 a1 s).pairs = s.pairs ∧ (startArray a0 a1 s).outs = s.outs ∧
    (startArray a0 a1 s).test = s.test ∧ (startArray a0 a1 s).net = s.net ∧ (startArray a0 a1 s).time = s.time ∧
    (startArray a0 a1 s).draws = s.draws := by
  simp [startArray]

@[simp] theorem startLanes_keeps (a0) (s : State) :
    (startLanes a0 s).pending = s.pending ∧ (startLanes a0 s).power = s.power ∧ (startLanes a0 s).fuses = s.fuses ∧
    (startLanes a0 s).cfg = s.cfg ∧ (startLanes a0 s).dict = s.dict ∧ (startLanes a0 s).time = s.time := by
  simp [startLanes]

@[simp] theorem enterSafe_keeps (a0) (a1) (a2) (s : State) :
    (enterSafe a0 a1 a2 s).pending = s.pending ∧ (enterSafe a0 a1 a2 s).power = s.power ∧
    (enterSafe a0 a1 a2 s).fuses = s.fuses ∧ (enterSafe a0 a1 a2 s).cfg = s.cfg ∧
    (enterSafe a0 a1 a2 s).dict = s.dict ∧ (enterSafe a0 a1 a2 s).time = s.time := by
  simp [enterSafe]

@[simp] theorem runRelease_keeps (a0) (a1) (s : State) :
    (runRelease a0 a1 s).pending = s.pending ∧ (runRelease a0 a1 s).ctl = s.ctl ∧
    (runRelease a0 a1 s).power = s.power ∧ (runRelease a0 a1 s).fuses = s.fuses ∧
    (runRelease a0 a1 s).cfg = s.cfg ∧ (runRelease a0 a1 s).dict = s.dict ∧ (runRelease a0 a1 s).field = s.field ∧
    (runRelease a0 a1 s).array = s.array ∧ (runRelease a0 a1 s).outs = s.outs ∧
    (runRelease a0 a1 s).proc = s.proc ∧ (runRelease a0 a1 s).col = s.col ∧
    (runRelease a0 a1 s).breach = s.breach ∧ (runRelease a0 a1 s).test = s.test ∧
    (runRelease a0 a1 s).net = s.net ∧ (runRelease a0 a1 s).led = s.led ∧ (runRelease a0 a1 s).time = s.time ∧
    (runRelease a0 a1 s).draws = s.draws := by
  simp [runRelease]

@[simp] theorem enterRun_keeps (a0) (a1) (s : State) :
    (enterRun a0 a1 s).pending = s.pending ∧ (enterRun a0 a1 s).power = s.power ∧
    (enterRun a0 a1 s).fuses = s.fuses ∧ (enterRun a0 a1 s).cfg = s.cfg ∧ (enterRun a0 a1 s).dict = s.dict ∧
    (enterRun a0 a1 s).field = s.field ∧ (enterRun a0 a1 s).array = s.array ∧ (enterRun a0 a1 s).outs = s.outs ∧
    (enterRun a0 a1 s).proc = s.proc ∧ (enterRun a0 a1 s).test = s.test ∧ (enterRun a0 a1 s).net = s.net ∧
    (enterRun a0 a1 s).time = s.time ∧ (enterRun a0 a1 s).draws = s.draws := by
  simp [enterRun]

@[simp] theorem allOff_keeps (s : State) :
    (allOff s).pending = s.pending ∧ (allOff s).ctl = s.ctl ∧ (allOff s).power = s.power ∧
    (allOff s).fuses = s.fuses ∧ (allOff s).cfg = s.cfg ∧ (allOff s).dict = s.dict ∧ (allOff s).field = s.field ∧
    (allOff s).pairs = s.pairs ∧ (allOff s).array = s.array ∧ (allOff s).test = s.test ∧ (allOff s).net = s.net ∧
    (allOff s).time = s.time ∧ (allOff s).draws = s.draws := by
  simp [allOff]

@[simp] theorem enterConfigure_keeps (a0) (s : State) :
    (enterConfigure a0 s).pending = s.pending ∧ (enterConfigure a0 s).power = s.power ∧
    (enterConfigure a0 s).fuses = s.fuses ∧ (enterConfigure a0 s).cfg = s.cfg ∧
    (enterConfigure a0 s).dict = s.dict ∧ (enterConfigure a0 s).net = s.net ∧ (enterConfigure a0 s).time = s.time ∧
    (enterConfigure a0 s).draws = s.draws := by
  simp [enterConfigure]

@[simp] theorem restartWidths_keeps (s : State) :
    (restartWidths s).pending = s.pending ∧ (restartWidths s).ctl = s.ctl ∧ (restartWidths s).power = s.power ∧
    (restartWidths s).fuses = s.fuses ∧ (restartWidths s).cfg = s.cfg ∧ (restartWidths s).dict = s.dict ∧
    (restartWidths s).pairs = s.pairs ∧ (restartWidths s).array = s.array ∧ (restartWidths s).outs = s.outs ∧
    (restartWidths s).proc = s.proc ∧ (restartWidths s).col = s.col ∧ (restartWidths s).breach = s.breach ∧
    (restartWidths s).test = s.test ∧ (restartWidths s).net = s.net ∧ (restartWidths s).led = s.led ∧
    (restartWidths s).time = s.time ∧ (restartWidths s).draws = s.draws := by
  simp [restartWidths]

@[simp] theorem backToSafe_keeps (a0) (a1) (s : State) :
    (backToSafe a0 a1 s).pending = s.pending ∧ (backToSafe a0 a1 s).power = s.power ∧
    (backToSafe a0 a1 s).fuses = s.fuses ∧ (backToSafe a0 a1 s).cfg = s.cfg ∧ (backToSafe a0 a1 s).dict = s.dict ∧
    (backToSafe a0 a1 s).pairs = s.pairs ∧ (backToSafe a0 a1 s).array = s.array ∧
    (backToSafe a0 a1 s).test = s.test ∧ (backToSafe a0 a1 s).time = s.time ∧
    (backToSafe a0 a1 s).draws = s.draws := by
  simp [backToSafe]

@[simp] theorem requestAlone_keeps (a0) (a1) (s : State) :
    (requestAlone a0 a1 s).2.pending = s.pending ∧ (requestAlone a0 a1 s).2.power = s.power ∧
    (requestAlone a0 a1 s).2.fuses = s.fuses ∧ (requestAlone a0 a1 s).2.cfg = s.cfg ∧
    (requestAlone a0 a1 s).2.dict = s.dict ∧ (requestAlone a0 a1 s).2.time = s.time ∧
    (requestAlone a0 a1 s).2.draws = s.draws := by
  simp [requestAlone]

@[simp] theorem requestWrite_keeps (a0) (a1) (a2) (s : State) :
    (requestWrite a0 a1 a2 s).2.pending = s.pending ∧ (requestWrite a0 a1 a2 s).2.power = s.power ∧
    (requestWrite a0 a1 a2 s).2.fuses = s.fuses ∧ (requestWrite a0 a1 a2 s).2.cfg = s.cfg ∧
    (requestWrite a0 a1 a2 s).2.dict = s.dict ∧ (requestWrite a0 a1 a2 s).2.time = s.time ∧
    (requestWrite a0 a1 a2 s).2.draws = s.draws := by
  simp [requestWrite]

@[simp] theorem modStaging_keeps (a0) (s : State) :
    (modStaging a0 s).pending = s.pending ∧ (modStaging a0 s).ctl = s.ctl ∧ (modStaging a0 s).power = s.power ∧
    (modStaging a0 s).fuses = s.fuses ∧ (modStaging a0 s).cfg = s.cfg ∧ (modStaging a0 s).field = s.field ∧
    (modStaging a0 s).pairs = s.pairs ∧ (modStaging a0 s).array = s.array ∧ (modStaging a0 s).outs = s.outs ∧
    (modStaging a0 s).proc = s.proc ∧ (modStaging a0 s).col = s.col ∧ (modStaging a0 s).breach = s.breach ∧
    (modStaging a0 s).test = s.test ∧ (modStaging a0 s).net = s.net ∧ (modStaging a0 s).led = s.led ∧
    (modStaging a0 s).time = s.time ∧ (modStaging a0 s).draws = s.draws := by
  simp [modStaging]

@[simp] theorem challenge_keeps (a0) (a1) (a2) (s : State) :
    (challenge a0 a1 a2 s).2.pending = s.pending ∧ (challenge a0 a1 a2 s).2.ctl = s.ctl ∧
    (challenge a0 a1 a2 s).2.power = s.power ∧ (challenge a0 a1 a2 s).2.fuses = s.fuses ∧
    (challenge a0 a1 a2 s).2.cfg = s.cfg ∧ (challenge a0 a1 a2 s).2.field = s.field ∧
    (challenge a0 a1 a2 s).2.pairs = s.pairs ∧ (challenge a0 a1 a2 s).2.array = s.array ∧
    (challenge a0 a1 a2 s).2.outs = s.outs ∧ (challenge a0 a1 a2 s).2.proc = s.proc ∧
    (challenge a0 a1 a2 s).2.col = s.col ∧ (challenge a0 a1 a2 s).2.breach = s.breach ∧
    (challenge a0 a1 a2 s).2.test = s.test ∧ (challenge a0 a1 a2 s).2.net = s.net ∧
    (challenge a0 a1 a2 s).2.led = s.led ∧ (challenge a0 a1 a2 s).2.time = s.time := by
  simp only [challenge]
  (repeat' split) <;> simp

@[simp] theorem challengeWrite_keeps (a0) (a1) (s : State) :
    (challengeWrite a0 a1 s).2.pending = s.pending ∧ (challengeWrite a0 a1 s).2.ctl = s.ctl ∧
    (challengeWrite a0 a1 s).2.power = s.power ∧ (challengeWrite a0 a1 s).2.fuses = s.fuses ∧
    (challengeWrite a0 a1 s).2.cfg = s.cfg ∧ (challengeWrite a0 a1 s).2.field = s.field ∧
    (challengeWrite a0 a1 s).2.pairs = s.pairs ∧ (challengeWrite a0 a1 s).2.array = s.array ∧
    (challengeWrite a0 a1 s).2.outs = s.outs ∧ (challengeWrite a0 a1 s).2.proc = s.proc ∧
    (challengeWrite a0 a1 s).2.col = s.col ∧ (challengeWrite a0 a1 s).2.breach = s.breach ∧
    (challengeWrite a0 a1 s).2.test = s.test ∧ (challengeWrite a0 a1 s).2.net = s.net ∧
    (challengeWrite a0 a1 s).2.led = s.led ∧ (challengeWrite a0 a1 s).2.time = s.time := by
  simp only [challengeWrite]
  (repeat' split) <;> simp

@[simp] theorem wrongAnswer_keeps (a0) (s : State) :
    (wrongAnswer a0 s).pending = s.pending ∧ (wrongAnswer a0 s).ctl = s.ctl ∧ (wrongAnswer a0 s).power = s.power ∧
    (wrongAnswer a0 s).fuses = s.fuses ∧ (wrongAnswer a0 s).cfg = s.cfg ∧ (wrongAnswer a0 s).field = s.field ∧
    (wrongAnswer a0 s).pairs = s.pairs ∧ (wrongAnswer a0 s).array = s.array ∧ (wrongAnswer a0 s).outs = s.outs ∧
    (wrongAnswer a0 s).proc = s.proc ∧ (wrongAnswer a0 s).test = s.test ∧ (wrongAnswer a0 s).net = s.net ∧
    (wrongAnswer a0 s).time = s.time ∧ (wrongAnswer a0 s).draws = s.draws := by
  simp [wrongAnswer]

@[simp] theorem answer_keeps (a0) (a1) (s : State) :
    (answer a0 a1 s).2.pending = s.pending ∧ (answer a0 a1 s).2.ctl = s.ctl ∧ (answer a0 a1 s).2.power = s.power ∧
    (answer a0 a1 s).2.fuses = s.fuses ∧ (answer a0 a1 s).2.cfg = s.cfg ∧ (answer a0 a1 s).2.field = s.field ∧
    (answer a0 a1 s).2.pairs = s.pairs ∧ (answer a0 a1 s).2.array = s.array ∧ (answer a0 a1 s).2.outs = s.outs ∧
    (answer a0 a1 s).2.proc = s.proc ∧ (answer a0 a1 s).2.test = s.test ∧ (answer a0 a1 s).2.net = s.net ∧
    (answer a0 a1 s).2.time = s.time ∧ (answer a0 a1 s).2.draws = s.draws := by
  simp only [answer]
  (repeat' split) <;> simp

@[simp] theorem dropStaging_keeps (s : State) :
    (dropStaging s).pending = s.pending ∧ (dropStaging s).ctl = s.ctl ∧ (dropStaging s).power = s.power ∧
    (dropStaging s).fuses = s.fuses ∧ (dropStaging s).cfg = s.cfg ∧ (dropStaging s).field = s.field ∧
    (dropStaging s).pairs = s.pairs ∧ (dropStaging s).array = s.array ∧ (dropStaging s).outs = s.outs ∧
    (dropStaging s).proc = s.proc ∧ (dropStaging s).col = s.col ∧ (dropStaging s).breach = s.breach ∧
    (dropStaging s).test = s.test ∧ (dropStaging s).net = s.net ∧ (dropStaging s).led = s.led ∧
    (dropStaging s).time = s.time ∧ (dropStaging s).draws = s.draws := by
  simp [dropStaging]

@[simp] theorem endSession_keeps (a0) (a1) (a2) (s : State) :
    (endSession a0 a1 a2 s).pending = s.pending ∧ (endSession a0 a1 a2 s).power = s.power ∧
    (endSession a0 a1 a2 s).fuses = s.fuses ∧ (endSession a0 a1 a2 s).cfg = s.cfg ∧
    (endSession a0 a1 a2 s).time = s.time := by
  simp only [endSession]
  (repeat' split) <;> simp

@[simp] theorem closeSession_keeps (a0) (s : State) :
    (closeSession a0 s).2.pending = s.pending ∧ (closeSession a0 s).2.power = s.power ∧
    (closeSession a0 s).2.fuses = s.fuses ∧ (closeSession a0 s).2.cfg = s.cfg ∧
    (closeSession a0 s).2.time = s.time := by
  simp [closeSession]

@[simp] theorem confFault_keeps (a0) (a1) (s : State) :
    (confFault a0 a1 s).pending = s.pending ∧ (confFault a0 a1 s).power = s.power ∧
    (confFault a0 a1 s).fuses = s.fuses ∧ (confFault a0 a1 s).cfg = s.cfg ∧ (confFault a0 a1 s).dict = s.dict ∧
    (confFault a0 a1 s).field = s.field ∧ (confFault a0 a1 s).pairs = s.pairs ∧ (confFault a0 a1 s).outs = s.outs ∧
    (confFault a0 a1 s).net = s.net ∧ (confFault a0 a1 s).time = s.time := by
  simp [confFault]

@[simp] theorem setValues_keeps (a0) (s : State) :
    (setValues a0 s).pending = s.pending ∧ (setValues a0 s).ctl = s.ctl ∧ (setValues a0 s).power = s.power ∧
    (setValues a0 s).fuses = s.fuses ∧ (setValues a0 s).field = s.field ∧ (setValues a0 s).pairs = s.pairs ∧
    (setValues a0 s).array = s.array ∧ (setValues a0 s).outs = s.outs ∧ (setValues a0 s).proc = s.proc ∧
    (setValues a0 s).col = s.col ∧ (setValues a0 s).breach = s.breach ∧ (setValues a0 s).test = s.test ∧
    (setValues a0 s).net = s.net ∧ (setValues a0 s).led = s.led ∧ (setValues a0 s).time = s.time ∧
    (setValues a0 s).draws = s.draws := by
  simp [setValues]

@[simp] theorem setImage_keeps (a0) (a1) (a2) (a3) (s : State) :
    (setImage a0 a1 a2 a3 s).pending = s.pending ∧ (setImage a0 a1 a2 a3 s).ctl = s.ctl ∧
    (setImage a0 a1 a2 a3 s).power = s.power ∧ (setImage a0 a1 a2 a3 s).fuses = s.fuses ∧
    (setImage a0 a1 a2 a3 s).field = s.field ∧ (setImage a0 a1 a2 a3 s).pairs = s.pairs ∧
    (setImage a0 a1 a2 a3 s).array = s.array ∧ (setImage a0 a1 a2 a3 s).outs = s.outs ∧
    (setImage a0 a1 a2 a3 s).proc = s.proc ∧ (setImage a0 a1 a2 a3 s).col = s.col ∧
    (setImage a0 a1 a2 a3 s).breach = s.breach ∧ (setImage a0 a1 a2 a3 s).test = s.test ∧
    (setImage a0 a1 a2 a3 s).net = s.net ∧ (setImage a0 a1 a2 a3 s).led = s.led ∧
    (setImage a0 a1 a2 a3 s).time = s.time ∧ (setImage a0 a1 a2 a3 s).draws = s.draws := by
  simp [setImage]

@[simp] theorem setResult_keeps (a0) (a1) (s : State) :
    (setResult a0 a1 s).pending = s.pending ∧ (setResult a0 a1 s).ctl = s.ctl ∧
    (setResult a0 a1 s).power = s.power ∧ (setResult a0 a1 s).fuses = s.fuses ∧ (setResult a0 a1 s).dict = s.dict ∧
    (setResult a0 a1 s).field = s.field ∧ (setResult a0 a1 s).pairs = s.pairs ∧
    (setResult a0 a1 s).array = s.array ∧ (setResult a0 a1 s).outs = s.outs ∧ (setResult a0 a1 s).proc = s.proc ∧
    (setResult a0 a1 s).col = s.col ∧ (setResult a0 a1 s).breach = s.breach ∧ (setResult a0 a1 s).test = s.test ∧
    (setResult a0 a1 s).net = s.net ∧ (setResult a0 a1 s).led = s.led ∧ (setResult a0 a1 s).time = s.time ∧
    (setResult a0 a1 s).draws = s.draws := by
  simp [setResult]

@[simp] theorem dropOverlay_keeps (s : State) :
    (dropOverlay s).pending = s.pending ∧ (dropOverlay s).ctl = s.ctl ∧ (dropOverlay s).power = s.power ∧
    (dropOverlay s).fuses = s.fuses ∧ (dropOverlay s).dict = s.dict ∧ (dropOverlay s).field = s.field ∧
    (dropOverlay s).pairs = s.pairs ∧ (dropOverlay s).array = s.array ∧ (dropOverlay s).outs = s.outs ∧
    (dropOverlay s).proc = s.proc ∧ (dropOverlay s).test = s.test ∧ (dropOverlay s).net = s.net ∧
    (dropOverlay s).time = s.time ∧ (dropOverlay s).draws = s.draws := by
  simp [dropOverlay]

@[simp] theorem applyOverlay_keeps (s : State) :
    (applyOverlay s).pending = s.pending ∧ (applyOverlay s).power = s.power ∧ (applyOverlay s).fuses = s.fuses ∧
    (applyOverlay s).field = s.field ∧ (applyOverlay s).pairs = s.pairs ∧ (applyOverlay s).outs = s.outs ∧
    (applyOverlay s).net = s.net ∧ (applyOverlay s).time = s.time := by
  simp only [applyOverlay]
  (repeat' split) <;> simp

@[simp] theorem slotFail_keeps (a0) (a1) (s : State) :
    (slotFail a0 a1 s).pending = s.pending ∧ (slotFail a0 a1 s).power = s.power ∧
    (slotFail a0 a1 s).fuses = s.fuses ∧ (slotFail a0 a1 s).dict = s.dict ∧ (slotFail a0 a1 s).field = s.field ∧
    (slotFail a0 a1 s).pairs = s.pairs ∧ (slotFail a0 a1 s).outs = s.outs ∧ (slotFail a0 a1 s).net = s.net ∧
    (slotFail a0 a1 s).time = s.time := by
  simp [slotFail]

@[simp] theorem noImage_pending (read) (s : State) (h : ∀ t, (read t).pending = t.pending) :
    (noImage read s).pending = s.pending := by
  simp [noImage, h]

@[simp] theorem noImage_power (read) (s : State) (h : ∀ t, (read t).power = t.power) :
    (noImage read s).power = s.power := by
  simp [noImage, h]

@[simp] theorem noImage_fuses (read) (s : State) (h : ∀ t, (read t).fuses = t.fuses) :
    (noImage read s).fuses = s.fuses := by
  simp [noImage, h]

@[simp] theorem noImage_cfg (read) (s : State) (h : ∀ t, (read t).cfg = t.cfg) :
    (noImage read s).cfg = s.cfg := by
  simp [noImage, h]

@[simp] theorem noImage_dict (read) (s : State) (h : ∀ t, (read t).dict = t.dict) :
    (noImage read s).dict = s.dict := by
  simp [noImage, h]

@[simp] theorem noImage_time (read) (s : State) (h : ∀ t, (read t).time = t.time) :
    (noImage read s).time = s.time := by
  simp [noImage, h]

@[simp] theorem tryNext_pending (read n) (s : State) (h : ∀ t, (read t).pending = t.pending) :
    (tryNext read n s).pending = s.pending := by
  induction n generalizing s with
  | zero => simp [tryNext, h]
  | succ n ih => (simp only [tryNext]; (repeat' split) <;> simp [ih, h])

@[simp] theorem tryNext_power (read n) (s : State) (h : ∀ t, (read t).power = t.power) :
    (tryNext read n s).power = s.power := by
  induction n generalizing s with
  | zero => simp [tryNext, h]
  | succ n ih => (simp only [tryNext]; (repeat' split) <;> simp [ih, h])

@[simp] theorem tryNext_fuses (read n) (s : State) (h : ∀ t, (read t).fuses = t.fuses) :
    (tryNext read n s).fuses = s.fuses := by
  induction n generalizing s with
  | zero => simp [tryNext, h]
  | succ n ih => (simp only [tryNext]; (repeat' split) <;> simp [ih, h])

@[simp] theorem tryNext_dict (read n) (s : State) (h : ∀ t, (read t).dict = t.dict) :
    (tryNext read n s).dict = s.dict := by
  induction n generalizing s with
  | zero => simp [tryNext, h]
  | succ n ih => (simp only [tryNext]; (repeat' split) <;> simp [ih, h])

@[simp] theorem tryNext_time (read n) (s : State) (h : ∀ t, (read t).time = t.time) :
    (tryNext read n s).time = s.time := by
  induction n generalizing s with
  | zero => simp [tryNext, h]
  | succ n ih => (simp only [tryNext]; (repeat' split) <;> simp [ih, h])

@[simp] theorem loadFailRead_pending (read b) (s : State) (h : ∀ t, (read t).pending = t.pending) :
    (loadFailRead read b s).pending = s.pending := by
  simp [loadFailRead, h]

@[simp] theorem loadFailRead_power (read b) (s : State) (h : ∀ t, (read t).power = t.power) :
    (loadFailRead read b s).power = s.power := by
  simp [loadFailRead, h]

@[simp] theorem loadFailRead_fuses (read b) (s : State) (h : ∀ t, (read t).fuses = t.fuses) :
    (loadFailRead read b s).fuses = s.fuses := by
  simp [loadFailRead, h]

@[simp] theorem loadFailRead_dict (read b) (s : State) (h : ∀ t, (read t).dict = t.dict) :
    (loadFailRead read b s).dict = s.dict := by
  simp [loadFailRead, h]

@[simp] theorem loadFailRead_time (read b) (s : State) (h : ∀ t, (read t).time = t.time) :
    (loadFailRead read b s).time = s.time := by
  simp [loadFailRead, h]

@[simp] theorem loadFail_keeps (a0) (s : State) :
    (loadFail a0 s).pending = s.pending ∧ (loadFail a0 s).power = s.power ∧ (loadFail a0 s).fuses = s.fuses ∧
    (loadFail a0 s).dict = s.dict ∧ (loadFail a0 s).time = s.time := by
  simp [loadFail]

@[simp] theorem loadStart_keeps (s : State) :
    (loadStart s).pending = s.pending ∧ (loadStart s).power = s.power ∧ (loadStart s).fuses = s.fuses ∧
    (loadStart s).dict = s.dict ∧ (loadStart s).time = s.time := by
  simp [loadStart]

@[simp] theorem programWord_keeps (a0) (a1) (s : State) :
    (programWord a0 a1 s).pending = s.pending ∧ (programWord a0 a1 s).ctl = s.ctl ∧
    (programWord a0 a1 s).power = s.power ∧ (programWord a0 a1 s).cfg = s.cfg ∧
    (programWord a0 a1 s).dict = s.dict ∧ (programWord a0 a1 s).field = s.field ∧
    (programWord a0 a1 s).pairs = s.pairs ∧ (programWord a0 a1 s).array = s.array ∧
    (programWord a0 a1 s).outs = s.outs ∧ (programWord a0 a1 s).proc = s.proc ∧ (programWord a0 a1 s).col = s.col ∧
    (programWord a0 a1 s).breach = s.breach ∧ (programWord a0 a1 s).test = s.test ∧
    (programWord a0 a1 s).net = s.net ∧ (programWord a0 a1 s).led = s.led ∧ (programWord a0 a1 s).time = s.time ∧
    (programWord a0 a1 s).draws = s.draws := by
  simp [programWord]

@[simp] theorem applyReq_keeps (a0) (s : State) :
    (applyReq a0 s).pending = s.pending ∧ (applyReq a0 s).ctl = s.ctl ∧ (applyReq a0 s).power = s.power ∧
    (applyReq a0 s).cfg = s.cfg ∧ (applyReq a0 s).dict = s.dict ∧ (applyReq a0 s).field = s.field ∧
    (applyReq a0 s).pairs = s.pairs ∧ (applyReq a0 s).array = s.array ∧ (applyReq a0 s).outs = s.outs ∧
    (applyReq a0 s).proc = s.proc ∧ (applyReq a0 s).col = s.col ∧ (applyReq a0 s).breach = s.breach ∧
    (applyReq a0 s).test = s.test ∧ (applyReq a0 s).net = s.net ∧ (applyReq a0 s).led = s.led ∧
    (applyReq a0 s).time = s.time ∧ (applyReq a0 s).draws = s.draws := by
  simp [applyReq]

@[simp] theorem stageImage_keeps (a0) (a1) (s : State) :
    (stageImage a0 a1 s).2.pending = s.pending ∧ (stageImage a0 a1 s).2.ctl = s.ctl ∧
    (stageImage a0 a1 s).2.power = s.power ∧ (stageImage a0 a1 s).2.fuses = s.fuses ∧
    (stageImage a0 a1 s).2.cfg = s.cfg ∧ (stageImage a0 a1 s).2.field = s.field ∧
    (stageImage a0 a1 s).2.pairs = s.pairs ∧ (stageImage a0 a1 s).2.array = s.array ∧
    (stageImage a0 a1 s).2.outs = s.outs ∧ (stageImage a0 a1 s).2.proc = s.proc ∧
    (stageImage a0 a1 s).2.col = s.col ∧ (stageImage a0 a1 s).2.breach = s.breach ∧
    (stageImage a0 a1 s).2.test = s.test ∧ (stageImage a0 a1 s).2.net = s.net ∧
    (stageImage a0 a1 s).2.led = s.led ∧ (stageImage a0 a1 s).2.time = s.time ∧
    (stageImage a0 a1 s).2.draws = s.draws := by
  simp [stageImage]

@[simp] theorem stageParam_keeps (a0) (a1) (a2) (a3) (s : State) :
    (stageParam a0 a1 a2 a3 s).2.pending = s.pending ∧ (stageParam a0 a1 a2 a3 s).2.ctl = s.ctl ∧
    (stageParam a0 a1 a2 a3 s).2.power = s.power ∧ (stageParam a0 a1 a2 a3 s).2.fuses = s.fuses ∧
    (stageParam a0 a1 a2 a3 s).2.cfg = s.cfg ∧ (stageParam a0 a1 a2 a3 s).2.field = s.field ∧
    (stageParam a0 a1 a2 a3 s).2.pairs = s.pairs ∧ (stageParam a0 a1 a2 a3 s).2.array = s.array ∧
    (stageParam a0 a1 a2 a3 s).2.outs = s.outs ∧ (stageParam a0 a1 a2 a3 s).2.proc = s.proc ∧
    (stageParam a0 a1 a2 a3 s).2.col = s.col ∧ (stageParam a0 a1 a2 a3 s).2.breach = s.breach ∧
    (stageParam a0 a1 a2 a3 s).2.test = s.test ∧ (stageParam a0 a1 a2 a3 s).2.net = s.net ∧
    (stageParam a0 a1 a2 a3 s).2.led = s.led ∧ (stageParam a0 a1 a2 a3 s).2.time = s.time ∧
    (stageParam a0 a1 a2 a3 s).2.draws = s.draws := by
  simp [stageParam]

@[simp] theorem commitNote_keeps (a0) (a1) (a2) (s : State) :
    (commitNote a0 a1 a2 s).pending = s.pending ∧ (commitNote a0 a1 a2 s).ctl = s.ctl ∧
    (commitNote a0 a1 a2 s).power = s.power ∧ (commitNote a0 a1 a2 s).fuses = s.fuses ∧
    (commitNote a0 a1 a2 s).cfg = s.cfg ∧ (commitNote a0 a1 a2 s).dict = s.dict ∧
    (commitNote a0 a1 a2 s).field = s.field ∧ (commitNote a0 a1 a2 s).pairs = s.pairs ∧
    (commitNote a0 a1 a2 s).array = s.array ∧ (commitNote a0 a1 a2 s).outs = s.outs ∧
    (commitNote a0 a1 a2 s).proc = s.proc ∧ (commitNote a0 a1 a2 s).test = s.test ∧
    (commitNote a0 a1 a2 s).net = s.net ∧ (commitNote a0 a1 a2 s).time = s.time ∧
    (commitNote a0 a1 a2 s).draws = s.draws := by
  simp [commitNote]

@[simp] theorem commitEnd_keeps (a0) (a1) (a2) (s : State) :
    (commitEnd a0 a1 a2 s).pending = s.pending ∧ (commitEnd a0 a1 a2 s).power = s.power ∧
    (commitEnd a0 a1 a2 s).fuses = s.fuses ∧ (commitEnd a0 a1 a2 s).cfg = s.cfg ∧
    (commitEnd a0 a1 a2 s).time = s.time := by
  simp [commitEnd]

@[simp] theorem failedResult_keeps (a0) (s : State) :
    (failedResult a0 s).pending = s.pending ∧ (failedResult a0 s).ctl = s.ctl ∧
    (failedResult a0 s).power = s.power ∧ (failedResult a0 s).fuses = s.fuses ∧ (failedResult a0 s).dict = s.dict ∧
    (failedResult a0 s).field = s.field ∧ (failedResult a0 s).pairs = s.pairs ∧
    (failedResult a0 s).array = s.array ∧ (failedResult a0 s).outs = s.outs ∧ (failedResult a0 s).proc = s.proc ∧
    (failedResult a0 s).col = s.col ∧ (failedResult a0 s).breach = s.breach ∧ (failedResult a0 s).test = s.test ∧
    (failedResult a0 s).net = s.net ∧ (failedResult a0 s).led = s.led ∧ (failedResult a0 s).time = s.time ∧
    (failedResult a0 s).draws = s.draws := by
  simp [failedResult]

@[simp] theorem commitFailRead_pending (read c b) (s : State) (h : ∀ t, (read t).pending = t.pending) :
    (commitFailRead read c b s).pending = s.pending := by
  simp [commitFailRead, h]

@[simp] theorem commitFailRead_power (read c b) (s : State) (h : ∀ t, (read t).power = t.power) :
    (commitFailRead read c b s).power = s.power := by
  simp [commitFailRead, h]

@[simp] theorem commitFailRead_fuses (read c b) (s : State) (h : ∀ t, (read t).fuses = t.fuses) :
    (commitFailRead read c b s).fuses = s.fuses := by
  simp [commitFailRead, h]

@[simp] theorem commitFailRead_time (read c b) (s : State) (h : ∀ t, (read t).time = t.time) :
    (commitFailRead read c b s).time = s.time := by
  simp [commitFailRead, h]

@[simp] theorem commitFail_keeps (a0) (a1) (s : State) :
    (commitFail a0 a1 s).pending = s.pending ∧ (commitFail a0 a1 s).power = s.power ∧
    (commitFail a0 a1 s).fuses = s.fuses ∧ (commitFail a0 a1 s).time = s.time := by
  simp [commitFail]

@[simp] theorem memoriesOk_keeps (s : State) :
    (memoriesOk s).pending = s.pending ∧ (memoriesOk s).ctl = s.ctl ∧ (memoriesOk s).power = s.power ∧
    (memoriesOk s).fuses = s.fuses ∧ (memoriesOk s).cfg = s.cfg ∧ (memoriesOk s).dict = s.dict ∧
    (memoriesOk s).field = s.field ∧ (memoriesOk s).pairs = s.pairs ∧ (memoriesOk s).array = s.array ∧
    (memoriesOk s).outs = s.outs ∧ (memoriesOk s).test = s.test ∧ (memoriesOk s).net = s.net ∧
    (memoriesOk s).time = s.time ∧ (memoriesOk s).draws = s.draws := by
  simp [memoriesOk]

@[simp] theorem fuseOnce_keeps (a0) (s : State) :
    (fuseOnce a0 s).pending = s.pending ∧ (fuseOnce a0 s).power = s.power ∧ (fuseOnce a0 s).fuses = s.fuses ∧
    (fuseOnce a0 s).cfg = s.cfg ∧ (fuseOnce a0 s).dict = s.dict ∧ (fuseOnce a0 s).field = s.field ∧
    (fuseOnce a0 s).pairs = s.pairs ∧ (fuseOnce a0 s).outs = s.outs ∧ (fuseOnce a0 s).net = s.net ∧
    (fuseOnce a0 s).time = s.time := by
  simp [fuseOnce]

@[simp] theorem beginCommit_keeps (a0) (a1) (s : State) :
    (beginCommit a0 a1 s).pending = s.pending ∧ (beginCommit a0 a1 s).power = s.power ∧
    (beginCommit a0 a1 s).fuses = s.fuses ∧ (beginCommit a0 a1 s).time = s.time := by
  simp only [beginCommit]
  (repeat' split) <;> simp

@[simp] theorem fuseLasting_keeps (a0) (s : State) :
    (fuseLasting a0 s).pending = s.pending ∧ (fuseLasting a0 s).power = s.power ∧
    (fuseLasting a0 s).fuses = s.fuses ∧ (fuseLasting a0 s).cfg = s.cfg ∧ (fuseLasting a0 s).dict = s.dict ∧
    (fuseLasting a0 s).field = s.field ∧ (fuseLasting a0 s).pairs = s.pairs ∧ (fuseLasting a0 s).outs = s.outs ∧
    (fuseLasting a0 s).net = s.net ∧ (fuseLasting a0 s).time = s.time := by
  simp [fuseLasting]

@[simp] theorem keysOpen_keeps (s : State) :
    (keysOpen s).pending = s.pending ∧ (keysOpen s).power = s.power ∧ (keysOpen s).fuses = s.fuses ∧
    (keysOpen s).cfg = s.cfg ∧ (keysOpen s).dict = s.dict ∧ (keysOpen s).field = s.field ∧
    (keysOpen s).pairs = s.pairs ∧ (keysOpen s).outs = s.outs ∧ (keysOpen s).net = s.net ∧
    (keysOpen s).time = s.time := by
  simp [keysOpen]

@[simp] theorem fuseSettle_keeps (s : State) :
    (fuseSettle s).pending = s.pending ∧ (fuseSettle s).power = s.power ∧ (fuseSettle s).cfg = s.cfg ∧
    (fuseSettle s).dict = s.dict ∧ (fuseSettle s).field = s.field ∧ (fuseSettle s).pairs = s.pairs ∧
    (fuseSettle s).outs = s.outs ∧ (fuseSettle s).net = s.net ∧ (fuseSettle s).time = s.time := by
  simp [fuseSettle]

@[simp] theorem spoilReq_keeps (a0) (s : State) :
    (spoilReq a0 s).pending = s.pending ∧ (spoilReq a0 s).ctl = s.ctl ∧ (spoilReq a0 s).power = s.power ∧
    (spoilReq a0 s).cfg = s.cfg ∧ (spoilReq a0 s).dict = s.dict ∧ (spoilReq a0 s).field = s.field ∧
    (spoilReq a0 s).pairs = s.pairs ∧ (spoilReq a0 s).array = s.array ∧ (spoilReq a0 s).outs = s.outs ∧
    (spoilReq a0 s).proc = s.proc ∧ (spoilReq a0 s).col = s.col ∧ (spoilReq a0 s).breach = s.breach ∧
    (spoilReq a0 s).test = s.test ∧ (spoilReq a0 s).net = s.net ∧ (spoilReq a0 s).led = s.led ∧
    (spoilReq a0 s).time = s.time := by
  simp [spoilReq]

@[simp] theorem stepSupplies_keeps (a0) (s : State) :
    (stepSupplies a0 s).pending = s.pending ∧ (stepSupplies a0 s).ctl = s.ctl ∧
    (stepSupplies a0 s).fuses = s.fuses ∧ (stepSupplies a0 s).cfg = s.cfg ∧ (stepSupplies a0 s).dict = s.dict ∧
    (stepSupplies a0 s).field = s.field ∧ (stepSupplies a0 s).pairs = s.pairs ∧
    (stepSupplies a0 s).array = s.array ∧ (stepSupplies a0 s).outs = s.outs ∧ (stepSupplies a0 s).proc = s.proc ∧
    (stepSupplies a0 s).col = s.col ∧ (stepSupplies a0 s).breach = s.breach ∧ (stepSupplies a0 s).test = s.test ∧
    (stepSupplies a0 s).net = s.net ∧ (stepSupplies a0 s).led = s.led ∧ (stepSupplies a0 s).time = s.time ∧
    (stepSupplies a0 s).draws = s.draws := by
  simp [stepSupplies]

@[simp] theorem blowAll_pending (l v) (s : State) : (blowAll l v s).2.pending = s.pending := by induction l generalizing v s with | nil => rfl | cons q l ih => (simp only [blowAll]; split <;> simp [ih])

@[simp] theorem blowAll_ctl (l v) (s : State) : (blowAll l v s).2.ctl = s.ctl := by induction l generalizing v s with | nil => rfl | cons q l ih => (simp only [blowAll]; split <;> simp [ih])

@[simp] theorem blowAll_cfg (l v) (s : State) : (blowAll l v s).2.cfg = s.cfg := by induction l generalizing v s with | nil => rfl | cons q l ih => (simp only [blowAll]; split <;> simp [ih])

@[simp] theorem blowAll_field (l v) (s : State) : (blowAll l v s).2.field = s.field := by induction l generalizing v s with | nil => rfl | cons q l ih => (simp only [blowAll]; split <;> simp [ih])

@[simp] theorem blowAll_pairs (l v) (s : State) : (blowAll l v s).2.pairs = s.pairs := by induction l generalizing v s with | nil => rfl | cons q l ih => (simp only [blowAll]; split <;> simp [ih])

@[simp] theorem blowAll_array (l v) (s : State) : (blowAll l v s).2.array = s.array := by induction l generalizing v s with | nil => rfl | cons q l ih => (simp only [blowAll]; split <;> simp [ih])

@[simp] theorem blowAll_outs (l v) (s : State) : (blowAll l v s).2.outs = s.outs := by induction l generalizing v s with | nil => rfl | cons q l ih => (simp only [blowAll]; split <;> simp [ih])

@[simp] theorem blowAll_proc (l v) (s : State) : (blowAll l v s).2.proc = s.proc := by induction l generalizing v s with | nil => rfl | cons q l ih => (simp only [blowAll]; split <;> simp [ih])

@[simp] theorem blowAll_col (l v) (s : State) : (blowAll l v s).2.col = s.col := by induction l generalizing v s with | nil => rfl | cons q l ih => (simp only [blowAll]; split <;> simp [ih])

@[simp] theorem blowAll_breach (l v) (s : State) : (blowAll l v s).2.breach = s.breach := by induction l generalizing v s with | nil => rfl | cons q l ih => (simp only [blowAll]; split <;> simp [ih])

@[simp] theorem blowAll_test (l v) (s : State) : (blowAll l v s).2.test = s.test := by induction l generalizing v s with | nil => rfl | cons q l ih => (simp only [blowAll]; split <;> simp [ih])

@[simp] theorem blowAll_net (l v) (s : State) : (blowAll l v s).2.net = s.net := by induction l generalizing v s with | nil => rfl | cons q l ih => (simp only [blowAll]; split <;> simp [ih])

@[simp] theorem blowAll_led (l v) (s : State) : (blowAll l v s).2.led = s.led := by induction l generalizing v s with | nil => rfl | cons q l ih => (simp only [blowAll]; split <;> simp [ih])

@[simp] theorem blowAll_time (l v) (s : State) : (blowAll l v s).2.time = s.time := by induction l generalizing v s with | nil => rfl | cons q l ih => (simp only [blowAll]; split <;> simp [ih])

@[simp] theorem commitFuses_keeps (a0) (a1) (s : State) :
    (commitFuses a0 a1 s).pending = s.pending ∧ (commitFuses a0 a1 s).time = s.time := by
  simp only [commitFuses]
  (repeat' split) <;> simp

@[simp] theorem beginParam_keeps (a0) (s : State) :
    (beginParam a0 s).pending = s.pending ∧ (beginParam a0 s).power = s.power ∧ (beginParam a0 s).fuses = s.fuses ∧
    (beginParam a0 s).time = s.time := by
  simp only [beginParam]
  (repeat' split) <;> simp

@[simp] theorem commitWrite_keeps (a0) (a1) (a2) (s : State) :
    (commitWrite a0 a1 a2 s).2.pending = s.pending ∧ (commitWrite a0 a1 a2 s).2.power = s.power ∧
    (commitWrite a0 a1 a2 s).2.fuses = s.fuses ∧ (commitWrite a0 a1 a2 s).2.time = s.time := by
  simp [commitWrite]

@[simp] theorem perfWrite_keeps (a0) (a1) (a2) (a3) (s : State) :
    (perfWrite a0 a1 a2 a3 s).pending = s.pending ∧ (perfWrite a0 a1 a2 a3 s).ctl = s.ctl ∧
    (perfWrite a0 a1 a2 a3 s).power = s.power ∧ (perfWrite a0 a1 a2 a3 s).fuses = s.fuses ∧
    (perfWrite a0 a1 a2 a3 s).cfg = s.cfg ∧ (perfWrite a0 a1 a2 a3 s).dict = s.dict ∧
    (perfWrite a0 a1 a2 a3 s).field = s.field ∧ (perfWrite a0 a1 a2 a3 s).pairs = s.pairs ∧
    (perfWrite a0 a1 a2 a3 s).array = s.array ∧ (perfWrite a0 a1 a2 a3 s).outs = s.outs ∧
    (perfWrite a0 a1 a2 a3 s).col = s.col ∧ (perfWrite a0 a1 a2 a3 s).breach = s.breach ∧
    (perfWrite a0 a1 a2 a3 s).test = s.test ∧ (perfWrite a0 a1 a2 a3 s).net = s.net ∧
    (perfWrite a0 a1 a2 a3 s).led = s.led ∧ (perfWrite a0 a1 a2 a3 s).time = s.time ∧
    (perfWrite a0 a1 a2 a3 s).draws = s.draws := by
  simp [perfWrite]

@[simp] theorem sampleCtlWrite_keeps (a0) (a1) (a2) (s : State) :
    (sampleCtlWrite a0 a1 a2 s).pending = s.pending ∧ (sampleCtlWrite a0 a1 a2 s).ctl = s.ctl ∧
    (sampleCtlWrite a0 a1 a2 s).power = s.power ∧ (sampleCtlWrite a0 a1 a2 s).fuses = s.fuses ∧
    (sampleCtlWrite a0 a1 a2 s).cfg = s.cfg ∧ (sampleCtlWrite a0 a1 a2 s).dict = s.dict ∧
    (sampleCtlWrite a0 a1 a2 s).field = s.field ∧ (sampleCtlWrite a0 a1 a2 s).pairs = s.pairs ∧
    (sampleCtlWrite a0 a1 a2 s).array = s.array ∧ (sampleCtlWrite a0 a1 a2 s).outs = s.outs ∧
    (sampleCtlWrite a0 a1 a2 s).col = s.col ∧ (sampleCtlWrite a0 a1 a2 s).breach = s.breach ∧
    (sampleCtlWrite a0 a1 a2 s).test = s.test ∧ (sampleCtlWrite a0 a1 a2 s).net = s.net ∧
    (sampleCtlWrite a0 a1 a2 s).led = s.led ∧ (sampleCtlWrite a0 a1 a2 s).time = s.time := by
  simp [sampleCtlWrite]

@[simp] theorem coldState_keeps (s : State) :
    (coldState s).pending = s.pending ∧ (coldState s).draws = s.draws := by
  simp [coldState]

@[simp] theorem warmState_keeps (s : State) :
    (warmState s).pending = s.pending ∧ (warmState s).draws = s.draws := by
  simp [warmState]

@[simp] theorem cutMech_pending (s : State) : (cutMech s).pending = s.pending := by
  unfold cutMech; apply fold_pending; intro a f; apply fold_pending; intro b el; (repeat' split) <;> simp

@[simp] theorem cutMech_ctl (s : State) : (cutMech s).ctl = s.ctl := by
  unfold cutMech; apply fold_ctl; intro a f; apply fold_ctl; intro b el; (repeat' split) <;> simp

@[simp] theorem cutMech_power (s : State) : (cutMech s).power = s.power := by
  unfold cutMech; apply fold_power; intro a f; apply fold_power; intro b el; (repeat' split) <;> simp

@[simp] theorem cutMech_fuses (s : State) : (cutMech s).fuses = s.fuses := by
  unfold cutMech; apply fold_fuses; intro a f; apply fold_fuses; intro b el; (repeat' split) <;> simp

@[simp] theorem cutMech_cfg (s : State) : (cutMech s).cfg = s.cfg := by
  unfold cutMech; apply fold_cfg; intro a f; apply fold_cfg; intro b el; (repeat' split) <;> simp

@[simp] theorem cutMech_dict (s : State) : (cutMech s).dict = s.dict := by
  unfold cutMech; apply fold_dict; intro a f; apply fold_dict; intro b el; (repeat' split) <;> simp

@[simp] theorem cutMech_field (s : State) : (cutMech s).field = s.field := by
  unfold cutMech; apply fold_field; intro a f; apply fold_field; intro b el; (repeat' split) <;> simp

@[simp] theorem cutMech_pairs (s : State) : (cutMech s).pairs = s.pairs := by
  unfold cutMech; apply fold_pairs; intro a f; apply fold_pairs; intro b el; (repeat' split) <;> simp

@[simp] theorem cutMech_array (s : State) : (cutMech s).array = s.array := by
  unfold cutMech; apply fold_array; intro a f; apply fold_array; intro b el; (repeat' split) <;> simp

@[simp] theorem cutMech_proc (s : State) : (cutMech s).proc = s.proc := by
  unfold cutMech; apply fold_proc; intro a f; apply fold_proc; intro b el; (repeat' split) <;> simp

@[simp] theorem cutMech_col (s : State) : (cutMech s).col = s.col := by
  unfold cutMech; apply fold_col; intro a f; apply fold_col; intro b el; (repeat' split) <;> simp

@[simp] theorem cutMech_breach (s : State) : (cutMech s).breach = s.breach := by
  unfold cutMech; apply fold_breach; intro a f; apply fold_breach; intro b el; (repeat' split) <;> simp

@[simp] theorem cutMech_test (s : State) : (cutMech s).test = s.test := by
  unfold cutMech; apply fold_test; intro a f; apply fold_test; intro b el; (repeat' split) <;> simp

@[simp] theorem cutMech_net (s : State) : (cutMech s).net = s.net := by
  unfold cutMech; apply fold_net; intro a f; apply fold_net; intro b el; (repeat' split) <;> simp

@[simp] theorem cutMech_led (s : State) : (cutMech s).led = s.led := by
  unfold cutMech; apply fold_led; intro a f; apply fold_led; intro b el; (repeat' split) <;> simp

@[simp] theorem cutMech_time (s : State) : (cutMech s).time = s.time := by
  unfold cutMech; apply fold_time; intro a f; apply fold_time; intro b el; (repeat' split) <;> simp

@[simp] theorem cutMech_draws (s : State) : (cutMech s).draws = s.draws := by
  unfold cutMech; apply fold_draws; intro a f; apply fold_draws; intro b el; (repeat' split) <;> simp

@[simp] theorem fuseFaults_keeps (s : State) :
    (fuseFaults s).pending = s.pending ∧ (fuseFaults s).power = s.power ∧ (fuseFaults s).fuses = s.fuses ∧
    (fuseFaults s).cfg = s.cfg ∧ (fuseFaults s).dict = s.dict ∧ (fuseFaults s).field = s.field ∧
    (fuseFaults s).pairs = s.pairs ∧ (fuseFaults s).outs = s.outs ∧ (fuseFaults s).net = s.net ∧
    (fuseFaults s).time = s.time := by
  simp [fuseFaults]

@[simp] theorem startPass_keeps (a0) (s : State) :
    (startPass a0 s).pending = s.pending ∧ (startPass a0 s).ctl = s.ctl ∧ (startPass a0 s).power = s.power ∧
    (startPass a0 s).fuses = s.fuses ∧ (startPass a0 s).cfg = s.cfg ∧ (startPass a0 s).dict = s.dict ∧
    (startPass a0 s).field = s.field ∧ (startPass a0 s).pairs = s.pairs ∧ (startPass a0 s).array = s.array ∧
    (startPass a0 s).outs = s.outs ∧ (startPass a0 s).proc = s.proc ∧ (startPass a0 s).col = s.col ∧
    (startPass a0 s).breach = s.breach ∧ (startPass a0 s).net = s.net ∧ (startPass a0 s).led = s.led ∧
    (startPass a0 s).time = s.time ∧ (startPass a0 s).draws = s.draws := by
  simp [startPass]

@[simp] theorem mountLost_keeps (a0) (s : State) :
    (mountLost a0 s).pending = s.pending ∧ (mountLost a0 s).power = s.power ∧ (mountLost a0 s).fuses = s.fuses ∧
    (mountLost a0 s).dict = s.dict ∧ (mountLost a0 s).time = s.time := by
  simp [mountLost]

@[simp] theorem acceptImage_keeps (a0) (a1) (s : State) :
    (acceptImage a0 a1 s).pending = s.pending ∧ (acceptImage a0 a1 s).power = s.power ∧
    (acceptImage a0 a1 s).fuses = s.fuses ∧ (acceptImage a0 a1 s).time = s.time := by
  simp [acceptImage]

@[simp] theorem popEvent_keeps (a0) (a1) (s : State) :
    (popEvent a0 a1 s).pending = s.pending ∧ (popEvent a0 a1 s).ctl = s.ctl ∧ (popEvent a0 a1 s).power = s.power ∧
    (popEvent a0 a1 s).fuses = s.fuses ∧ (popEvent a0 a1 s).cfg = s.cfg ∧ (popEvent a0 a1 s).dict = s.dict ∧
    (popEvent a0 a1 s).pairs = s.pairs ∧ (popEvent a0 a1 s).array = s.array ∧ (popEvent a0 a1 s).outs = s.outs ∧
    (popEvent a0 a1 s).proc = s.proc ∧ (popEvent a0 a1 s).col = s.col ∧ (popEvent a0 a1 s).breach = s.breach ∧
    (popEvent a0 a1 s).net = s.net ∧ (popEvent a0 a1 s).led = s.led ∧ (popEvent a0 a1 s).time = s.time ∧
    (popEvent a0 a1 s).draws = s.draws := by
  simp [popEvent]

@[simp] theorem readEffect_keeps (a0) (a1) (a2) (a3) (s : State) :
    (readEffect a0 a1 a2 a3 s).pending = s.pending ∧ (readEffect a0 a1 a2 a3 s).ctl = s.ctl ∧
    (readEffect a0 a1 a2 a3 s).power = s.power ∧ (readEffect a0 a1 a2 a3 s).fuses = s.fuses ∧
    (readEffect a0 a1 a2 a3 s).cfg = s.cfg ∧ (readEffect a0 a1 a2 a3 s).dict = s.dict ∧
    (readEffect a0 a1 a2 a3 s).pairs = s.pairs ∧ (readEffect a0 a1 a2 a3 s).array = s.array ∧
    (readEffect a0 a1 a2 a3 s).outs = s.outs ∧ (readEffect a0 a1 a2 a3 s).proc = s.proc ∧
    (readEffect a0 a1 a2 a3 s).col = s.col ∧ (readEffect a0 a1 a2 a3 s).breach = s.breach ∧
    (readEffect a0 a1 a2 a3 s).net = s.net ∧ (readEffect a0 a1 a2 a3 s).led = s.led ∧
    (readEffect a0 a1 a2 a3 s).time = s.time := by
  simp [readEffect]

@[simp] theorem readFetch_keeps (a0) (a1) (a2) (s : State) :
    (readFetch a0 a1 a2 s).pending = s.pending ∧ (readFetch a0 a1 a2 s).power = s.power ∧
    (readFetch a0 a1 a2 s).fuses = s.fuses ∧ (readFetch a0 a1 a2 s).cfg = s.cfg ∧
    (readFetch a0 a1 a2 s).field = s.field ∧ (readFetch a0 a1 a2 s).pairs = s.pairs ∧
    (readFetch a0 a1 a2 s).outs = s.outs ∧ (readFetch a0 a1 a2 s).net = s.net ∧
    (readFetch a0 a1 a2 s).time = s.time := by
  simp [readFetch]

@[simp] theorem readView_keeps (a0) (a1) (a2) (a3) (a4) (s : State) :
    (readView a0 a1 a2 a3 a4 s).2.pending = s.pending ∧ (readView a0 a1 a2 a3 a4 s).2.power = s.power ∧
    (readView a0 a1 a2 a3 a4 s).2.fuses = s.fuses ∧ (readView a0 a1 a2 a3 a4 s).2.cfg = s.cfg ∧
    (readView a0 a1 a2 a3 a4 s).2.pairs = s.pairs ∧ (readView a0 a1 a2 a3 a4 s).2.outs = s.outs ∧
    (readView a0 a1 a2 a3 a4 s).2.net = s.net ∧ (readView a0 a1 a2 a3 a4 s).2.time = s.time := by
  simp only [readView]
  (repeat' split) <;> simp

@[simp] theorem readObj_keeps (a0) (a1) (a2) (a3) (s : State) :
    (readObj a0 a1 a2 a3 s).2.pending = s.pending ∧ (readObj a0 a1 a2 a3 s).2.power = s.power ∧
    (readObj a0 a1 a2 a3 s).2.fuses = s.fuses ∧ (readObj a0 a1 a2 a3 s).2.cfg = s.cfg ∧
    (readObj a0 a1 a2 a3 s).2.pairs = s.pairs ∧ (readObj a0 a1 a2 a3 s).2.outs = s.outs ∧
    (readObj a0 a1 a2 a3 s).2.net = s.net ∧ (readObj a0 a1 a2 a3 s).2.time = s.time := by
  simp [readObj]

@[simp] theorem stageWrite_keeps (a0) (a1) (a2) (a3) (a4) (s : State) :
    (stageWrite a0 a1 a2 a3 a4 s).2.pending = s.pending ∧ (stageWrite a0 a1 a2 a3 a4 s).2.ctl = s.ctl ∧
    (stageWrite a0 a1 a2 a3 a4 s).2.power = s.power ∧ (stageWrite a0 a1 a2 a3 a4 s).2.fuses = s.fuses ∧
    (stageWrite a0 a1 a2 a3 a4 s).2.cfg = s.cfg ∧ (stageWrite a0 a1 a2 a3 a4 s).2.field = s.field ∧
    (stageWrite a0 a1 a2 a3 a4 s).2.pairs = s.pairs ∧ (stageWrite a0 a1 a2 a3 a4 s).2.array = s.array ∧
    (stageWrite a0 a1 a2 a3 a4 s).2.outs = s.outs ∧ (stageWrite a0 a1 a2 a3 a4 s).2.proc = s.proc ∧
    (stageWrite a0 a1 a2 a3 a4 s).2.col = s.col ∧ (stageWrite a0 a1 a2 a3 a4 s).2.breach = s.breach ∧
    (stageWrite a0 a1 a2 a3 a4 s).2.test = s.test ∧ (stageWrite a0 a1 a2 a3 a4 s).2.net = s.net ∧
    (stageWrite a0 a1 a2 a3 a4 s).2.led = s.led ∧ (stageWrite a0 a1 a2 a3 a4 s).2.time = s.time ∧
    (stageWrite a0 a1 a2 a3 a4 s).2.draws = s.draws := by
  simp only [stageWrite]
  (repeat' split) <;> simp

@[simp] theorem writeSession_keeps (a0) (a1) (a2) (a3) (a4) (a5) (s : State) :
    (writeSession a0 a1 a2 a3 a4 a5 s).2.pending = s.pending ∧
    (writeSession a0 a1 a2 a3 a4 a5 s).2.power = s.power ∧ (writeSession a0 a1 a2 a3 a4 a5 s).2.fuses = s.fuses ∧
    (writeSession a0 a1 a2 a3 a4 a5 s).2.time = s.time := by
  simp [writeSession]

@[simp] theorem writeFault_keeps (a0) (a1) (a2) (a3) (a4) (s : State) :
    (writeFault a0 a1 a2 a3 a4 s).2.pending = s.pending ∧ (writeFault a0 a1 a2 a3 a4 s).2.ctl = s.ctl ∧
    (writeFault a0 a1 a2 a3 a4 s).2.power = s.power ∧ (writeFault a0 a1 a2 a3 a4 s).2.fuses = s.fuses ∧
    (writeFault a0 a1 a2 a3 a4 s).2.cfg = s.cfg ∧ (writeFault a0 a1 a2 a3 a4 s).2.dict = s.dict ∧
    (writeFault a0 a1 a2 a3 a4 s).2.field = s.field ∧ (writeFault a0 a1 a2 a3 a4 s).2.pairs = s.pairs ∧
    (writeFault a0 a1 a2 a3 a4 s).2.array = s.array ∧ (writeFault a0 a1 a2 a3 a4 s).2.outs = s.outs ∧
    (writeFault a0 a1 a2 a3 a4 s).2.test = s.test ∧ (writeFault a0 a1 a2 a3 a4 s).2.net = s.net ∧
    (writeFault a0 a1 a2 a3 a4 s).2.time = s.time ∧ (writeFault a0 a1 a2 a3 a4 s).2.draws = s.draws := by
  simp [writeFault]

@[simp] theorem writeLedger_keeps (a0) (a1) (a2) (a3) (s : State) :
    (writeLedger a0 a1 a2 a3 s).2.pending = s.pending ∧ (writeLedger a0 a1 a2 a3 s).2.ctl = s.ctl ∧
    (writeLedger a0 a1 a2 a3 s).2.power = s.power ∧ (writeLedger a0 a1 a2 a3 s).2.fuses = s.fuses ∧
    (writeLedger a0 a1 a2 a3 s).2.cfg = s.cfg ∧ (writeLedger a0 a1 a2 a3 s).2.dict = s.dict ∧
    (writeLedger a0 a1 a2 a3 s).2.field = s.field ∧ (writeLedger a0 a1 a2 a3 s).2.pairs = s.pairs ∧
    (writeLedger a0 a1 a2 a3 s).2.array = s.array ∧ (writeLedger a0 a1 a2 a3 s).2.outs = s.outs ∧
    (writeLedger a0 a1 a2 a3 s).2.proc = s.proc ∧ (writeLedger a0 a1 a2 a3 s).2.test = s.test ∧
    (writeLedger a0 a1 a2 a3 s).2.net = s.net ∧ (writeLedger a0 a1 a2 a3 s).2.time = s.time ∧
    (writeLedger a0 a1 a2 a3 s).2.draws = s.draws := by
  simp [writeLedger]

@[simp] theorem writeEffect_keeps (a0) (a1) (a2) (a3) (a4) (a5) (a6) (a7) (a8) (s : State) :
    (writeEffect a0 a1 a2 a3 a4 a5 a6 a7 a8 s).2.pending = s.pending ∧
    (writeEffect a0 a1 a2 a3 a4 a5 a6 a7 a8 s).2.power = s.power ∧
    (writeEffect a0 a1 a2 a3 a4 a5 a6 a7 a8 s).2.fuses = s.fuses := by
  simp [writeEffect]

@[simp] theorem writeObj_keeps (a0) (a1) (a2) (a3) (a4) (a5) (s : State) :
    (writeObj a0 a1 a2 a3 a4 a5 s).2.pending = s.pending ∧ (writeObj a0 a1 a2 a3 a4 a5 s).2.power = s.power ∧
    (writeObj a0 a1 a2 a3 a4 a5 s).2.fuses = s.fuses := by
  simp only [writeObj]
  (repeat' split) <;> simp

@[simp] theorem setSdo_keeps (a0) (a1) (s : State) :
    (setSdo a0 a1 s).pending = s.pending ∧ (setSdo a0 a1 s).ctl = s.ctl ∧ (setSdo a0 a1 s).power = s.power ∧
    (setSdo a0 a1 s).fuses = s.fuses ∧ (setSdo a0 a1 s).cfg = s.cfg ∧ (setSdo a0 a1 s).field = s.field ∧
    (setSdo a0 a1 s).pairs = s.pairs ∧ (setSdo a0 a1 s).array = s.array ∧ (setSdo a0 a1 s).outs = s.outs ∧
    (setSdo a0 a1 s).proc = s.proc ∧ (setSdo a0 a1 s).col = s.col ∧ (setSdo a0 a1 s).breach = s.breach ∧
    (setSdo a0 a1 s).test = s.test ∧ (setSdo a0 a1 s).net = s.net ∧ (setSdo a0 a1 s).led = s.led ∧
    (setSdo a0 a1 s).time = s.time ∧ (setSdo a0 a1 s).draws = s.draws := by
  simp [setSdo]

@[simp] theorem sdoSend_keeps (a0) (a1) (s : State) :
    (sdoSend a0 a1 s).pending = s.pending ∧ (sdoSend a0 a1 s).ctl = s.ctl ∧ (sdoSend a0 a1 s).power = s.power ∧
    (sdoSend a0 a1 s).fuses = s.fuses ∧ (sdoSend a0 a1 s).cfg = s.cfg ∧ (sdoSend a0 a1 s).dict = s.dict ∧
    (sdoSend a0 a1 s).field = s.field ∧ (sdoSend a0 a1 s).pairs = s.pairs ∧ (sdoSend a0 a1 s).array = s.array ∧
    (sdoSend a0 a1 s).outs = s.outs ∧ (sdoSend a0 a1 s).proc = s.proc ∧ (sdoSend a0 a1 s).test = s.test ∧
    (sdoSend a0 a1 s).time = s.time := by
  simp [sdoSend]

@[simp] theorem sdoReply_keeps (a0) (a1) (a2) (a3) (s : State) :
    (sdoReply a0 a1 a2 a3 s).pending = s.pending ∧ (sdoReply a0 a1 a2 a3 s).ctl = s.ctl ∧
    (sdoReply a0 a1 a2 a3 s).power = s.power ∧ (sdoReply a0 a1 a2 a3 s).fuses = s.fuses ∧
    (sdoReply a0 a1 a2 a3 s).cfg = s.cfg ∧ (sdoReply a0 a1 a2 a3 s).field = s.field ∧
    (sdoReply a0 a1 a2 a3 s).pairs = s.pairs ∧ (sdoReply a0 a1 a2 a3 s).array = s.array ∧
    (sdoReply a0 a1 a2 a3 s).outs = s.outs ∧ (sdoReply a0 a1 a2 a3 s).proc = s.proc ∧
    (sdoReply a0 a1 a2 a3 s).test = s.test ∧ (sdoReply a0 a1 a2 a3 s).time = s.time := by
  simp [sdoReply]

@[simp] theorem sdoAbort_keeps (a0) (a1) (a2) (a3) (s : State) :
    (sdoAbort a0 a1 a2 a3 s).pending = s.pending ∧ (sdoAbort a0 a1 a2 a3 s).ctl = s.ctl ∧
    (sdoAbort a0 a1 a2 a3 s).power = s.power ∧ (sdoAbort a0 a1 a2 a3 s).fuses = s.fuses ∧
    (sdoAbort a0 a1 a2 a3 s).cfg = s.cfg ∧ (sdoAbort a0 a1 a2 a3 s).field = s.field ∧
    (sdoAbort a0 a1 a2 a3 s).pairs = s.pairs ∧ (sdoAbort a0 a1 a2 a3 s).array = s.array ∧
    (sdoAbort a0 a1 a2 a3 s).outs = s.outs ∧ (sdoAbort a0 a1 a2 a3 s).proc = s.proc ∧
    (sdoAbort a0 a1 a2 a3 s).test = s.test ∧ (sdoAbort a0 a1 a2 a3 s).time = s.time := by
  simp [sdoAbort]

@[simp] theorem lateCheck_keeps (a0) (a1) (s : State) :
    (lateCheck a0 a1 s).pending = s.pending ∧ (lateCheck a0 a1 s).ctl = s.ctl ∧
    (lateCheck a0 a1 s).power = s.power ∧ (lateCheck a0 a1 s).fuses = s.fuses ∧ (lateCheck a0 a1 s).cfg = s.cfg ∧
    (lateCheck a0 a1 s).dict = s.dict ∧ (lateCheck a0 a1 s).field = s.field ∧ (lateCheck a0 a1 s).pairs = s.pairs ∧
    (lateCheck a0 a1 s).array = s.array ∧ (lateCheck a0 a1 s).outs = s.outs ∧ (lateCheck a0 a1 s).proc = s.proc ∧
    (lateCheck a0 a1 s).test = s.test ∧ (lateCheck a0 a1 s).net = s.net ∧ (lateCheck a0 a1 s).time = s.time ∧
    (lateCheck a0 a1 s).draws = s.draws := by
  simp only [lateCheck]
  (repeat' split) <;> simp

@[simp] theorem countLoad_keeps (s : State) :
    (countLoad s).2.pending = s.pending ∧ (countLoad s).2.ctl = s.ctl ∧ (countLoad s).2.power = s.power ∧
    (countLoad s).2.fuses = s.fuses ∧ (countLoad s).2.cfg = s.cfg ∧ (countLoad s).2.field = s.field ∧
    (countLoad s).2.pairs = s.pairs ∧ (countLoad s).2.array = s.array ∧ (countLoad s).2.outs = s.outs ∧
    (countLoad s).2.proc = s.proc ∧ (countLoad s).2.col = s.col ∧ (countLoad s).2.breach = s.breach ∧
    (countLoad s).2.test = s.test ∧ (countLoad s).2.net = s.net ∧ (countLoad s).2.led = s.led ∧
    (countLoad s).2.time = s.time ∧ (countLoad s).2.draws = s.draws := by
  simp [countLoad]

@[simp] theorem replyGot_keeps (a0) (a1) (s : State) :
    (replyGot a0 a1 s).pending = s.pending ∧ (replyGot a0 a1 s).ctl = s.ctl ∧ (replyGot a0 a1 s).power = s.power ∧
    (replyGot a0 a1 s).fuses = s.fuses ∧ (replyGot a0 a1 s).cfg = s.cfg ∧ (replyGot a0 a1 s).field = s.field ∧
    (replyGot a0 a1 s).pairs = s.pairs ∧ (replyGot a0 a1 s).array = s.array ∧ (replyGot a0 a1 s).outs = s.outs ∧
    (replyGot a0 a1 s).proc = s.proc ∧ (replyGot a0 a1 s).col = s.col ∧ (replyGot a0 a1 s).breach = s.breach ∧
    (replyGot a0 a1 s).test = s.test ∧ (replyGot a0 a1 s).net = s.net ∧ (replyGot a0 a1 s).led = s.led ∧
    (replyGot a0 a1 s).time = s.time ∧ (replyGot a0 a1 s).draws = s.draws := by
  simp [replyGot]

@[simp] theorem writeRun_keeps (a0) (a1) (a2) (a3) (a4) (a5) (a6) (a7) (s : State) :
    (writeRun a0 a1 a2 a3 a4 a5 a6 a7 s).pending = s.pending ∧
    (writeRun a0 a1 a2 a3 a4 a5 a6 a7 s).power = s.power ∧
    (writeRun a0 a1 a2 a3 a4 a5 a6 a7 s).fuses = s.fuses := by
  simp [writeRun]

@[simp] theorem readRun_keeps (a0) (a1) (a2) (a3) (a4) (s : State) :
    (readRun a0 a1 a2 a3 a4 s).pending = s.pending ∧ (readRun a0 a1 a2 a3 a4 s).power = s.power ∧
    (readRun a0 a1 a2 a3 a4 s).fuses = s.fuses ∧ (readRun a0 a1 a2 a3 a4 s).cfg = s.cfg ∧
    (readRun a0 a1 a2 a3 a4 s).pairs = s.pairs ∧ (readRun a0 a1 a2 a3 a4 s).outs = s.outs ∧
    (readRun a0 a1 a2 a3 a4 s).net = s.net ∧ (readRun a0 a1 a2 a3 a4 s).time = s.time := by
  simp [readRun]

@[simp] theorem delivered_keeps (a0) (s : State) :
    (delivered a0 s).pending = s.pending ∧ (delivered a0 s).ctl = s.ctl ∧ (delivered a0 s).power = s.power ∧
    (delivered a0 s).fuses = s.fuses ∧ (delivered a0 s).cfg = s.cfg ∧ (delivered a0 s).dict = s.dict ∧
    (delivered a0 s).field = s.field ∧ (delivered a0 s).pairs = s.pairs ∧ (delivered a0 s).array = s.array ∧
    (delivered a0 s).outs = s.outs ∧ (delivered a0 s).proc = s.proc ∧ (delivered a0 s).test = s.test ∧
    (delivered a0 s).net = s.net ∧ (delivered a0 s).time = s.time ∧ (delivered a0 s).draws = s.draws := by
  simp only [delivered]
  (repeat' split) <;> simp

@[simp] theorem uploadRun_keeps (a0) (a1) (a2) (a3) (a4) (s : State) :
    (uploadRun a0 a1 a2 a3 a4 s).pending = s.pending ∧ (uploadRun a0 a1 a2 a3 a4 s).power = s.power ∧
    (uploadRun a0 a1 a2 a3 a4 s).fuses = s.fuses ∧ (uploadRun a0 a1 a2 a3 a4 s).cfg = s.cfg ∧
    (uploadRun a0 a1 a2 a3 a4 s).pairs = s.pairs ∧ (uploadRun a0 a1 a2 a3 a4 s).outs = s.outs ∧
    (uploadRun a0 a1 a2 a3 a4 s).time = s.time := by
  simp only [uploadRun]
  (repeat' split) <;> simp

@[simp] theorem hold_keeps (a0) (a1) (s : State) :
    (hold a0 a1 s).pending = s.pending ∧ (hold a0 a1 s).ctl = s.ctl ∧ (hold a0 a1 s).power = s.power ∧
    (hold a0 a1 s).fuses = s.fuses ∧ (hold a0 a1 s).cfg = s.cfg ∧ (hold a0 a1 s).field = s.field ∧
    (hold a0 a1 s).pairs = s.pairs ∧ (hold a0 a1 s).array = s.array ∧ (hold a0 a1 s).outs = s.outs ∧
    (hold a0 a1 s).proc = s.proc ∧ (hold a0 a1 s).col = s.col ∧ (hold a0 a1 s).breach = s.breach ∧
    (hold a0 a1 s).test = s.test ∧ (hold a0 a1 s).net = s.net ∧ (hold a0 a1 s).led = s.led ∧
    (hold a0 a1 s).time = s.time ∧ (hold a0 a1 s).draws = s.draws := by
  simp [hold]

@[simp] theorem runHeld_keeps (a0) (s : State) :
    (runHeld a0 s).pending = s.pending ∧ (runHeld a0 s).power = s.power ∧ (runHeld a0 s).fuses = s.fuses := by
  simp only [runHeld]
  (repeat' split) <;> simp

@[simp] theorem settleHeld_pending (n) (s : State) : (settleHeld n s).pending = s.pending := by
  induction n generalizing s with
  | zero => rfl
  | succ n ih => (simp only [settleHeld]; (repeat' split) <;> simp [ih])

@[simp] theorem settleHeld_power (n) (s : State) : (settleHeld n s).power = s.power := by
  induction n generalizing s with
  | zero => rfl
  | succ n ih => (simp only [settleHeld]; (repeat' split) <;> simp [ih])

@[simp] theorem settleHeld_fuses (n) (s : State) : (settleHeld n s).fuses = s.fuses := by
  induction n generalizing s with
  | zero => rfl
  | succ n ih => (simp only [settleHeld]; (repeat' split) <;> simp [ih])

@[simp] theorem settle_keeps (s : State) :
    (settle s).pending = s.pending ∧ (settle s).power = s.power ∧ (settle s).fuses = s.fuses := by
  simp [settle]

@[simp] theorem inTurn_keeps (a0) (a1) (s : State) :
    (inTurn a0 a1 s).pending = s.pending ∧ (inTurn a0 a1 s).power = s.power ∧ (inTurn a0 a1 s).fuses = s.fuses := by
  simp [inTurn]

@[simp] theorem dictWrite_keeps (a0) (a1) (a2) (a3) (a4) (a5) (s : State) :
    (dictWrite a0 a1 a2 a3 a4 a5 s).pending = s.pending ∧ (dictWrite a0 a1 a2 a3 a4 a5 s).power = s.power ∧
    (dictWrite a0 a1 a2 a3 a4 a5 s).fuses = s.fuses := by
  simp [dictWrite]

@[simp] theorem dictRead_keeps (a0) (a1) (a2) (a3) (s : State) :
    (dictRead a0 a1 a2 a3 s).pending = s.pending ∧ (dictRead a0 a1 a2 a3 s).power = s.power ∧
    (dictRead a0 a1 a2 a3 s).fuses = s.fuses := by
  simp [dictRead]

@[simp] theorem freeSide_keeps (s : State) :
    (freeSide s).2.pending = s.pending ∧ (freeSide s).2.ctl = s.ctl ∧ (freeSide s).2.power = s.power ∧
    (freeSide s).2.fuses = s.fuses ∧ (freeSide s).2.cfg = s.cfg ∧ (freeSide s).2.dict = s.dict ∧
    (freeSide s).2.field = s.field ∧ (freeSide s).2.pairs = s.pairs ∧ (freeSide s).2.array = s.array ∧
    (freeSide s).2.outs = s.outs ∧ (freeSide s).2.proc = s.proc ∧ (freeSide s).2.col = s.col ∧
    (freeSide s).2.breach = s.breach ∧ (freeSide s).2.test = s.test ∧ (freeSide s).2.net = s.net ∧
    (freeSide s).2.led = s.led ∧ (freeSide s).2.time = s.time := by
  simp [freeSide]

@[simp] theorem markInjected_keeps (a0) (s : State) :
    (markInjected a0 s).pending = s.pending ∧ (markInjected a0 s).ctl = s.ctl ∧
    (markInjected a0 s).power = s.power ∧ (markInjected a0 s).fuses = s.fuses ∧ (markInjected a0 s).cfg = s.cfg ∧
    (markInjected a0 s).dict = s.dict ∧ (markInjected a0 s).field = s.field ∧ (markInjected a0 s).pairs = s.pairs ∧
    (markInjected a0 s).array = s.array ∧ (markInjected a0 s).outs = s.outs ∧ (markInjected a0 s).proc = s.proc ∧
    (markInjected a0 s).breach = s.breach ∧ (markInjected a0 s).test = s.test ∧ (markInjected a0 s).net = s.net ∧
    (markInjected a0 s).led = s.led ∧ (markInjected a0 s).time = s.time ∧ (markInjected a0 s).draws = s.draws := by
  simp [markInjected]

@[simp] theorem telegramInjected_keeps (a0) (a1) (s : State) :
    (telegramInjected a0 a1 s).pending = s.pending ∧ (telegramInjected a0 a1 s).power = s.power ∧
    (telegramInjected a0 a1 s).fuses = s.fuses ∧ (telegramInjected a0 a1 s).cfg = s.cfg ∧
    (telegramInjected a0 a1 s).dict = s.dict ∧ (telegramInjected a0 a1 s).field = s.field ∧
    (telegramInjected a0 a1 s).pairs = s.pairs ∧ (telegramInjected a0 a1 s).time = s.time := by
  simp only [telegramInjected]
  (repeat' split) <;> simp

@[simp] theorem setPc_keeps (a0) (a1) (a2) (s : State) :
    (setPc a0 a1 a2 s).pending = s.pending ∧ (setPc a0 a1 a2 s).ctl = s.ctl ∧ (setPc a0 a1 a2 s).power = s.power ∧
    (setPc a0 a1 a2 s).fuses = s.fuses ∧ (setPc a0 a1 a2 s).cfg = s.cfg ∧ (setPc a0 a1 a2 s).dict = s.dict ∧
    (setPc a0 a1 a2 s).field = s.field ∧ (setPc a0 a1 a2 s).pairs = s.pairs ∧ (setPc a0 a1 a2 s).array = s.array ∧
    (setPc a0 a1 a2 s).outs = s.outs ∧ (setPc a0 a1 a2 s).col = s.col ∧ (setPc a0 a1 a2 s).breach = s.breach ∧
    (setPc a0 a1 a2 s).test = s.test ∧ (setPc a0 a1 a2 s).net = s.net ∧ (setPc a0 a1 a2 s).led = s.led ∧
    (setPc a0 a1 a2 s).time = s.time ∧ (setPc a0 a1 a2 s).draws = s.draws := by
  simp [setPc]

@[simp] theorem kdpSend_keeps (a0) (a1) (s : State) :
    (kdpSend a0 a1 s).pending = s.pending ∧ (kdpSend a0 a1 s).ctl = s.ctl ∧ (kdpSend a0 a1 s).power = s.power ∧
    (kdpSend a0 a1 s).fuses = s.fuses ∧ (kdpSend a0 a1 s).cfg = s.cfg ∧ (kdpSend a0 a1 s).field = s.field ∧
    (kdpSend a0 a1 s).pairs = s.pairs ∧ (kdpSend a0 a1 s).array = s.array ∧ (kdpSend a0 a1 s).outs = s.outs ∧
    (kdpSend a0 a1 s).proc = s.proc ∧ (kdpSend a0 a1 s).test = s.test ∧ (kdpSend a0 a1 s).time = s.time ∧
    (kdpSend a0 a1 s).draws = s.draws := by
  simp [kdpSend]

@[simp] theorem kdpRespond_keeps (a0) (a1) (a2) (a3) (a4) (s : State) :
    (kdpRespond a0 a1 a2 a3 a4 s).pending = s.pending ∧ (kdpRespond a0 a1 a2 a3 a4 s).ctl = s.ctl ∧
    (kdpRespond a0 a1 a2 a3 a4 s).power = s.power ∧ (kdpRespond a0 a1 a2 a3 a4 s).fuses = s.fuses ∧
    (kdpRespond a0 a1 a2 a3 a4 s).cfg = s.cfg ∧ (kdpRespond a0 a1 a2 a3 a4 s).field = s.field ∧
    (kdpRespond a0 a1 a2 a3 a4 s).pairs = s.pairs ∧ (kdpRespond a0 a1 a2 a3 a4 s).array = s.array ∧
    (kdpRespond a0 a1 a2 a3 a4 s).outs = s.outs ∧ (kdpRespond a0 a1 a2 a3 a4 s).proc = s.proc ∧
    (kdpRespond a0 a1 a2 a3 a4 s).test = s.test ∧ (kdpRespond a0 a1 a2 a3 a4 s).time = s.time ∧
    (kdpRespond a0 a1 a2 a3 a4 s).draws = s.draws := by
  simp [kdpRespond]

@[simp] theorem takeFrame_keeps (a0) (s : State) :
    (takeFrame a0 s).pending = s.pending ∧ (takeFrame a0 s).ctl = s.ctl ∧ (takeFrame a0 s).power = s.power ∧
    (takeFrame a0 s).fuses = s.fuses ∧ (takeFrame a0 s).cfg = s.cfg ∧ (takeFrame a0 s).field = s.field ∧
    (takeFrame a0 s).pairs = s.pairs ∧ (takeFrame a0 s).array = s.array ∧ (takeFrame a0 s).outs = s.outs ∧
    (takeFrame a0 s).proc = s.proc ∧ (takeFrame a0 s).col = s.col ∧ (takeFrame a0 s).breach = s.breach ∧
    (takeFrame a0 s).test = s.test ∧ (takeFrame a0 s).net = s.net ∧ (takeFrame a0 s).led = s.led ∧
    (takeFrame a0 s).time = s.time ∧ (takeFrame a0 s).draws = s.draws := by
  simp [takeFrame]

@[simp] theorem queueReq_keeps (a0) (a1) (s : State) :
    (queueReq a0 a1 s).pending = s.pending ∧ (queueReq a0 a1 s).ctl = s.ctl ∧ (queueReq a0 a1 s).power = s.power ∧
    (queueReq a0 a1 s).fuses = s.fuses ∧ (queueReq a0 a1 s).cfg = s.cfg ∧ (queueReq a0 a1 s).field = s.field ∧
    (queueReq a0 a1 s).pairs = s.pairs ∧ (queueReq a0 a1 s).array = s.array ∧ (queueReq a0 a1 s).outs = s.outs ∧
    (queueReq a0 a1 s).proc = s.proc ∧ (queueReq a0 a1 s).col = s.col ∧ (queueReq a0 a1 s).breach = s.breach ∧
    (queueReq a0 a1 s).test = s.test ∧ (queueReq a0 a1 s).net = s.net ∧ (queueReq a0 a1 s).led = s.led ∧
    (queueReq a0 a1 s).time = s.time ∧ (queueReq a0 a1 s).draws = s.draws := by
  simp [queueReq]

@[simp] theorem arrives_keeps (a0) (s : State) :
    (arrives a0 s).pending = s.pending ∧ (arrives a0 s).ctl = s.ctl ∧ (arrives a0 s).power = s.power ∧
    (arrives a0 s).fuses = s.fuses ∧ (arrives a0 s).cfg = s.cfg ∧ (arrives a0 s).field = s.field ∧
    (arrives a0 s).pairs = s.pairs ∧ (arrives a0 s).array = s.array ∧ (arrives a0 s).outs = s.outs ∧
    (arrives a0 s).proc = s.proc ∧ (arrives a0 s).col = s.col ∧ (arrives a0 s).breach = s.breach ∧
    (arrives a0 s).test = s.test ∧ (arrives a0 s).net = s.net ∧ (arrives a0 s).led = s.led ∧
    (arrives a0 s).time = s.time ∧ (arrives a0 s).draws = s.draws := by
  simp [arrives]

@[simp] theorem notYetServed_keeps (a0) (a1) (s : State) :
    (notYetServed a0 a1 s).pending = s.pending ∧ (notYetServed a0 a1 s).ctl = s.ctl ∧
    (notYetServed a0 a1 s).power = s.power ∧ (notYetServed a0 a1 s).fuses = s.fuses ∧
    (notYetServed a0 a1 s).cfg = s.cfg ∧ (notYetServed a0 a1 s).field = s.field ∧
    (notYetServed a0 a1 s).pairs = s.pairs ∧ (notYetServed a0 a1 s).array = s.array ∧
    (notYetServed a0 a1 s).outs = s.outs ∧ (notYetServed a0 a1 s).proc = s.proc ∧
    (notYetServed a0 a1 s).col = s.col ∧ (notYetServed a0 a1 s).breach = s.breach ∧
    (notYetServed a0 a1 s).test = s.test ∧ (notYetServed a0 a1 s).net = s.net ∧
    (notYetServed a0 a1 s).led = s.led ∧ (notYetServed a0 a1 s).time = s.time ∧
    (notYetServed a0 a1 s).draws = s.draws := by
  simp [notYetServed]

@[simp] theorem kdpServe_pending (r q i run) (s : State) (h : ∀ t, (run t).pending = t.pending) :
    (kdpServe r q i run s).pending = s.pending := by
  simp only [kdpServe]; (repeat' split) <;> simp [h]

@[simp] theorem kdpServe_power (r q i run) (s : State) (h : ∀ t, (run t).power = t.power) :
    (kdpServe r q i run s).power = s.power := by
  simp only [kdpServe]; (repeat' split) <;> simp [h]

@[simp] theorem kdpServe_fuses (r q i run) (s : State) (h : ∀ t, (run t).fuses = t.fuses) :
    (kdpServe r q i run s).fuses = s.fuses := by
  simp only [kdpServe]; (repeat' split) <;> simp [h]

@[simp] theorem answerRead_keeps (a0) (a1) (s : State) :
    (answerRead a0 a1 s).pending = s.pending ∧ (answerRead a0 a1 s).power = s.power ∧
    (answerRead a0 a1 s).fuses = s.fuses ∧ (answerRead a0 a1 s).cfg = s.cfg ∧
    (answerRead a0 a1 s).pairs = s.pairs ∧ (answerRead a0 a1 s).outs = s.outs ∧
    (answerRead a0 a1 s).time = s.time := by
  simp [answerRead]

@[simp] theorem multiRead_pending (r l u b) (s : State) : (multiRead r l u b s).2.2.pending = s.pending := by
  induction l generalizing u b s with
  | nil => rfl
  | cons x xs ih => simp [multiRead, ih]; try (intros; (repeat' split) <;> simp [ih])

@[simp] theorem multiRead_power (r l u b) (s : State) : (multiRead r l u b s).2.2.power = s.power := by
  induction l generalizing u b s with
  | nil => rfl
  | cons x xs ih => simp [multiRead, ih]; try (intros; (repeat' split) <;> simp [ih])

@[simp] theorem multiRead_fuses (r l u b) (s : State) : (multiRead r l u b s).2.2.fuses = s.fuses := by
  induction l generalizing u b s with
  | nil => rfl
  | cons x xs ih => simp [multiRead, ih]; try (intros; (repeat' split) <;> simp [ih])

@[simp] theorem multiRead_cfg (r l u b) (s : State) : (multiRead r l u b s).2.2.cfg = s.cfg := by
  induction l generalizing u b s with
  | nil => rfl
  | cons x xs ih => simp [multiRead, ih]; try (intros; (repeat' split) <;> simp [ih])

@[simp] theorem multiRead_pairs (r l u b) (s : State) : (multiRead r l u b s).2.2.pairs = s.pairs := by
  induction l generalizing u b s with
  | nil => rfl
  | cons x xs ih => simp [multiRead, ih]; try (intros; (repeat' split) <;> simp [ih])

@[simp] theorem multiRead_outs (r l u b) (s : State) : (multiRead r l u b s).2.2.outs = s.outs := by
  induction l generalizing u b s with
  | nil => rfl
  | cons x xs ih => simp [multiRead, ih]; try (intros; (repeat' split) <;> simp [ih])

@[simp] theorem multiRead_net (r l u b) (s : State) : (multiRead r l u b s).2.2.net = s.net := by
  induction l generalizing u b s with
  | nil => rfl
  | cons x xs ih => simp [multiRead, ih]; try (intros; (repeat' split) <;> simp [ih])

@[simp] theorem multiRead_time (r l u b) (s : State) : (multiRead r l u b s).2.2.time = s.time := by
  induction l generalizing u b s with
  | nil => rfl
  | cons x xs ih => simp [multiRead, ih]; try (intros; (repeat' split) <;> simp [ih])

@[simp] theorem trailerFail_keeps (a0) (a1) (s : State) :
    (trailerFail a0 a1 s).pending = s.pending ∧ (trailerFail a0 a1 s).ctl = s.ctl ∧
    (trailerFail a0 a1 s).power = s.power ∧ (trailerFail a0 a1 s).fuses = s.fuses ∧
    (trailerFail a0 a1 s).cfg = s.cfg ∧ (trailerFail a0 a1 s).field = s.field ∧
    (trailerFail a0 a1 s).pairs = s.pairs ∧ (trailerFail a0 a1 s).array = s.array ∧
    (trailerFail a0 a1 s).outs = s.outs ∧ (trailerFail a0 a1 s).proc = s.proc ∧
    (trailerFail a0 a1 s).test = s.test ∧ (trailerFail a0 a1 s).time = s.time ∧
    (trailerFail a0 a1 s).draws = s.draws := by
  simp [trailerFail]

@[simp] theorem repeatAnswer_keeps (a0) (a1) (a2) (a3) (s : State) :
    (repeatAnswer a0 a1 a2 a3 s).pending = s.pending ∧ (repeatAnswer a0 a1 a2 a3 s).power = s.power ∧
    (repeatAnswer a0 a1 a2 a3 s).fuses = s.fuses := by
  simp [repeatAnswer]

@[simp] theorem setSubs_keeps (a0) (s : State) :
    (setSubs a0 s).pending = s.pending ∧ (setSubs a0 s).ctl = s.ctl ∧ (setSubs a0 s).power = s.power ∧
    (setSubs a0 s).fuses = s.fuses ∧ (setSubs a0 s).cfg = s.cfg ∧ (setSubs a0 s).field = s.field ∧
    (setSubs a0 s).pairs = s.pairs ∧ (setSubs a0 s).array = s.array ∧ (setSubs a0 s).outs = s.outs ∧
    (setSubs a0 s).proc = s.proc ∧ (setSubs a0 s).col = s.col ∧ (setSubs a0 s).breach = s.breach ∧
    (setSubs a0 s).test = s.test ∧ (setSubs a0 s).net = s.net ∧ (setSubs a0 s).led = s.led ∧
    (setSubs a0 s).time = s.time ∧ (setSubs a0 s).draws = s.draws := by
  simp [setSubs]

@[simp] theorem subscribe_keeps (a0) (a1) (s : State) :
    (subscribe a0 a1 s).2.pending = s.pending ∧ (subscribe a0 a1 s).2.power = s.power ∧
    (subscribe a0 a1 s).2.fuses = s.fuses ∧ (subscribe a0 a1 s).2.cfg = s.cfg ∧
    (subscribe a0 a1 s).2.pairs = s.pairs ∧ (subscribe a0 a1 s).2.outs = s.outs ∧
    (subscribe a0 a1 s).2.net = s.net ∧ (subscribe a0 a1 s).2.time = s.time := by
  simp only [subscribe]
  (repeat' split) <;> simp

@[simp] theorem modHspi_keeps (a0) (s : State) :
    (modHspi a0 s).pending = s.pending ∧ (modHspi a0 s).ctl = s.ctl ∧ (modHspi a0 s).power = s.power ∧
    (modHspi a0 s).fuses = s.fuses ∧ (modHspi a0 s).cfg = s.cfg ∧ (modHspi a0 s).field = s.field ∧
    (modHspi a0 s).pairs = s.pairs ∧ (modHspi a0 s).array = s.array ∧ (modHspi a0 s).outs = s.outs ∧
    (modHspi a0 s).proc = s.proc ∧ (modHspi a0 s).col = s.col ∧ (modHspi a0 s).breach = s.breach ∧
    (modHspi a0 s).test = s.test ∧ (modHspi a0 s).net = s.net ∧ (modHspi a0 s).led = s.led ∧
    (modHspi a0 s).time = s.time ∧ (modHspi a0 s).draws = s.draws := by
  simp [modHspi]

theorem sessionReply_none (r c d) (s : State) (h : sessionFrame s r = none) :
    sessionReply r c d s = reply r c d s := by unfold sessionReply; rw [h]

theorem sessionReply_some (r c d fr) (s : State) (h : sessionFrame s r = some fr) : sessionReply r c d s = reply r c d
    (lateCheck (cameAt s r) 2000000 (kdpRespond r (sessionReq fr) (kdpStatus c) 0 d (takeFrame r s))) := by
  unfold sessionReply; rw [h]

@[simp] theorem sessionReply_keeps (r c d) (s : State) :
    (sessionReply r c d s).pending = s.pending ∧ (sessionReply r c d s).ctl = s.ctl ∧
    (sessionReply r c d s).power = s.power ∧ (sessionReply r c d s).fuses = s.fuses ∧
    (sessionReply r c d s).cfg = s.cfg ∧ (sessionReply r c d s).field = s.field ∧
    (sessionReply r c d s).pairs = s.pairs ∧ (sessionReply r c d s).array = s.array ∧
    (sessionReply r c d s).outs = s.outs ∧ (sessionReply r c d s).proc = s.proc ∧
    (sessionReply r c d s).test = s.test ∧ (sessionReply r c d s).time = s.time ∧
    (sessionReply r c d s).draws = s.draws := by
  rcases h : sessionFrame s r with _ | fr
  · rw [sessionReply_none r c d s h]; simp
  · rw [sessionReply_some r c d fr s h]; simp

@[simp] theorem sessionRun_pending (r d run) (s : State) (h : ∀ t, (run t).2.2.pending = t.pending) :
    (sessionRun r d run s).pending = s.pending := by
  simp only [sessionRun]; (repeat' split) <;> simp [h]

@[simp] theorem sessionRun_power (r d run) (s : State) (h : ∀ t, (run t).2.2.power = t.power) :
    (sessionRun r d run s).power = s.power := by
  simp only [sessionRun]; (repeat' split) <;> simp [h]

@[simp] theorem sessionRun_fuses (r d run) (s : State) (h : ∀ t, (run t).2.2.fuses = t.fuses) :
    (sessionRun r d run s).fuses = s.fuses := by
  simp only [sessionRun]; (repeat' split) <;> simp [h]

@[simp] theorem dropNonce_keeps (a0) (s : State) :
    (dropNonce a0 s).pending = s.pending ∧ (dropNonce a0 s).ctl = s.ctl ∧ (dropNonce a0 s).power = s.power ∧
    (dropNonce a0 s).fuses = s.fuses ∧ (dropNonce a0 s).cfg = s.cfg ∧ (dropNonce a0 s).field = s.field ∧
    (dropNonce a0 s).pairs = s.pairs ∧ (dropNonce a0 s).array = s.array ∧ (dropNonce a0 s).outs = s.outs ∧
    (dropNonce a0 s).proc = s.proc ∧ (dropNonce a0 s).col = s.col ∧ (dropNonce a0 s).breach = s.breach ∧
    (dropNonce a0 s).test = s.test ∧ (dropNonce a0 s).net = s.net ∧ (dropNonce a0 s).led = s.led ∧
    (dropNonce a0 s).time = s.time ∧ (dropNonce a0 s).draws = s.draws := by
  simp only [dropNonce]
  (repeat' split) <;> simp

@[simp] theorem sdoFrame_pending (n run) (s : State) (h : ∀ x t, (run x t).pending = t.pending) :
    (sdoFrame n run s).pending = s.pending := by
  simp only [sdoFrame]; (repeat' split) <;> simp [h]

@[simp] theorem sdoFrame_power (n run) (s : State) (h : ∀ x t, (run x t).power = t.power) :
    (sdoFrame n run s).power = s.power := by
  simp only [sdoFrame]; (repeat' split) <;> simp [h]

@[simp] theorem sdoFrame_fuses (n run) (s : State) (h : ∀ x t, (run x t).fuses = t.fuses) :
    (sdoFrame n run s).fuses = s.fuses := by
  simp only [sdoFrame]; (repeat' split) <;> simp [h]

@[simp] theorem sdoWrite_keeps (a0) (a1) (a2) (a3) (a4) (a5) (s : State) :
    (sdoWrite a0 a1 a2 a3 a4 a5 s).pending = s.pending ∧ (sdoWrite a0 a1 a2 a3 a4 a5 s).power = s.power ∧
    (sdoWrite a0 a1 a2 a3 a4 a5 s).fuses = s.fuses := by
  simp [sdoWrite]

@[simp] theorem sdoStop_keeps (a0) (a1) (a2) (s : State) :
    (sdoStop a0 a1 a2 s).pending = s.pending ∧ (sdoStop a0 a1 a2 s).ctl = s.ctl ∧
    (sdoStop a0 a1 a2 s).power = s.power ∧ (sdoStop a0 a1 a2 s).fuses = s.fuses ∧
    (sdoStop a0 a1 a2 s).cfg = s.cfg ∧ (sdoStop a0 a1 a2 s).field = s.field ∧
    (sdoStop a0 a1 a2 s).pairs = s.pairs ∧ (sdoStop a0 a1 a2 s).array = s.array ∧
    (sdoStop a0 a1 a2 s).outs = s.outs ∧ (sdoStop a0 a1 a2 s).proc = s.proc ∧ (sdoStop a0 a1 a2 s).test = s.test ∧
    (sdoStop a0 a1 a2 s).time = s.time := by
  simp [sdoStop]

@[simp] theorem downloadStart_keeps (a0) (a1) (a2) (a3) (a4) (a5) (s : State) :
    (downloadStart a0 a1 a2 a3 a4 a5 s).pending = s.pending ∧ (downloadStart a0 a1 a2 a3 a4 a5 s).power = s.power ∧
    (downloadStart a0 a1 a2 a3 a4 a5 s).fuses = s.fuses := by
  simp [downloadStart]

@[simp] theorem downloadSegment_keeps (a0) (a1) (a2) (a3) (s : State) :
    (downloadSegment a0 a1 a2 a3 s).pending = s.pending ∧ (downloadSegment a0 a1 a2 a3 s).power = s.power ∧
    (downloadSegment a0 a1 a2 a3 s).fuses = s.fuses := by
  simp [downloadSegment]

@[simp] theorem uploadStart_keeps (a0) (a1) (a2) (a3) (s : State) :
    (uploadStart a0 a1 a2 a3 s).pending = s.pending ∧ (uploadStart a0 a1 a2 a3 s).power = s.power ∧
    (uploadStart a0 a1 a2 a3 s).fuses = s.fuses := by
  simp [uploadStart]

@[simp] theorem uploadSegment_keeps (a0) (a1) (s : State) :
    (uploadSegment a0 a1 s).pending = s.pending ∧ (uploadSegment a0 a1 s).power = s.power ∧
    (uploadSegment a0 a1 s).fuses = s.fuses := by
  simp [uploadSegment]

@[simp] theorem blockSegment_keeps (a0) (a1) (a2) (a3) (a4) (s : State) :
    (blockSegment a0 a1 a2 a3 a4 s).pending = s.pending ∧ (blockSegment a0 a1 a2 a3 a4 s).ctl = s.ctl ∧
    (blockSegment a0 a1 a2 a3 a4 s).power = s.power ∧ (blockSegment a0 a1 a2 a3 a4 s).fuses = s.fuses ∧
    (blockSegment a0 a1 a2 a3 a4 s).cfg = s.cfg ∧ (blockSegment a0 a1 a2 a3 a4 s).field = s.field ∧
    (blockSegment a0 a1 a2 a3 a4 s).pairs = s.pairs ∧ (blockSegment a0 a1 a2 a3 a4 s).array = s.array ∧
    (blockSegment a0 a1 a2 a3 a4 s).outs = s.outs ∧ (blockSegment a0 a1 a2 a3 a4 s).proc = s.proc ∧
    (blockSegment a0 a1 a2 a3 a4 s).test = s.test ∧ (blockSegment a0 a1 a2 a3 a4 s).time = s.time := by
  simp [blockSegment]

@[simp] theorem blockDown_keeps (a0) (a1) (s : State) :
    (blockDown a0 a1 s).pending = s.pending ∧ (blockDown a0 a1 s).power = s.power ∧
    (blockDown a0 a1 s).fuses = s.fuses := by
  simp only [blockDown]
  (repeat' split) <;> simp

@[simp] theorem blockSend_keeps (a0) (a1) (s : State) :
    (blockSend a0 a1 s).pending = s.pending ∧ (blockSend a0 a1 s).ctl = s.ctl ∧
    (blockSend a0 a1 s).power = s.power ∧ (blockSend a0 a1 s).fuses = s.fuses ∧ (blockSend a0 a1 s).cfg = s.cfg ∧
    (blockSend a0 a1 s).field = s.field ∧ (blockSend a0 a1 s).pairs = s.pairs ∧
    (blockSend a0 a1 s).array = s.array ∧ (blockSend a0 a1 s).outs = s.outs ∧ (blockSend a0 a1 s).proc = s.proc ∧
    (blockSend a0 a1 s).test = s.test ∧ (blockSend a0 a1 s).time = s.time := by
  simp [blockSend]

@[simp] theorem blockAnswer_keeps (a0) (a1) (a2) (a3) (s : State) :
    (blockAnswer a0 a1 a2 a3 s).pending = s.pending ∧ (blockAnswer a0 a1 a2 a3 s).ctl = s.ctl ∧
    (blockAnswer a0 a1 a2 a3 s).power = s.power ∧ (blockAnswer a0 a1 a2 a3 s).fuses = s.fuses ∧
    (blockAnswer a0 a1 a2 a3 s).cfg = s.cfg ∧ (blockAnswer a0 a1 a2 a3 s).field = s.field ∧
    (blockAnswer a0 a1 a2 a3 s).pairs = s.pairs ∧ (blockAnswer a0 a1 a2 a3 s).array = s.array ∧
    (blockAnswer a0 a1 a2 a3 s).outs = s.outs ∧ (blockAnswer a0 a1 a2 a3 s).proc = s.proc ∧
    (blockAnswer a0 a1 a2 a3 s).test = s.test ∧ (blockAnswer a0 a1 a2 a3 s).time = s.time := by
  simp [blockAnswer]

@[simp] theorem blockUp_keeps (a0) (a1) (s : State) :
    (blockUp a0 a1 s).pending = s.pending ∧ (blockUp a0 a1 s).power = s.power ∧
    (blockUp a0 a1 s).fuses = s.fuses := by
  simp only [blockUp]
  (repeat' split) <;> simp

@[simp] theorem clientAbort_keeps (a0) (s : State) :
    (clientAbort a0 s).pending = s.pending ∧ (clientAbort a0 s).ctl = s.ctl ∧ (clientAbort a0 s).power = s.power ∧
    (clientAbort a0 s).fuses = s.fuses ∧ (clientAbort a0 s).cfg = s.cfg ∧ (clientAbort a0 s).field = s.field ∧
    (clientAbort a0 s).pairs = s.pairs ∧ (clientAbort a0 s).array = s.array ∧ (clientAbort a0 s).outs = s.outs ∧
    (clientAbort a0 s).proc = s.proc ∧ (clientAbort a0 s).col = s.col ∧ (clientAbort a0 s).breach = s.breach ∧
    (clientAbort a0 s).test = s.test ∧ (clientAbort a0 s).net = s.net ∧ (clientAbort a0 s).led = s.led ∧
    (clientAbort a0 s).time = s.time ∧ (clientAbort a0 s).draws = s.draws := by
  simp [clientAbort]

@[simp] theorem sdoRequest_keeps (a0) (a1) (s : State) :
    (sdoRequest a0 a1 s).pending = s.pending ∧ (sdoRequest a0 a1 s).power = s.power ∧
    (sdoRequest a0 a1 s).fuses = s.fuses := by
  simp only [sdoRequest]
  (repeat' split) <;> simp

end Sys2Proof.Machine
end

