-- ==== Sys2Proof/Laws/Faults.lean ====
section
/-! SUPPORT. The laws of the fault collector: what is in effect, that no report, breach or record for the Ledger takes
a fault out of effect, and that a fault that is raised with room in the collector is in effect. -/

namespace Sys2Proof.Machine

/-! ### What is in effect -/

/-- A report of a code and source waits and is not superseded. -/
def Waits (code src : Nat) (s : State) : Prop :=
  ∃ p ∈ s.col.pending, p.superseded = false ∧ p.rep.code = code ∧ p.rep.source = src

theorem faultActive_iff (s : State) (code src : Nat) :
    faultActive s code src = true ↔ (∃ r ∈ s.col.records, r.uncleared = true ∧ r.code = code ∧ r.source = src)
      ∨ Waits code src s := by
  simp only [faultActive, actives, List.any_append, List.any_map, List.any_filter, Bool.or_eq_true, List.any_eq_true,
    Function.comp, Bool.and_eq_true, decide_eq_true_eq, Bool.not_eq_eq_eq_not, Bool.not_true, Waits]

theorem mem_pendInsert (p q : Pending) (l : List Pending) : q ∈ pendInsert p l ↔ q = p ∨ q ∈ l := by
  induction l with
  | nil => simp [pendInsert]
  | cons x l ih =>
    simp only [pendInsert]
    split
    · simp
    · simp only [List.mem_cons, ih]; exact or_left_comm

/-- A change of a record that keeps whether it is uncleared, its code, its source and its condition. -/
def SameFault (g : Record → Record) : Prop :=
  ∀ r, (g r).uncleared = r.uncleared ∧ (g r).code = r.code ∧ (g r).source = r.source ∧ (g r).present = r.present

/-- From `s` to `t` the records keep their faults and conditions, and no report that waits is lost. -/
def Grows (s t : State) : Prop :=
  (∃ g, SameFault g ∧ t.col.records = s.col.records.map g) ∧ ∀ code src, Waits code src s → Waits code src t

/-- From `s` to `t` no fault goes out of effect. -/
structure Keeps (s t : State) : Prop where
  act : ∀ code src, faultActive s code src = true → faultActive t code src = true

theorem Grows.of_eq {s t : State} (h : t.col.records = s.col.records) (k : t.col.pending = s.col.pending) : Grows s t :=
  ⟨⟨id, fun _ => ⟨rfl, rfl, rfl, rfl⟩, by simp [h]⟩, fun _ _ w => by unfold Waits at *; rwa [k]⟩
theorem Grows.rfl' (s : State) : Grows s s := .of_eq rfl rfl
theorem Grows.trans {s t u : State} (h : Grows s t) (k : Grows t u) : Grows s u := by
  obtain ⟨⟨g, hg, eg⟩, hp⟩ := h
  obtain ⟨⟨f, hf, ef⟩, kp⟩ := k
  refine ⟨⟨f ∘ g, fun r => ?_, by simp [ef, eg]⟩, fun c x w => kp c x (hp c x w)⟩
  simp only [Function.comp, (hf (g r)).1, (hf (g r)).2.1, (hf (g r)).2.2.1, (hf (g r)).2.2.2, hg r, and_self]
theorem Grows.fold {α : Type} (f : State → α → State) (l : List α) (h : ∀ s x, Grows s (f s x)) (s : State) :
    Grows s (l.foldl f s) := by
  induction l generalizing s with
  | nil => exact Grows.rfl' s
  | cons x l ih => exact (h s x).trans (ih _)
theorem Grows.ite {p : Prop} [Decidable p] {s t u : State} (h : Grows s t) (k : Grows s u) : Grows s (if p then t else u) := by
  split
  · exact h
  · exact k

theorem Keeps.rfl' (s : State) : Keeps s s := ⟨fun _ _ h => h⟩
theorem Keeps.trans {s t u : State} (h : Keeps s t) (k : Keeps t u) : Keeps s u :=
  ⟨fun c x a => k.act c x (h.act c x a)⟩
theorem Keeps.fold {α : Type} (f : State → α → State) (l : List α) (h : ∀ s x, Keeps s (f s x)) (s : State) :
    Keeps s (l.foldl f s) := by
  induction l generalizing s with
  | nil => exact Keeps.rfl' s
  | cons x l ih => exact (h s x).trans (ih _)
theorem Keeps.ite {p : Prop} [Decidable p] {s t u : State} (h : Keeps s t) (k : Keeps s u) : Keeps s (if p then t else u) := by
  split
  · exact h
  · exact k
/-- Where records keep their codes and sources, no uncleared one is cleared and no waiting report is lost, no fault is. -/
theorem Keeps.of_map {s t : State} (g : Record → Record) (e : t.col.records = s.col.records.map g)
    (h : ∀ r, (r.uncleared = true → (g r).uncleared = true) ∧ (g r).code = r.code ∧ (g r).source = r.source)
    (w : ∀ code src, Waits code src s → Waits code src t) : Keeps s t := by
  refine ⟨fun code src k => ?_⟩
  rw [faultActive_iff] at *
  refine k.imp (fun ⟨r, m, a⟩ => ⟨g r, e ▸ List.mem_map_of_mem m, ?_⟩) (w code src)
  rw [(h r).2.1, (h r).2.2]; exact ⟨(h r).1 a.1, a.2⟩
theorem Grows.keeps {s t : State} (h : Grows s t) : Keeps s t := by
  obtain ⟨⟨g, hg, e⟩, w⟩ := h
  exact .of_map g e (fun r => ⟨fun u => (hg r).1.trans u, (hg r).2.1, (hg r).2.2.1⟩) w
theorem Keeps.of_col {s t : State} (h : t.col = s.col) : Keeps s t := (Grows.of_eq (by rw [h]) (by rw [h])).keeps

/-! ### Waiting reports -/

/-- A change of the waiting reports that keeps their faults loses none. -/
theorem waits_map (f : Pending → Pending) (s t : State) (e : t.col.pending = s.col.pending.map f)
    (h : ∀ p, (f p).superseded = p.superseded ∧ (f p).rep = p.rep) (code src : Nat) (w : Waits code src s) :
    Waits code src t := by
  obtain ⟨p, m, a⟩ := w
  exact ⟨f p, e ▸ List.mem_map_of_mem m, by rw [(h p).1, (h p).2]; exact a⟩

theorem waits_insert (p : Pending) (s t : State) (e : t.col.pending = pendInsert p s.col.pending) (code src : Nat)
    (w : Waits code src s) : Waits code src t := by
  obtain ⟨q, m, a⟩ := w
  exact ⟨q, e ▸ (mem_pendInsert ..).2 (.inr m), a⟩

theorem modPending_keeps' (pick : Pending → Bool) (f : Pending → Pending) (s : State)
    (h : ∀ p, (f p).superseded = p.superseded ∧ (f p).rep = p.rep) : Keeps s (modPending pick f s) :=
  .of_map id (List.map_id _).symm (fun _ => ⟨id, rfl, rfl⟩)
    (waits_map (fun p => if pick p then f p else p) s _ rfl fun p => by split <;> simp [h p])

/-! ### Breaches and records for the Ledger -/

/-- A function that hands a record over and loses no fault. -/
def PutGrows (put : LedgerRec → State → State) : Prop := ∀ r s, Grows s (put r s)

/-- What a change of the records that a test picks leaves. -/
theorem updWith_records {put : LedgerRec → State → State} (hp : PutGrows put) (pick : Record → Bool)
    (f : Record → Record) (s : State) :
    (∃ g, SameFault g ∧ (updWith put pick f s).col.records = (s.col.records.map (fun r => if pick r then f r else r)).map g)
      ∧ ∀ code src, Waits code src s → Waits code src (updWith put pick f s) :=
  Grows.fold (fun a r => put (f r).copy a) _ (fun s r => hp (f r).copy s)
    { s with col := { s.col with records := s.col.records.map (fun r => if pick r then f r else r) } }

theorem again_keeps (n : Nat) (lasting : Bool) (t : Nat) (r : Record) :
    (r.uncleared = true → (r.again n lasting t).uncleared = true) ∧ (r.again n lasting t).code = r.code
      ∧ (r.again n lasting t).source = r.source := ⟨id, rfl, rfl⟩

theorem updWith_keeps' {put : LedgerRec → State → State} (hp : PutGrows put) (pick : Record → Bool)
    (f : Record → Record) (s : State)
    (h : ∀ r, (r.uncleared = true → (f r).uncleared = true) ∧ (f r).code = r.code ∧ (f r).source = r.source) :
    Keeps s (updWith put pick f s) := by
  obtain ⟨⟨g, hg, e⟩, w⟩ := updWith_records hp pick f s
  refine .of_map (fun r => g (if pick r then f r else r)) (by rw [e, List.map_map]; rfl) (fun r => ?_) w
  rw [(hg _).1, (hg _).2.1, (hg _).2.2.1]
  split
  · exact h r
  · exact ⟨id, rfl, rfl⟩

/-- A report that joins or waits takes no fault out of effect. -/
theorem enterWith_keeps' {put : LedgerRec → State → State} (hp : PutGrows put) (a : Report) (force : Bool) (s : State) :
    Keeps s (enterWith put a force s) := by
  unfold enterWith
  split
  · exact updWith_keeps' hp _ _ _ (again_keeps _ _ _)
  split
  · exact .of_map id (List.map_id _).symm (fun _ => ⟨id, rfl, rfl⟩)
      (waits_map _ s _ rfl fun p => by split <;> simp)
  · exact .of_map id (List.map_id _).symm (fun _ => ⟨id, rfl, rfl⟩) (waits_insert _ s _ rfl)

/-- A momentary report also ends no condition and starts none in a record. -/
theorem enterWith_grows {put : LedgerRec → State → State} (hp : PutGrows put) (a : Report) (ha : a.lasting = false)
    (force : Bool) (s : State) : Grows s (enterWith put a force s) := by
  unfold enterWith
  split
  · obtain ⟨⟨g, hg, e⟩, w⟩ := updWith_records hp (Record.sameAs · a) (Record.again 1 a.lasting (Report.goneAt a s)) s
    refine ⟨⟨fun r => g (if r.sameAs a then r.again 1 a.lasting (Report.goneAt a s) else r), fun r => ?_,
      by rw [e, List.map_map]; rfl⟩, w⟩
    rw [(hg _).1, (hg _).2.1, (hg _).2.2.1, (hg _).2.2.2]
    split
    · exact ⟨rfl, rfl, rfl, by simp [Record.again, ha]⟩
    · exact ⟨rfl, rfl, rfl, rfl⟩
  split
  · exact ⟨⟨id, fun _ => ⟨rfl, rfl, rfl, rfl⟩, (List.map_id _).symm⟩, waits_map _ s _ rfl fun p => by split <;> simp⟩
  · exact ⟨⟨id, fun _ => ⟨rfl, rfl, rfl, rfl⟩, (List.map_id _).symm⟩, waits_insert _ s _ rfl⟩

/-- A breach that loses no fault. -/
def LoseGrows (lose : Nat → Nat → State → State) : Prop := ∀ r c s, Grows s (lose r c s)

theorem breachCount_grows : LoseGrows breachCount := fun _ _ _ => .of_eq rfl rfl
theorem sealOpen_grows (s : State) : Grows s (sealOpen s) := .of_eq (by simp) (by simp)
theorem openPut_grows (r : LedgerRec) (s : State) : Grows s (openPut r s) := .of_eq rfl rfl
theorem sealFull_grows (s : State) : Grows s (sealFull s) := Grows.ite (.rfl' s) (sealOpen_grows s)
theorem lose5_grows (c : Nat) (s : State) : Grows s (lose5 c s) := .of_eq rfl rfl

theorem placeWith_grows {lose : Nat → Nat → State → State} (h : LoseGrows lose) (r : LedgerRec) (s : State) :
    Grows s (placeWith lose r s) := by
  unfold placeWith
  split
  · exact (openPut_grows ..).trans (sealFull_grows _)
  split
  · exact (openPut_grows ..).trans (sealFull_grows _)
  split
  · exact (sealOpen_grows s).trans ((openPut_grows ..).trans (sealFull_grows _))
  split
  · exact lose5_grows ..
  split
  · exact lose5_grows ..
  split
  · exact lose5_grows ..
  · exact (Grows.of_eq rfl rfl).trans (h ..)

theorem ledgerWith_grows {lose : Nat → Nat → State → State} (h : LoseGrows lose) (t : Nat) (r : LedgerRec) (s : State) :
    Grows s (ledgerWith lose t r s) := by
  unfold ledgerWith
  dsimp only
  split
  · exact placeWith_grows h ..
  split
  · exact Grows.ite (.rfl' s) (openPut_grows ..)
  · exact h ..

theorem breach_grows : LoseGrows breach := by
  intro r c s
  unfold breach
  have h := breachCount_grows r c s
  have hp : PutGrows (fun r (t : State) => ledgerWith breachCount t.time.dev r t) :=
    fun r s => ledgerWith_grows breachCount_grows _ r s
  exact Grows.ite (Grows.ite (h.trans (enterWith_grows hp _ rfl _ _)) (h.trans ((hp ..).trans (breachCount_grows ..)))) h

theorem ledgerPut_grows : PutGrows ledgerPut := fun r s => ledgerWith_grows breach_grows s.time.dev r s

/-! ### Taking and raising a fault -/

theorem reactAtOnce_col (lvl src : Nat) (s : State) :
    (reactAtOnce lvl src s).col.records = s.col.records ∧ (reactAtOnce lvl src s).col.pending = s.col.pending := by
  unfold reactAtOnce
  dsimp only
  (repeat' split) <;> exact ⟨rfl, rfl⟩

theorem reactAtOnce_grows (lvl src : Nat) (s : State) : Grows s (reactAtOnce lvl src s) :=
  .of_eq (reactAtOnce_col lvl src s).1 (reactAtOnce_col lvl src s).2

theorem enter_keeps' (a : Report) (force : Bool) (s : State) : Keeps s (enter a force s) := enterWith_keeps' ledgerPut_grows a force s

theorem rankOne_grows (code : Nat) (s : State) : Grows s (rankOne code s) := Grows.ite (breach_grows ..) (.rfl' s)

theorem uncount_col (pick : Record → Bool) (s : State) :
    (uncount pick s).col.records = s.col.records ∧ (uncount pick s).col.pending = s.col.pending := by
  unfold uncount
  generalize s.col.records.filter _ = l
  induction l generalizing s with
  | nil => exact ⟨rfl, rfl⟩
  | cons x l ih => exact ih _

/-- A return of a condition in the tick of its recovery takes no fault out of effect. -/
theorem unrecover_keeps' (a : Report) (s : State) : Keeps s (unrecover a s) :=
  Keeps.trans (Grows.of_eq (uncount_col _ s).1 (uncount_col _ s).2).keeps
    (updWith_keeps' ledgerPut_grows _ _ _ fun _ => ⟨fun _ => rfl, rfl, rfl⟩)

theorem takeIn_keeps' (a : Report) (force : Bool) (s : State) : Keeps s (takeIn a force s) :=
  (enter_keeps' ..).trans (reactAtOnce_grows ..).keeps

theorem takeOver_keeps' (lvl : Nat) (a : Report) (s : State) : Keeps s (takeOver lvl a s) := by
  unfold takeOver
  split
  · refine Keeps.trans ?_ (enter_keeps' ..)
    exact ((rankOne_grows ..).trans ((reactAtOnce_grows ..).trans (reactAtOnce_grows ..))).keeps
  · exact ((ledgerPut_grows ..).trans (breach_grows ..)).keeps

/-- A report takes no fault out of effect. -/
theorem take_keeps' (a : Report) (force : Bool) (s : State) : Keeps s (take a force s) := by
  unfold take
  dsimp only
  split
  · exact .rfl' s
  · exact (unrecover_keeps' a s).trans (Keeps.ite (takeIn_keeps' ..) (takeOver_keeps' ..))

/-- A report that is entered is in effect. -/
theorem enter_inEffect (a : Report) (force : Bool) (s : State) : faultActive (enter a force s) a.code a.source = true := by
  unfold enter enterWith
  split
  · next c =>
    refine (updWith_keeps' ledgerPut_grows _ _ _ (again_keeps _ _ _)).act _ _ ?_
    obtain ⟨r, m, e⟩ := List.any_eq_true.1 c
    simp only [Record.sameAs, Bool.and_eq_true, decide_eq_true_eq] at e
    exact (faultActive_iff ..).2 (.inl ⟨r, m, e.1.1, e.1.2, e.2⟩)
  split
  · next c =>
    obtain ⟨p, m, e⟩ := List.any_eq_true.1 c
    have e' := e
    simp only [Pending.joins, Bool.and_eq_true, decide_eq_true_eq, Bool.not_eq_eq_eq_not, Bool.not_true] at e
    refine (faultActive_iff ..).2 (.inr ⟨_, List.mem_map_of_mem m, ?_⟩)
    rw [if_pos e']; exact ⟨e.1.2, e.1.1⟩
  · exact (faultActive_iff ..).2 (.inr ⟨_, (mem_pendInsert ..).2 (.inl rfl), rfl, rfl, rfl⟩)

/-- A report that finds room still finds a record to join or room after the coincidences of a recovery (R354): where a
record has returned, the report joins it. -/
theorem unrecover_room (a : Report) (s : State) (h : room s = true) :
    joined (unrecover a s) a = true ∨ room (unrecover a s) = true := by
  have eu : ∀ pick, unclearedCount (uncount pick s) = unclearedCount s ∧ (uncount pick s).col.records = s.col.records := fun p =>
    ⟨by simp only [unclearedCount, unclearedRecs, (uncount_col p s).1], (uncount_col p s).1⟩
  unfold unrecover
  dsimp only
  generalize e : (fun x : Record => recoveredNow s x && decide (x.code = a.code) && decide (x.source = a.source)) = pick
  generalize ef : (fun x : Record => { x with status := 0, recovered := false, read := false, recAt := 0 }) = f
  by_cases hp : s.col.records.any pick = true
  · left
    obtain ⟨x, m, hx⟩ := List.any_eq_true.1 hp
    obtain ⟨⟨g, hg, er⟩, -⟩ := updWith_records ledgerPut_grows pick f (uncount pick s)
    simp only [joined, Bool.or_eq_true]
    refine .inl (List.any_eq_true.2 ⟨g (f x), ?_, ?_⟩)
    · show _ ∈ (updRecords pick f (uncount pick s)).col.records
      rw [updRecords, er, (eu pick).2]
      exact List.mem_map_of_mem (List.mem_map.2 ⟨x, m, by simp [hx]⟩)
    · subst e ef
      simp only [Bool.and_eq_true, decide_eq_true_eq] at hx
      simp only [Record.sameAs, (hg _).1, (hg _).2.1, (hg _).2.2.1, hx.1.2, hx.2, decide_true]
      rfl
  · right
    have hn : ∀ x ∈ s.col.records, pick x = false := fun x m => by simpa using fun c => hp (List.any_eq_true.2 ⟨x, m, c⟩)
    have hr : updRecords pick f (uncount pick s) = uncount pick s := by
      have h1 : (uncount pick s).col.records.filter pick = [] := by
        rw [(eu pick).2]; exact List.filter_eq_nil_iff.2 fun x m => by simp [hn x m]
      have h2 : (uncount pick s).col.records.map (fun r => if pick r then f r else r) = (uncount pick s).col.records := by
        rw [(eu pick).2]
        exact (List.map_congr_left fun x m => by simp [hn x m]).trans (List.map_id _)
      simp only [updRecords, updWith, h1, List.filter_nil, List.foldl_nil, h2]
    rw [hr]
    simp only [room, (eu pick).1, (uncount_col pick s).2]
    exact h

/-- A report that finds room is in effect. -/
theorem take_inEffect (a : Report) (force : Bool) (s : State) (h : s.ctl.st ≠ .reset ∧ s.ctl.st ≠ .fuseSense)
    (hr : room s = true) : faultActive (take a force s) a.code a.source = true := by
  unfold take
  dsimp only
  rw [if_neg (fun c => c.elim h.1 h.2), if_pos (unrecover_room a s hr)]
  exact (reactAtOnce_grows ..).keeps.act _ _ (enter_inEffect ..)

theorem coreDue_col (k : Nat) (s : State) : (coreDue k s).col = s.col := by simp

/-- The rest of a reaction takes no fault out of effect: its collector grows by reports alone. -/
theorem abandonItem_keeps' (n : Nat) (s : State) : Keeps s (abandonItem n s) := by
  unfold abandonItem
  dsimp only
  split
  · refine Keeps.trans (Keeps.of_col ?_) (take_keeps' ..)
    simp
  · exact .rfl' s

theorem abandonArrays_keeps' (lvl n : Nat) (s : State) : Keeps s (abandonArrays lvl n s) :=
  Keeps.fold _ _ (fun a _ => Keeps.ite (abandonItem_keeps' _ a) (.rfl' a)) s

theorem takeStop_keeps' (a : Report) (s : State) : Keeps s (takeStop a s) :=
  (take_keeps' ..).trans (abandonArrays_keeps' ..)

theorem mend_keeps' (pl : Place) (s : State) : Keeps s (mend pl s) :=
  Keeps.ite (.trans (.of_col (clearUpsets_keeps ..).2.2.2.2.2.2.2.2.2.2.1) (take_keeps' ..)) (.rfl' s)

theorem unwindAll_keeps' (i p : Nat) (l : List (Nat × Word)) (s : State) : Keeps s (unwindAll i p l s).1 := by
  induction l generalizing s with
  | nil => exact .rfl' s
  | cons e es ih =>
    unfold unwindAll
    split
    · exact .rfl' s
    · refine Keeps.trans ?_ (ih _)
      exact Keeps.trans (mend_keeps' _ s) (.of_col (by simp only [unwindOne]; split <;> rfl))

theorem unwind_keeps' (i p : Nat) (s : State) : Keeps s (unwind i p s) := by
  have h := unwindAll_keeps' i p (tcm s i).journal s
  unfold unwind
  generalize unwindAll i p (tcm s i).journal s = r at h ⊢
  have k : Keeps s (modTcm i (fun t => { t with journal := [] }) (clearUpsets (inJournal i) r.1)) := h.trans (.of_col rfl)
  exact Keeps.ite k (k.trans (takeStop_keeps' ..))

theorem readSlot_keeps' (p : Nat) (s : State) : Keeps s (readSlot p s) := by
  unfold readSlot
  dsimp only
  have h := Keeps.fold (fun a c => mend (.slot p c) a) (upto 3) (fun a c => mend_keeps' (.slot p c) a) s
  generalize (upto 3).foldl (fun a c => mend (.slot p c) a) s = u at h ⊢
  have k := Keeps.fold (fun a c => if shows u (.slot p c) = .uncorrectable then
    takeStop (report a 0x0802 0x0735 0xFFFF (placeAddr (.slot p c))) a else a) (upto 3)
    (fun a _ => Keeps.ite (takeStop_keeps' ..) (.rfl' a)) u
  exact (h.trans k).trans (.of_col rfl)

theorem removeCore_keeps' (n : Nat) (s : State) : Keeps s (removeCore n s) := .of_col (by simp)

theorem takeover_keeps' (n j : Nat) (s : State) : Keeps s (takeover n j s) := by
  unfold takeover
  dsimp only
  have h : Keeps s (if (core s j).role = .underTest then abandonItem 0x0B (abandonItem j s) else abandonItem 0x0B s) :=
    Keeps.ite ((abandonItem_keeps' ..).trans (abandonItem_keeps' ..)) (abandonItem_keeps' ..)
  generalize (if (core s j).role = .underTest then abandonItem 0x0B (abandonItem j s) else abandonItem 0x0B s) = u at h ⊢
  generalize (fun d : CoreSt => { d with
    role := .active, part := (core s n).part, set := (core s n).set, chime := (core s n).chime
    retried := (core s n).retried
    perf := eventAdd 0x0F 1 (idleTo (part u 0).startCycles (core s n).perf.cycles d.perf) }) = f
  have k : Keeps s (readSlot (core s n).part (unwind (core s n).set (core s n).part (modCore j f (removeCore n u)))) := by
    refine Keeps.trans ?_ (readSlot_keeps' ..)
    refine Keeps.trans ?_ (unwind_keeps' ..)
    exact Keeps.trans (h.trans (removeCore_keeps' n u)) (.of_col rfl)
  generalize readSlot (core s n).part (unwind (core s n).set (core s n).part (modCore j f (removeCore n u))) = w at k ⊢
  split
  · exact k.trans (.of_col (by simp))
  · refine Keeps.trans ?_ (takeStop_keeps' ..)
    exact k.trans (.of_col rfl)

theorem removeNamed_keeps' (n : Nat) (s : State) : Keeps s (removeNamed n s) := by
  unfold removeNamed
  split
  · exact .rfl' s
  split
  · split
    · exact takeover_keeps' ..
    · exact removeCore_keeps' ..
  split
  · exact Keeps.trans (abandonItem_keeps' ..) (removeCore_keeps' ..)
  · exact .rfl' s

theorem giveWay_keeps' (a : Report) (p : Pending) (s : State) : Keeps s (giveWay a p s) := by
  unfold giveWay
  split
  · refine Keeps.trans ?_ (abandonArrays_keeps' ..)
    refine Keeps.trans ?_ (reactAtOnce_grows ..).keeps
    refine Keeps.trans ?_ (takeover_keeps' ..)
    refine Keeps.trans ?_ (take_keeps' ..)
    exact modPending_keeps' _ _ s fun _ => ⟨rfl, rfl⟩
  · exact .rfl' s

/-- A fault that is raised takes none out of effect. -/
theorem raise_keeps' (a : Report) (s : State) : Keeps s (raise a s) := by
  unfold raise
  dsimp only
  split
  · exact .rfl' s
  split
  · split
    · exact giveWay_keeps' ..
    · refine Keeps.trans ?_ (abandonArrays_keeps' ..)
      refine Keeps.trans ?_ (removeNamed_keeps' ..)
      exact Keeps.trans (take_keeps' ..) (modPending_keeps' _ _ _ fun _ => ⟨rfl, rfl⟩)
  split
  · exact takeStop_keeps' ..
  · exact take_keeps' ..

theorem raise_active (a : Report) (s : State) {code src : Nat} (k : faultActive s code src = true) :
    faultActive (raise a s) code src = true := (raise_keeps' a s).act _ _ k

/-- A report whose takeover displaces another's is in effect. -/
theorem giveWay_inEffect (a : Report) (p : Pending) (s : State) (h : s.ctl.st ≠ .reset ∧ s.ctl.st ≠ .fuseSense)
    (hr : room s = true) (hk : (coreNamed s a.source).isSome = true)
    (hj : p.taker.isSome = true) : faultActive (giveWay a p s) a.code a.source = true := by
  unfold giveWay
  obtain ⟨k, ek⟩ := Option.isSome_iff_exists.1 hk
  obtain ⟨j, ej⟩ := Option.isSome_iff_exists.1 hj
  rw [ek, ej]
  dsimp only
  refine (abandonArrays_keeps' ..).act _ _ ((reactAtOnce_grows ..).keeps.act _ _ ((takeover_keeps' ..).act _ _ ?_))
  refine take_inEffect a false _ h ?_
  have e : (modPending (fun q => decide (q = p)) (fun q => { q with force4 := true, taker := none }) s).col.pending.length
      = s.col.pending.length := List.length_map _
  rw [room, e]
  exact hr

/-- A fault that is raised with room in the collector is in effect (R338, R339). -/
theorem raise_inEffect (a : Report) (s : State) (h : s.ctl.st ≠ .reset ∧ s.ctl.st ≠ .fuseSense)
    (hr : room s = true) : faultActive (raise a s) a.code a.source = true := by
  unfold raise
  dsimp only
  rw [if_neg (fun c => c.elim h.1 h.2)]
  split
  · split
    · next p e =>
      have n : needsL4 s a.source = true := by
        cases n : needsL4 s a.source
        · simp [n] at e
        · rfl
      rw [if_pos n] at e
      refine giveWay_inEffect a p s h hr ?_ ?_
      · unfold needsL4 at n
        split at n
        · next k => rw [k]; rfl
        · cases n
      · have q := List.find?_some e
        simp only [Bool.and_eq_true] at q
        exact q.1.1
    · refine (abandonArrays_keeps' ..).act _ _ ((removeNamed_keeps' ..).act _ _ ?_)
      refine Keeps.act (s := take a (needsL4 s a.source) s) ?_ _ _ (take_inEffect _ _ _ h hr)
      exact modPending_keeps' _ _ _ fun _ => ⟨rfl, rfl⟩
  split
  · exact (abandonArrays_keeps' ..).act _ _ (take_inEffect _ _ _ h hr)
  · exact take_inEffect _ _ _ h hr

/-! ### A condition that is gone -/

theorem coreBack_col (s : State) : (coreBack s).col = s.col := by simp only [coreBack]

/-- Records that keep their faults leave a condition gone. -/
theorem CondGone.same {code src : Nat} {t : State} {l : List Record} {g : Record → Record} (hg : SameFault g)
    (h : t.col.records = l.map g)
    (k : ∀ r ∈ l, r.uncleared = true → r.code = code → r.source = src → r.present = false) : CondGone code src t := by
  intro r m u c e
  rw [h] at m
  obtain ⟨x, mx, rfl⟩ := List.mem_map.1 m
  obtain ⟨g1, g2, g3, g4⟩ := hg x
  rw [g4]
  exact k x mx (g1 ▸ u) (g2 ▸ c) (g3 ▸ e)

/-- A change of records after which every picked one is no uncleared record with the condition, and after which none of
the others is either. -/
theorem updRecords_condGone (code src : Nat) (pick : Record → Bool) (f : Record → Record) (s : State)
    (hp : ∀ x ∈ s.col.records, pick x = true → (f x).uncleared = true → (f x).present = false)
    (hn : ∀ x ∈ s.col.records, pick x = false → x.uncleared = true → x.code = code → x.source = src →
      x.present = false) : CondGone code src (updRecords pick f s) := by
  obtain ⟨⟨g, hg, e⟩, -⟩ := updWith_records ledgerPut_grows pick f s
  refine CondGone.same hg e fun r m => ?_
  obtain ⟨x, mx, rfl⟩ := List.mem_map.1 m
  cases h : pick x
  · simpa [h] using hn x mx h
  · simpa [h] using fun u (_ : (f x).code = code) (_ : (f x).source = src) => hp x mx h u

/-- After the condition of a code at a source has gone, no uncleared record of the two shows it present (R346). -/
theorem gone_condGone (code src : Nat) (s : State) : CondGone code src (gone code src s) := by
  simp only [gone, clearRecords]
  split
  · have h1 : CondGone code src (updRecords (fun r => r.uncleared && r.present && decide (r.code = code)
        && decide (r.source = src)) (fun r => { r with present := false, read := false, goneAt := s.time.opNs }) s) :=
      updRecords_condGone _ _ _ _ _ (fun _ _ _ _ => rfl) (fun y _ h u c e => by simpa [u, c, e] using h)
    generalize updRecords _ _ s = v at h1 ⊢
    have h2 := updRecords_condGone code src (fun r => (decide (r.code = code) && decide (r.source = src)
        && decide (r.level ≤ 1)) && r.uncleared && !r.present && decide (r.level < 4)) (fun r => id { r with status := 1 }) v
      (fun x _ _ u => by simp [Record.uncleared] at u) (fun x m _ => h1 x m)
    intro r m
    rw [coreBack_col] at m
    exact h2 r m
  · next h =>
    intro r m u c e
    cases p : r.present
    · rfl
    · exact absurd (List.any_eq_true.2 ⟨r, m, by simp [u, c, e, p]⟩) h

/-- The same where the condition is taken away only if it is present. -/
theorem goneIf_condGone (code src : Nat) (s : State) : CondGone code src (goneIf code src s) := by
  simp only [goneIf]
  split
  · exact gone_condGone code src s
  · next h =>
    intro r m u c e
    cases p : r.present
    · rfl
    refine absurd (List.any_eq_true.2 ⟨⟨r.code, r.source, r.second, r.level, r.present⟩, ?_, by simp [c, e, p]⟩) h
    unfold actives
    exact List.mem_append_left _ (List.mem_map.2 ⟨r, List.mem_filter.2 ⟨m, u⟩, rfl⟩)

end Sys2Proof.Machine
end

