-- ==== Sys2Proof/Laws/Table.lean ====
section
/-! SUPPORT. The laws of sparse tables and byte memories: a read after a write, and that every write keeps the
canonical form. -/

namespace Sys2Proof.Machine

@[simp] theorem tget_nil {α : Type} (d : α) (i : Nat) : tget d [] i = d := rfl

variable {α : Type}

theorem tget_tins (d : α) (t : Table α) (i j : Nat) (v : α) :
    tget d (tins t i v) j = if j = i then v else tget d t j := by
  induction t with
  | nil => simp only [tins, tget, eq_comm]
  | cons p t ih =>
    obtain ⟨k, w⟩ := p
    by_cases hj : j = i
    · subst hj
      simp only [tins, if_pos]
      split
      · simp [tget]
      · split
        · simp [tget]
        · next h => rw [tget, if_neg (Ne.symm h), ih, if_pos rfl]
    · rw [if_neg hj] at ih ⊢
      simp only [tins]
      split
      · rw [tget, if_neg (Ne.symm hj)]
      · split
        · next h => subst h; rw [tget, tget, if_neg (Ne.symm hj), if_neg (Ne.symm hj)]
        · rw [tget, tget, ih]

theorem tget_erase (d : α) (t : Table α) (i j : Nat) :
    tget d (t.filter (fun p => p.1 ≠ i)) j = if j = i then d else tget d t j := by
  induction t with
  | nil => simp
  | cons p t ih =>
    obtain ⟨k, w⟩ := p
    by_cases h : k = i
    · subst h; simp only [ne_eq, not_true, decide_false, Bool.false_eq_true, not_false_eq_true, List.filter_cons_of_neg, ih, tget]
      split
      · rfl
      · rw [if_neg (by omega)]
    · simp only [ne_eq, h, not_false_eq_true, decide_true, List.filter_cons_of_pos, tget, ih]
      split
      · split
        · omega
        · rfl
      · rfl

variable [DecidableEq α]

/-- A read after a write. -/
theorem tget_tset (d : α) (t : Table α) (i j : Nat) (v : α) :
    tget d (tset d t i v) j = if j = i then v else tget d t j := by
  unfold tset
  split
  · next h => rw [tget_erase, h]
  · exact tget_tins d t i j v

@[simp] theorem tget_tset_self (d : α) (t : Table α) (i : Nat) (v : α) : tget d (tset d t i v) i = v := by
  rw [tget_tset, if_pos rfl]

/-- A read after a change. -/
theorem tget_tmod (d : α) (t : Table α) (i j : Nat) (f : α → α) :
    tget d (tmod d t i f) j = if j = i then f (tget d t i) else tget d t j := tget_tset d t i j _

@[simp] theorem tget_tmod_self (d : α) (t : Table α) (i : Nat) (f : α → α) :
    tget d (tmod d t i f) i = f (tget d t i) := by rw [tget_tmod, if_pos rfl]

/-! ### The canonical form -/

theorem tableFrom_mono (d : α) (t : Table α) {m n : Nat} (h : m ≤ n) (hn : tableFrom d n t = true) :
    tableFrom d m t = true := by
  cases t with
  | nil => rfl
  | cons p t =>
    obtain ⟨k, v⟩ := p
    simp only [tableFrom, Bool.and_eq_true, decide_eq_true_eq] at hn ⊢
    exact ⟨⟨by omega, hn.1.2⟩, hn.2⟩

theorem tableFrom_tins (d : α) (t : Table α) (n i : Nat) (v : α) (hv : v ≠ d) (hi : n ≤ i)
    (h : tableFrom d n t = true) : tableFrom d n (tins t i v) = true := by
  induction t generalizing n with
  | nil => simp [tins, tableFrom, hv, hi]
  | cons p t ih =>
    obtain ⟨k, w⟩ := p
    simp only [tableFrom, Bool.and_eq_true, decide_eq_true_eq] at h
    simp only [tins]
    split
    · simp only [tableFrom, Bool.and_eq_true, decide_eq_true_eq]
      exact ⟨⟨hi, hv⟩, ⟨by omega, h.1.2⟩, h.2⟩
    · split
      · next e =>
        subst e
        simp only [tableFrom, Bool.and_eq_true, decide_eq_true_eq]
        exact ⟨⟨hi, hv⟩, h.2⟩
      · simp only [tableFrom, Bool.and_eq_true, decide_eq_true_eq]
        exact ⟨h.1, ih _ (by omega) h.2⟩

theorem tableFrom_filter (d : α) (t : Table α) (n : Nat) (q : Nat × α → Bool) (h : tableFrom d n t = true) :
    tableFrom d n (t.filter q) = true := by
  induction t generalizing n with
  | nil => rfl
  | cons p t ih =>
    obtain ⟨k, w⟩ := p
    simp only [tableFrom, Bool.and_eq_true, decide_eq_true_eq] at h
    rw [List.filter_cons]
    split
    · simp only [tableFrom, Bool.and_eq_true, decide_eq_true_eq]
      exact ⟨h.1, ih _ h.2⟩
    · exact tableFrom_mono d _ (by omega) (ih _ h.2)

/-- A write keeps the canonical form. -/
theorem tableOk_tset (d : α) (t : Table α) (i : Nat) (v : α) (h : tableOk d t = true) :
    tableOk d (tset d t i v) = true := by
  unfold tset
  split
  · exact tableFrom_filter d t 0 _ h
  · next hv => exact tableFrom_tins d t 0 i v hv (Nat.zero_le _) h

/-- A change keeps the canonical form. -/
theorem tableOk_tmod (d : α) (t : Table α) (i : Nat) (f : α → α) (h : tableOk d t = true) :
    tableOk d (tmod d t i f) = true := tableOk_tset d t i _ h

/-! ### Memories -/

theorem rdByte_wrByte (m : Mem) (a b : Nat) (v : Byte) :
    rdByte (wrByte m a v) b = if b = a then v else rdByte m b := tget_tset 0 m a b v

theorem wrByte_wf (m : Mem) (a : Nat) (v : Byte) (h : Memory.wf m = true) : Memory.wf (wrByte m a v) = true :=
  tableOk_tset 0 m a v h

theorem wrBytes_wf (bs : List Byte) (m : Mem) (a : Nat) (h : Memory.wf m = true) :
    Memory.wf (wrBytes m a bs) = true := by
  induction bs generalizing m a with
  | nil => exact h
  | cons b bs ih => exact ih _ _ (wrByte_wf m a b h)

theorem wrWord_wf (m : Mem) (a : Nat) (w : Word) (h : Memory.wf m = true) : Memory.wf (wrWord m a w) = true :=
  wrBytes_wf _ m a h

/-- A write of bytes leaves every other byte. -/
theorem rdByte_wrBytes_other (bs : List Byte) (m : Mem) (a b : Nat) (h : b < a ∨ a + bs.length ≤ b) :
    rdByte (wrBytes m a bs) b = rdByte m b := by
  induction bs generalizing m a with
  | nil => rfl
  | cons v bs ih =>
    simp only [List.length_cons] at h
    rw [wrBytes, ih _ _ (by omega), rdByte_wrByte, if_neg (by omega)]

/-- A write of bytes is read back. -/
theorem rdByte_wrBytes_at (bs : List Byte) (m : Mem) (a n : Nat) (h : n < bs.length) :
    rdByte (wrBytes m a bs) (a + n) = bs[n] := by
  induction bs generalizing m a n with
  | nil => simp at h
  | cons v bs ih =>
    cases n with
    | zero => rw [wrBytes, rdByte_wrBytes_other _ _ _ _ (by omega), Nat.add_zero, rdByte_wrByte, if_pos rfl]; rfl
    | succ n =>
      have := ih (wrByte m a v) (a + 1) n (by simpa using h)
      rw [wrBytes, show a + (n + 1) = a + 1 + n by omega, this]; rfl

theorem reset_memories_wf :
    Memory.wf State.reset.proc.image = true ∧ Memory.wf State.reset.dict.staging.bytes = true := ⟨rfl, rfl⟩

end Sys2Proof.Machine
end

