-- ==== Sys2Proof/Laws/Lane.lean ====
section
/-! SUPPORT. The laws of the processor lane: reads of cores, sets and partitions after their changes, registers
after a write, and what one instruction, a trap and an ALU operation do. -/

namespace Sys2Proof.Machine

/-! ### Reads after changes -/

theorem core_modCore (k j : Nat) (f : CoreSt → CoreSt) (s : State) :
    core (modCore k f s) j = if j = k then f (core s k) else core s j := tget_tmod _ _ _ _ _

@[simp] theorem core_modCore_self (k : Nat) (f : CoreSt → CoreSt) (s : State) :
    core (modCore k f s) k = f (core s k) := by rw [core_modCore, if_pos rfl]

theorem tcm_modTcm (i j : Nat) (f : Tcm → Tcm) (s : State) :
    tcm (modTcm i f s) j = if j = i then f (tcm s i) else tcm s j := tget_tmod _ _ _ _ _

@[simp] theorem tcm_modTcm_self (i : Nat) (f : Tcm → Tcm) (s : State) :
    tcm (modTcm i f s) i = f (tcm s i) := by rw [tcm_modTcm, if_pos rfl]

theorem part_modPart (p q : Nat) (f : PartSt → PartSt) (s : State) :
    part (modPart p f s) q = if q = p then f (part s p) else part s q := tget_tmod _ _ _ _ _

@[simp] theorem part_modPart_self (p : Nat) (f : PartSt → PartSt) (s : State) :
    part (modPart p f s) p = f (part s p) := by rw [part_modPart, if_pos rfl]

@[simp] theorem core_modTcm (i k : Nat) (f : Tcm → Tcm) (s : State) : core (modTcm i f s) k = core s k := rfl
@[simp] theorem core_modPart (p k : Nat) (f : PartSt → PartSt) (s : State) : core (modPart p f s) k = core s k := rfl
@[simp] theorem tcm_modCore (i k : Nat) (f : CoreSt → CoreSt) (s : State) : tcm (modCore k f s) i = tcm s i := rfl
@[simp] theorem tcm_modPart (i p : Nat) (f : PartSt → PartSt) (s : State) : tcm (modPart p f s) i = tcm s i := rfl
@[simp] theorem part_modCore (p k : Nat) (f : CoreSt → CoreSt) (s : State) : part (modCore k f s) p = part s p := rfl
@[simp] theorem part_modTcm (p i : Nat) (f : Tcm → Tcm) (s : State) : part (modTcm i f s) p = part s p := rfl

/-! ### Registers -/

theorem Ctx.get_set (c : Ctx) (rd r : BitVec 5) (v : Word) :
    (c.set rd v).get r = if r = rd ∧ rd ≠ 0 then v else c.get r := by
  by_cases h : rd = 0
  · rw [Ctx.set, if_pos h, if_neg (fun e => e.2 h)]
  · rw [Ctx.set, if_neg h]
    by_cases hr : r = rd
    · subst hr
      rw [Ctx.get, if_neg h, if_pos ⟨rfl, h⟩]
      exact tget_tset_self _ _ _ _
    · rw [if_neg (fun e => hr e.1)]
      have hn : r.toNat ≠ rd.toNat := fun e => hr (BitVec.eq_of_toNat_eq e)
      simp only [Ctx.get, tget_tset, if_neg hn]

@[simp] theorem Ctx.set_pc (c : Ctx) (rd : BitVec 5) (v : Word) : (c.set rd v).pc = c.pc := by
  unfold Ctx.set; split <;> rfl
@[simp] theorem Ctx.set_csrs (c : Ctx) (rd : BitVec 5) (v : Word) : (c.set rd v).csrs = c.csrs := by
  unfold Ctx.set; split <;> rfl

end Sys2Proof.Machine
end

