-- ==== Sys2Proof/Laws/State.lean ====
section
/-! SUPPORT. The laws of the updates of State: what a field reads after each update of a table of the state, at the
element that was changed, at another element and in the tables beside it; and the whole parts that the other updates
write. Later proofs need no unfolding of a record update. What an update leaves of the other parts is in Frames. -/

namespace Sys2Proof.Machine

/-! ### A read after an update of the same table -/

theorem input_modInput (i j : Nat) (g : InputSt → InputSt) (s : State) :
    input (modInput i g s) j = if j = i then g (input s i) else input s j := by
  simp only [input, modInput, tget_tmod]
@[simp] theorem input_modInput_self (i : Nat) (g : InputSt → InputSt) (s : State) : input (modInput i g s) i = g (input s i) := by
  rw [input_modInput, if_pos rfl]
theorem input_modInput_other (i j : Nat) (g : InputSt → InputSt) (s : State) (h : j ≠ i) : input (modInput i g s) j = input s j := by
  rw [input_modInput, if_neg h]
theorem source_modSource (i j : Nat) (g : SourceSt → SourceSt) (s : State) :
    source (modSource i g s) j = if j = i then g (source s i) else source s j := by
  simp only [source, modSource, tget_tmod]
@[simp] theorem source_modSource_self (i : Nat) (g : SourceSt → SourceSt) (s : State) : source (modSource i g s) i = g (source s i) := by
  rw [source_modSource, if_pos rfl]
theorem source_modSource_other (i j : Nat) (g : SourceSt → SourceSt) (s : State) (h : j ≠ i) : source (modSource i g s) j = source s j := by
  rw [source_modSource, if_neg h]
theorem siteIn_modSiteIn (i j : Nat) (g : SiteIn → SiteIn) (s : State) :
    siteIn (modSiteIn i g s) j = if j = i then g (siteIn s i) else siteIn s j := by
  simp only [siteIn, modSiteIn, tget_tmod]
@[simp] theorem siteIn_modSiteIn_self (i : Nat) (g : SiteIn → SiteIn) (s : State) : siteIn (modSiteIn i g s) i = g (siteIn s i) := by
  rw [siteIn_modSiteIn, if_pos rfl]
theorem siteIn_modSiteIn_other (i j : Nat) (g : SiteIn → SiteIn) (s : State) (h : j ≠ i) : siteIn (modSiteIn i g s) j = siteIn s j := by
  rw [siteIn_modSiteIn, if_neg h]
theorem pair_modPair (i j : Nat) (g : PairSt → PairSt) (s : State) :
    pair (modPair i g s) j = if j = i then g (pair s i) else pair s j := by
  simp only [pair, modPair, tget_tmod]
@[simp] theorem pair_modPair_self (i : Nat) (g : PairSt → PairSt) (s : State) : pair (modPair i g s) i = g (pair s i) := by
  rw [pair_modPair, if_pos rfl]
theorem pair_modPair_other (i j : Nat) (g : PairSt → PairSt) (s : State) (h : j ≠ i) : pair (modPair i g s) j = pair s j := by
  rw [pair_modPair, if_neg h]
theorem fba_modFba (i j : Nat) (g : Fba → Fba) (s : State) :
    fba (modFba i g s) j = if j = i then g (fba s i) else fba s j := by
  simp only [fba, modFba, tget_tmod]
@[simp] theorem fba_modFba_self (i : Nat) (g : Fba → Fba) (s : State) : fba (modFba i g s) i = g (fba s i) := by
  rw [fba_modFba, if_pos rfl]
theorem fba_modFba_other (i j : Nat) (g : Fba → Fba) (s : State) (h : j ≠ i) : fba (modFba i g s) j = fba s j := by
  rw [fba_modFba, if_neg h]
theorem island_modIsland (i j : Nat) (g : Island → Island) (s : State) :
    island (modIsland i g s) j = if j = i then g (island s i) else island s j := by
  simp only [island, modIsland, tget_tmod]
@[simp] theorem island_modIsland_self (i : Nat) (g : Island → Island) (s : State) : island (modIsland i g s) i = g (island s i) := by
  rw [island_modIsland, if_pos rfl]
theorem island_modIsland_other (i j : Nat) (g : Island → Island) (s : State) (h : j ≠ i) : island (modIsland i g s) j = island s j := by
  rw [island_modIsland, if_neg h]
theorem brake_modBrake (i j : Nat) (g : BrakeSt → BrakeSt) (s : State) :
    brake (modBrake i g s) j = if j = i then g (brake s i) else brake s j := by
  simp only [brake, modBrake, tget_tmod]
@[simp] theorem brake_modBrake_self (i : Nat) (g : BrakeSt → BrakeSt) (s : State) : brake (modBrake i g s) i = g (brake s i) := by
  rw [brake_modBrake, if_pos rfl]
theorem brake_modBrake_other (i j : Nat) (g : BrakeSt → BrakeSt) (s : State) (h : j ≠ i) : brake (modBrake i g s) j = brake s j := by
  rw [brake_modBrake, if_neg h]
theorem item_modItem (i j : Nat) (g : Item → Item) (s : State) :
    item (modItem i g s) j = if j = i then g (item s i) else item s j := by
  simp only [item, modItem, tget_tmod]
@[simp] theorem item_modItem_self (i : Nat) (g : Item → Item) (s : State) : item (modItem i g s) i = g (item s i) := by
  rw [item_modItem, if_pos rfl]
theorem item_modItem_other (i j : Nat) (g : Item → Item) (s : State) (h : j ≠ i) : item (modItem i g s) j = item s j := by
  rw [item_modItem, if_neg h]
theorem ethPort_modPort (i j : Nat) (g : EthPort → EthPort) (s : State) :
    ethPort (modPort i g s) j = if j = i then g (ethPort s i) else ethPort s j := by
  simp only [ethPort, modPort, tget_tmod]
@[simp] theorem ethPort_modPort_self (i : Nat) (g : EthPort → EthPort) (s : State) : ethPort (modPort i g s) i = g (ethPort s i) := by
  rw [ethPort_modPort, if_pos rfl]
theorem ethPort_modPort_other (i j : Nat) (g : EthPort → EthPort) (s : State) (h : j ≠ i) : ethPort (modPort i g s) j = ethPort s j := by
  rw [ethPort_modPort, if_neg h]
theorem switch_modSwitch (i j : Nat) (g : Switch → Switch) (s : State) :
    switch (modSwitch i g s) j = if j = i then g (switch s i) else switch s j := by
  simp only [switch, modSwitch, tget_tmod]
@[simp] theorem switch_modSwitch_self (i : Nat) (g : Switch → Switch) (s : State) : switch (modSwitch i g s) i = g (switch s i) := by
  rw [switch_modSwitch, if_pos rfl]
theorem switch_modSwitch_other (i j : Nat) (g : Switch → Switch) (s : State) (h : j ≠ i) : switch (modSwitch i g s) j = switch s j := by
  rw [switch_modSwitch, if_neg h]
theorem canPort_modCan (i j : Nat) (g : CanPort → CanPort) (s : State) :
    canPort (modCan i g s) j = if j = i then g (canPort s i) else canPort s j := by
  simp only [canPort, modCan, tget_tmod]
@[simp] theorem canPort_modCan_self (i : Nat) (g : CanPort → CanPort) (s : State) : canPort (modCan i g s) i = g (canPort s i) := by
  rw [canPort_modCan, if_pos rfl]
theorem canPort_modCan_other (i j : Nat) (g : CanPort → CanPort) (s : State) (h : j ≠ i) : canPort (modCan i g s) j = canPort s j := by
  rw [canPort_modCan, if_neg h]
theorem link_modLink (i j : Nat) (g : LinkSt → LinkSt) (s : State) :
    link (modLink i g s) j = if j = i then g (link s i) else link s j := by
  simp only [link, modLink, tget_tmod]
@[simp] theorem link_modLink_self (i : Nat) (g : LinkSt → LinkSt) (s : State) : link (modLink i g s) i = g (link s i) := by
  rw [link_modLink, if_pos rfl]
theorem link_modLink_other (i j : Nat) (g : LinkSt → LinkSt) (s : State) (h : j ≠ i) : link (modLink i g s) j = link s j := by
  rw [link_modLink, if_neg h]
theorem conn_modConn (i j : Nat) (g : Conn → Conn) (s : State) :
    conn (modConn i g s) j = if j = i then g (conn s i) else conn s j := by
  simp only [conn, modConn, tget_tmod]
@[simp] theorem conn_modConn_self (i : Nat) (g : Conn → Conn) (s : State) : conn (modConn i g s) i = g (conn s i) := by
  rw [conn_modConn, if_pos rfl]
theorem conn_modConn_other (i j : Nat) (g : Conn → Conn) (s : State) (h : j ≠ i) : conn (modConn i g s) j = conn s j := by
  rw [conn_modConn, if_neg h]
theorem spi_modSpi (i j : Nat) (g : Spi → Spi) (s : State) :
    spi (modSpi i g s) j = if j = i then g (spi s i) else spi s j := by
  simp only [spi, modSpi, tget_tmod]
@[simp] theorem spi_modSpi_self (i : Nat) (g : Spi → Spi) (s : State) : spi (modSpi i g s) i = g (spi s i) := by
  rw [spi_modSpi, if_pos rfl]
theorem spi_modSpi_other (i j : Nat) (g : Spi → Spi) (s : State) (h : j ≠ i) : spi (modSpi i g s) j = spi s j := by
  rw [spi_modSpi, if_neg h]
theorem uart_modUart (i j : Nat) (g : Uart → Uart) (s : State) :
    uart (modUart i g s) j = if j = i then g (uart s i) else uart s j := by
  simp only [uart, modUart, tget_tmod]
@[simp] theorem uart_modUart_self (i : Nat) (g : Uart → Uart) (s : State) : uart (modUart i g s) i = g (uart s i) := by
  rw [uart_modUart, if_pos rfl]
theorem uart_modUart_other (i j : Nat) (g : Uart → Uart) (s : State) (h : j ≠ i) : uart (modUart i g s) j = uart s j := by
  rw [uart_modUart, if_neg h]
theorem sensor_modSensor (i j : Nat) (g : Sensor → Sensor) (s : State) :
    sensor (modSensor i g s) j = if j = i then g (sensor s i) else sensor s j := by
  simp only [sensor, modSensor, tget_tmod]
@[simp] theorem sensor_modSensor_self (i : Nat) (g : Sensor → Sensor) (s : State) : sensor (modSensor i g s) i = g (sensor s i) := by
  rw [sensor_modSensor, if_pos rfl]
theorem sensor_modSensor_other (i j : Nat) (g : Sensor → Sensor) (s : State) (h : j ≠ i) : sensor (modSensor i g s) j = sensor s j := by
  rw [sensor_modSensor, if_neg h]

/-! ### A read after an update of a table beside it -/

@[simp] theorem input_modSource (i j : Nat) (g : SourceSt → SourceSt) (s : State) : input (modSource i g s) j = input s j := rfl
@[simp] theorem input_modSiteIn (i j : Nat) (g : SiteIn → SiteIn) (s : State) : input (modSiteIn i g s) j = input s j := rfl
@[simp] theorem source_modInput (i j : Nat) (g : InputSt → InputSt) (s : State) : source (modInput i g s) j = source s j := rfl
@[simp] theorem source_modSiteIn (i j : Nat) (g : SiteIn → SiteIn) (s : State) : source (modSiteIn i g s) j = source s j := rfl
@[simp] theorem siteIn_modInput (i j : Nat) (g : InputSt → InputSt) (s : State) : siteIn (modInput i g s) j = siteIn s j := rfl
@[simp] theorem siteIn_modSource (i j : Nat) (g : SourceSt → SourceSt) (s : State) : siteIn (modSource i g s) j = siteIn s j := rfl
@[simp] theorem fba_modIsland (i j : Nat) (g : Island → Island) (s : State) : fba (modIsland i g s) j = fba s j := rfl
@[simp] theorem island_modFba (i j : Nat) (g : Fba → Fba) (s : State) : island (modFba i g s) j = island s j := rfl
@[simp] theorem ethPort_modSwitch (i j : Nat) (g : Switch → Switch) (s : State) : ethPort (modSwitch i g s) j = ethPort s j := rfl
@[simp] theorem ethPort_modCan (i j : Nat) (g : CanPort → CanPort) (s : State) : ethPort (modCan i g s) j = ethPort s j := rfl
@[simp] theorem ethPort_modLink (i j : Nat) (g : LinkSt → LinkSt) (s : State) : ethPort (modLink i g s) j = ethPort s j := rfl
@[simp] theorem ethPort_modConn (i j : Nat) (g : Conn → Conn) (s : State) : ethPort (modConn i g s) j = ethPort s j := rfl
@[simp] theorem ethPort_modSpi (i j : Nat) (g : Spi → Spi) (s : State) : ethPort (modSpi i g s) j = ethPort s j := rfl
@[simp] theorem ethPort_modUart (i j : Nat) (g : Uart → Uart) (s : State) : ethPort (modUart i g s) j = ethPort s j := rfl
@[simp] theorem ethPort_modSensor (i j : Nat) (g : Sensor → Sensor) (s : State) : ethPort (modSensor i g s) j = ethPort s j := rfl
@[simp] theorem switch_modPort (i j : Nat) (g : EthPort → EthPort) (s : State) : switch (modPort i g s) j = switch s j := rfl
@[simp] theorem switch_modCan (i j : Nat) (g : CanPort → CanPort) (s : State) : switch (modCan i g s) j = switch s j := rfl
@[simp] theorem switch_modLink (i j : Nat) (g : LinkSt → LinkSt) (s : State) : switch (modLink i g s) j = switch s j := rfl
@[simp] theorem switch_modConn (i j : Nat) (g : Conn → Conn) (s : State) : switch (modConn i g s) j = switch s j := rfl
@[simp] theorem switch_modSpi (i j : Nat) (g : Spi → Spi) (s : State) : switch (modSpi i g s) j = switch s j := rfl
@[simp] theorem switch_modUart (i j : Nat) (g : Uart → Uart) (s : State) : switch (modUart i g s) j = switch s j := rfl
@[simp] theorem switch_modSensor (i j : Nat) (g : Sensor → Sensor) (s : State) : switch (modSensor i g s) j = switch s j := rfl
@[simp] theorem canPort_modPort (i j : Nat) (g : EthPort → EthPort) (s : State) : canPort (modPort i g s) j = canPort s j := rfl
@[simp] theorem canPort_modSwitch (i j : Nat) (g : Switch → Switch) (s : State) : canPort (modSwitch i g s) j = canPort s j := rfl
@[simp] theorem canPort_modLink (i j : Nat) (g : LinkSt → LinkSt) (s : State) : canPort (modLink i g s) j = canPort s j := rfl
@[simp] theorem canPort_modConn (i j : Nat) (g : Conn → Conn) (s : State) : canPort (modConn i g s) j = canPort s j := rfl
@[simp] theorem canPort_modSpi (i j : Nat) (g : Spi → Spi) (s : State) : canPort (modSpi i g s) j = canPort s j := rfl
@[simp] theorem canPort_modUart (i j : Nat) (g : Uart → Uart) (s : State) : canPort (modUart i g s) j = canPort s j := rfl
@[simp] theorem canPort_modSensor (i j : Nat) (g : Sensor → Sensor) (s : State) : canPort (modSensor i g s) j = canPort s j := rfl
@[simp] theorem link_modPort (i j : Nat) (g : EthPort → EthPort) (s : State) : link (modPort i g s) j = link s j := rfl
@[simp] theorem link_modSwitch (i j : Nat) (g : Switch → Switch) (s : State) : link (modSwitch i g s) j = link s j := rfl
@[simp] theorem link_modCan (i j : Nat) (g : CanPort → CanPort) (s : State) : link (modCan i g s) j = link s j := rfl
@[simp] theorem link_modConn (i j : Nat) (g : Conn → Conn) (s : State) : link (modConn i g s) j = link s j := rfl
@[simp] theorem link_modSpi (i j : Nat) (g : Spi → Spi) (s : State) : link (modSpi i g s) j = link s j := rfl
@[simp] theorem link_modUart (i j : Nat) (g : Uart → Uart) (s : State) : link (modUart i g s) j = link s j := rfl
@[simp] theorem link_modSensor (i j : Nat) (g : Sensor → Sensor) (s : State) : link (modSensor i g s) j = link s j := rfl
@[simp] theorem conn_modPort (i j : Nat) (g : EthPort → EthPort) (s : State) : conn (modPort i g s) j = conn s j := rfl
@[simp] theorem conn_modSwitch (i j : Nat) (g : Switch → Switch) (s : State) : conn (modSwitch i g s) j = conn s j := rfl
@[simp] theorem conn_modCan (i j : Nat) (g : CanPort → CanPort) (s : State) : conn (modCan i g s) j = conn s j := rfl
@[simp] theorem conn_modLink (i j : Nat) (g : LinkSt → LinkSt) (s : State) : conn (modLink i g s) j = conn s j := rfl
@[simp] theorem conn_modSpi (i j : Nat) (g : Spi → Spi) (s : State) : conn (modSpi i g s) j = conn s j := rfl
@[simp] theorem conn_modUart (i j : Nat) (g : Uart → Uart) (s : State) : conn (modUart i g s) j = conn s j := rfl
@[simp] theorem conn_modSensor (i j : Nat) (g : Sensor → Sensor) (s : State) : conn (modSensor i g s) j = conn s j := rfl
@[simp] theorem spi_modPort (i j : Nat) (g : EthPort → EthPort) (s : State) : spi (modPort i g s) j = spi s j := rfl
@[simp] theorem spi_modSwitch (i j : Nat) (g : Switch → Switch) (s : State) : spi (modSwitch i g s) j = spi s j := rfl
@[simp] theorem spi_modCan (i j : Nat) (g : CanPort → CanPort) (s : State) : spi (modCan i g s) j = spi s j := rfl
@[simp] theorem spi_modLink (i j : Nat) (g : LinkSt → LinkSt) (s : State) : spi (modLink i g s) j = spi s j := rfl
@[simp] theorem spi_modConn (i j : Nat) (g : Conn → Conn) (s : State) : spi (modConn i g s) j = spi s j := rfl
@[simp] theorem spi_modUart (i j : Nat) (g : Uart → Uart) (s : State) : spi (modUart i g s) j = spi s j := rfl
@[simp] theorem spi_modSensor (i j : Nat) (g : Sensor → Sensor) (s : State) : spi (modSensor i g s) j = spi s j := rfl
@[simp] theorem uart_modPort (i j : Nat) (g : EthPort → EthPort) (s : State) : uart (modPort i g s) j = uart s j := rfl
@[simp] theorem uart_modSwitch (i j : Nat) (g : Switch → Switch) (s : State) : uart (modSwitch i g s) j = uart s j := rfl
@[simp] theorem uart_modCan (i j : Nat) (g : CanPort → CanPort) (s : State) : uart (modCan i g s) j = uart s j := rfl
@[simp] theorem uart_modLink (i j : Nat) (g : LinkSt → LinkSt) (s : State) : uart (modLink i g s) j = uart s j := rfl
@[simp] theorem uart_modConn (i j : Nat) (g : Conn → Conn) (s : State) : uart (modConn i g s) j = uart s j := rfl
@[simp] theorem uart_modSpi (i j : Nat) (g : Spi → Spi) (s : State) : uart (modSpi i g s) j = uart s j := rfl
@[simp] theorem uart_modSensor (i j : Nat) (g : Sensor → Sensor) (s : State) : uart (modSensor i g s) j = uart s j := rfl
@[simp] theorem sensor_modPort (i j : Nat) (g : EthPort → EthPort) (s : State) : sensor (modPort i g s) j = sensor s j := rfl
@[simp] theorem sensor_modSwitch (i j : Nat) (g : Switch → Switch) (s : State) : sensor (modSwitch i g s) j = sensor s j := rfl
@[simp] theorem sensor_modCan (i j : Nat) (g : CanPort → CanPort) (s : State) : sensor (modCan i g s) j = sensor s j := rfl
@[simp] theorem sensor_modLink (i j : Nat) (g : LinkSt → LinkSt) (s : State) : sensor (modLink i g s) j = sensor s j := rfl
@[simp] theorem sensor_modConn (i j : Nat) (g : Conn → Conn) (s : State) : sensor (modConn i g s) j = sensor s j := rfl
@[simp] theorem sensor_modSpi (i j : Nat) (g : Spi → Spi) (s : State) : sensor (modSpi i g s) j = sensor s j := rfl
@[simp] theorem sensor_modUart (i j : Nat) (g : Uart → Uart) (s : State) : sensor (modUart i g s) j = sensor s j := rfl

/-! ### The parts that the other updates write -/

@[simp] theorem modTime_time (g : Time → Time) (s : State) : (modTime g s).time = g s.time := rfl
@[simp] theorem modPower_power (g : Power → Power) (s : State) : (modPower g s).power = g s.power := rfl
@[simp] theorem modLed_led (g : Ledger → Ledger) (s : State) : (modLed g s).led = g s.led := rfl
@[simp] theorem modSession_session (g : Session → Session) (s : State) :
    (modSession g s).dict.session = g s.dict.session := rfl
@[simp] theorem modSession_staging (g : Session → Session) (s : State) :
    (modSession g s).dict.staging = s.dict.staging := rfl
@[simp] theorem modStaging_staging (g : Staging → Staging) (s : State) :
    (modStaging g s).dict.staging = g s.dict.staging := rfl
@[simp] theorem modStaging_session (g : Staging → Staging) (s : State) :
    (modStaging g s).dict.session = s.dict.session := rfl
@[simp] theorem modHspi_hspi (g : Hspi → Hspi) (s : State) : (modHspi g s).dict.hspi = g s.dict.hspi := rfl
@[simp] theorem modPairing_pairing (g : Pairing → Pairing) (s : State) :
    (modPairing g s).net.pairing = g s.net.pairing := rfl
@[simp] theorem setSubs_subs (l : List (Nat × Subscription)) (s : State) : (setSubs l s).dict.subs = l := rfl
@[simp] theorem sdo_setSdo_self (n : Nat) (x : Sdo) (s : State) : sdo (setSdo n x s) n = x := by
  simp only [sdo, setSdo, tget_tset_self]
theorem sdo_setSdo_other (n m : Nat) (x : Sdo) (s : State) (h : m ≠ n) : sdo (setSdo n x s) m = sdo s m := by
  unfold sdo setSdo; rw [tget_tset, if_neg h]
@[simp] theorem supply_setSupply_self (v st mv : Nat) (s : State) :
    supply (setSupply v st mv s) v = { status := st, mv := min mv 45000 } := by
  simp only [supply, setSupply, tget_tset_self]
@[simp] theorem draw_fst (s : State) : (draw s).1 = s.draws := rfl
@[simp] theorem draw_draws (s : State) : (draw s).2.draws = s.draws + 1 := rfl
@[simp] theorem Time.run_now (d : Nat) (t : Time) : (t.run d).now = t.now + d := rfl
@[simp] theorem advance_now (t : Nat) (s : State) : (advance t s).time.now = max s.time.now t := by
  simp only [advance, Time.run_now]; omega
@[simp] theorem advance_opNs (t : Nat) (s : State) : (advance t s).time.opNs = s.time.opNs + s.ctl.st.operating (t - s.time.now) := rfl
@[simp] theorem reply_abort (r : Requester) (c : Nat) (d : List Byte) (s : State) :
    (tget {} (reply r c d s).dict.replies r.code).abort = c := by unfold reply; rw [tget_tset_self]

/-! ### The lanes of an input and of an entry, and the elements -/

@[simp] theorem pairLane_modLane_self (l : Lane) (e : Nat) (g : PairLane → PairLane) (s : State) :
    pairLane (modLane l e g s) l e = g (pairLane s l e) := by
  cases l <;> simp [pairLane, modLane]
@[simp] theorem pairLane_modLane_other (l : Lane) (e : Nat) (g : PairLane → PairLane) (s : State) :
    pairLane (modLane l e g s) l.other e = pairLane s l.other e := by
  cases l <;> simp [pairLane, modLane, Lane.other]
@[simp] theorem laneIn_setLane_self (l : Lane) (i : Nat) (x : LaneIn) (s : State) :
    laneIn (modInput i (InputSt.setLane l x) s) l i = x := by
  cases l <;> simp [laneIn, InputSt.setLane]
@[simp] theorem learn_modLearn_self (el : Nat) (g : Learn → Learn) (s : State) :
    learn (modLearn el g s) el = g (learn s el) := by
  simp [learn, modLearn]
@[simp] theorem brakeLearn_modBrakeLearn_self (el : Nat) (g : BrakeLearn → BrakeLearn) (s : State) :
    brakeLearn (modBrakeLearn el g s) el = g (brakeLearn s el) := by
  simp [brakeLearn, modBrakeLearn]
@[simp] theorem modAlign_align (f : Nat) (g : Align → Align) (s : State) :
    (modAlign f g s).power.align = tmod {} s.power.align f g := rfl
@[simp] theorem modPending_records (pick : Pending → Bool) (f : Pending → Pending) (s : State) :
    (modPending pick f s).col.records = s.col.records := rfl
@[simp] theorem elem_modElem_self (el : Nat) (g : OutSt → OutSt) (s : State) :
    elem (modElem el g s) el = g (elem s el) := by
  unfold elem modElem
  split
  · simp
  · simp only [tget_tmod_self]

end Sys2Proof.Machine
end

