-- ==== Sys2Proof/WellFormed.lean ====
section
/-! DEFINITION. Which commands name something that a Renkan of some variant could have: sites 0 to 6, the
elements of a site by their offset in Table FC-2, cores 0 to 3, table numbers, ports, links and
connections. The meanings do not rest on it: a command about something that does not exist changes
nothing. -/

namespace Sys2Proof

/-- A site number (R3). -/
def okSite (f : Nat) : Bool := decide (f < 7)
/-- An element of a site whose offset lies in a range. -/
def okElem (lo hi src : Nat) : Bool := decide (src / 256 < 7) && decide (lo ≤ src % 256) && decide (src % 256 < hi)
/-- An input (Table FC-2). -/
def okInput (src : Nat) : Bool := okElem 0x00 0x20 src
/-- A test-pulse source. -/
def okSource (src : Nat) : Bool := okElem 0x20 0x28 src
/-- An output. -/
def okOutput (src : Nat) : Bool := okElem 0x40 0x50 src
/-- A return. -/
def okReturn (src : Nat) : Bool := okElem 0x50 0x58 src
/-- A brake. -/
def okBrake (src : Nat) : Bool := okElem 0x60 0x62 src
/-- A group supply. -/
def okSupply (src : Nat) : Bool := okElem 0x70 0x73 src
/-- A pair-table entry (R184). -/
def okEntry (e : Nat) : Bool := decide (1 ≤ e) && decide (e ≤ 255)
/-- A core (R286). -/
def okCore (k : Nat) : Bool := decide (k < 4)
/-- A requester: a transport code of Table AR-9. -/
def okReq (r : Requester) : Bool := decide (1 ≤ r.code) && decide (r.code ≤ 4)

/-- Whether a command is well formed. -/
def Instr.wf : Instr → Bool
  | .vfldLTrip f _ | .vfldLTripEnd f _ | .fDieOvertemperature f _ | .enableFrame f _ _ _ _ _ | .enableFrameTimeout f
  | .curfewStopDetected f _ | .statusLinkFrame f _ _ _ _ | .fEscapementResponse f _ _ | .fEscapementMissed f
  | .readbackUpdate f _ _ | .readbackCalibration f _ | .evaluationWindow f _ _ _ | .windowOverrun f
  | .islandStatusInvalid f | .arrayBistStart f | .arrayBistEnd f _ _ _ | .groupCurrentMean f _ _
  | .alignmentFrame f _ _ _ => okSite f
  | .segmentThirdFailure d s => okSite d && okSite s
  | .sharedSignalSegment d s _ _ _ => okSite d && okSite s
  | .nextEventRead r f => okReq r && okSite f
  | .filteredChange f i _ _ | .ossdOff f i _ _ | .inputOvervoltage f i | .laneInputDisagreement f i
  | .plausibilityFault f i _ | .transitionRegionFault f i | .rawStateChange f i _ _ _ =>
    okInput i && decide (i / 256 = f)
  | .testPulseStart f j _ | .testPulseEvaluation f j _ | .sourceCurrentLimit f j | .sourceRetry f j
  | .sourceRetryConditionGone f j => okSource j && decide (j / 256 = f)
  | .pairLaneDisagreement e | .discrepancyDeadline e _ | .samplingStartHoldEnd e _ _ | .resetPressOverlong e _
  | .resetButtonStuck e | .resetStuckLift e => okEntry e
  | .blockTimerExpiry f n _ | .edmTimeout f n _ | .brakePullInElapsed f n _ => okSite f && decide (n < 512)
  | .outputCurrentLimit f q | .externalFeed f q _ | .externalFeedGone f q _
  | .lightTestStart f q _ | .lightTestEvaluation f q _ => okOutput q && decide (q / 256 = f)
  | .pmCurrentMismatch f ⟨q, _, _⟩ | .minimumLoad f ⟨q, _⟩ => okOutput q && decide (q / 256 = f)
  | .returnCurrentLimit f m => okReturn m && decide (m / 256 = f)
  | .groupSupplyWarning f v _ | .groupSupplyUndervoltage f v _ | .groupSupplyOvervoltage f v _
  | .groupSupplyPresent f v _ | .groupSupplyWarningClear f v _ => okSupply v && decide (v / 256 = f)
  | .coilOpen f b | .coilOvercurrent f b _ | .holdingCurrentFault f b _ | .signatureDecision f b _
  | .mechanicalTestPhaseEnd f b | .mechanicalTestOverdue f b => okBrake b && decide (b / 256 = f)
  | .darkTestStart e _ | .darkTestEvaluation e _ | .calibration e _ | .calibrationOverdue e
  | .laneAgreementTimeout e => okOutput e || okReturn e || okBrake e
  | .add k _ _ _ | .sub k _ _ _ _ | .and k _ _ _ _ | .or k _ _ _ _ | .xor k _ _ _ _ | .sll k _ _ _ _
  | .srl k _ _ _ _ | .sra k _ _ _ _ | .slt k _ _ _ _ _ | .branch k _ _ _ _ _ | .multiply k _ _ _ _
  | .divide k _ _ _ _ | .remainder k _ _ _ _ | .load k _ _ _ _ _ _ | .store k _ _ _ _ _ | .csrAccess k _ _ _ _
  | .fence k | .fenceI k | .ecall k | .ebreak k _ | .checkpoint k _ | .busMismatch k _ | .skewParityError k _
  | .comparatorRailFault k | .coreBistComplete k _ | .jump k _ _ _ | .lui k _ _ _ | .illegalInstruction k _
  | .rollbackWindowExpiry k => okCore k
  | .plannedHandover p | .escapementWindowMissed p => decide (p < 3)
  | .itemEligible n | .testOverdue n => decide (n < 12)
  | .testRequest r _ => okReq r
  | .subscriptionNotification n _ | .subscriptionLapse n => decide (n < 64)
  | .portLinkChange p _ _ _ | .ethernetFrameReceived p _ | .frameTransmitComplete p | .supervisionFrameReceived p
  | .supervisionLoss p | .ptpSync p _ _ _ | .ptpDelayReq p _ _ _ | .ptpPeerDelay p _ _ _ _ => decide (p < 8)
  | .arpRequest w _ _ _ _ | .arpEntryExpiry w _ | .icmpEchoRequest w _ | .supervisionFrameSend w
  | .ptpFollowUp w _ _ _ | .ptpDelayResp w _ _
  | .addressEntryAgeing w _ | .duplicateEntryForget w _ _ => decide (w < 2)
  | .canFrameReceived p _ _ _ _ _ | .busOff p | .busOffRecovery p | .nmtStart p _ | .nmtStop p _
  | .nmtEnterPreOperational p _ | .nmtResetCommunication p _ | .nmtResetNode p _ | .sdoInitiateDownload p _ _ _ _ _
  | .sdoDownloadSegment p _ _ _ | .sdoInitiateUpload p _ _ | .sdoUploadSegment p _ | .sdoBlockDownload p _
  | .sdoBlockUpload p _ | .sdoAbortTransfer p _ | .sdoTimeout p | .ppsEdge p _ | .ppsLost p => decide (p < 2)
  | .linkSymbolLoss l | .linkSynced l | .helloSend l | .helloReceived l _ | .helloTimeout l | .linkFrameReceived l _
  | .frameInterrupted l | .commaAlignment l => decide (l < 8)
  | .watchdogExpiry c => decide (c < 512)
  | .pairedInputDisagreement i => okInput i
  | .spiTransferComplete c _ | .uartLedgerPage c | .uartStatusFrame c | .uartXoff c | .uartXon c => decide (c < 4)
  | .streamStartWrite r u _ => okReq r && decide (u < 4)
  | .pinCopyStart p => decide (p < 16)
  | .releasePin r _ => okReq r
  | .eventSelectWrite r k n _ => okReq r && okCore k && decide (n < 4)
  | .counterWrite r k _ _ _ | .overflowFlagsWrite r k _ _ | .samplingIntervalWrite r k _ | .clearSamples r k =>
    okReq r && okCore k
  | .requestSafe r | .requestRun r | .requestConfigure r | .requestMaintenance r | .kdpRead r _ | .kdpWrite r _
  | .kdpReadMulti r _ | .kdpSubscribe r _ | .kdpUnknownOperation r _ | .sessionChallenge r _ _ | .clientNonceWrite r _
  | .sessionAnswer r _ | .sessionClose r | .objectWrite r _ _ _ | .imageStagingWrite r _ _
  | .parameterStagingWrite r _ _ _ | .imageCommit r _ | .parameterCommit r | .discardStaging r | .relearn r _
  | .acknowledge r _ | .clearHistory r | .releaseFirstFault r | .faultRecordRead r _ _ | .faultInjectionStart r
  | .resetRecoveryCounter r _ | .format r | .pinRequest r | .ledgerPageRead r _ | .pinnedPageRead r _
  | .setDeviceTime r _ | .nextSecond r _ | .resetStatistics r => okReq r
  | .powerUp | .resetNFall | .resetExit _ | .fuseSenseComplete _ | .fDieInventoryComplete _ _
  | .startupLogicBistComplete _ _ _ | .startupMemoryBistComplete _ _ | .nandMount _ | .imageReadComplete
  | .signatureVerificationComplete | .readbackAndLockComplete _ _ | .startupStepTimeout | .cSupplyMonitorTrip _ _
  | .vioNFault _ | .pfailNLow | .dieTemperatureWarning _ _ | .cDieOvertemperature _ | .vholdShortDetected _
  | .vholdLow _ | .holdupExhausted | .tapStateChange | .ringBroken _ _ | .lockedMemoryWrite _ _ | .runEntry
  | .challengeExpiry | .lockoutEnd | .sessionTimeout | .hspiWriteRequest _ | .hspiReadResponse | .hspiReadStatus
  | .hspiUnknownCommand _ | .imageSlotWritten _ _ _ | .commitComplete _ _ | .parameterCommitComplete _
  | .learnedValuePersist | .memoryScrub _ | .safetyCycleBoundary _ | .faultReport _ | .faultRecordCommit _
  | .quietPeriodEnd _ | .chimeRound _ | .faultInjection _ | .rotationStep | .ts3MemoryBistStart
  | .ts3MemoryBistComplete _ | .phyStatusPoll _ | .heartbeat | .telegramReceived _ _ _ | .pairingExchangeSend
  | .pairingCheckSend | .temperatureSensorPoll _ | .ledgerRecord _ | .pageAgeSeal | .holdupPageSeal
  | .pageProgramComplete _ | .nandBusyTimeout | .formatComplete _ _ | .parameterSetWrite | .scrubPass _ _ _
  | .wearLevellingMove _ | .operatingTimePersist | .clockMonitorFault _ _ _ | .ppsoSecond | .timeSourceLost
  | .holdoverLimit | .powerGoodTimeout _ | .jtagFuseProgram _ _ | .dieTemperatureClear _ _ | .vioNConditionGone _
  | .vholdCharged _ | .summaryRecordWindow _ => true

end Sys2Proof
end

