-- ==== Sys2Proof/Tests/Slice0.lean ====
section
/-! SUPPORT. The model's own tests, each one step on a small state: a well-formedness smoke test with an ill-formed term
for each check; and for every statement with hypotheses, states and operands that meet them, with a field of the state
that the command leaves. The expected values are worked out from the rules that the statements cite. -/

namespace Sys2Proof.Tests

open Sys2Proof.Machine

set_option Elab.async false

/-! ### Helpers -/

/-- Whether a command completes in a state of which `p` holds. -/
def after (c : Instr) (s : State) (p : State → Bool) : Bool :=
  match exec c s with
  | .next t => p t
  | .fault _ => false
  | .refused _ => false

/-- Whether a fault of this code and source is in effect after a command. -/
def raises (c : Instr) (s : State) (code src : Nat) : Bool := after c s (fun t => faultActive t code src)

/-- The abort code of the last answer to a requester. -/
def abortOf (r : Requester) (t : State) : Nat := (tget {} t.dict.replies r.code).abort

/-- A configured RK-8S in a state: three cores active and one standing by, a mounted Ledger, values in force. -/
def lab (st : DevState) (nums : Table Nat := []) : State := {
  ctl := { st := st, released := true, locked := true, boot := 0 }
  fuses := { shadow := [(1, { value := 0x7F })], caps := [2, 3, 4, 11] }
  cfg := { image := some { (default : Image) with sites := 0x7F }, nums := nums }
  proc := { running := true, escapement := true, cores := [(0, { role := .active, part := 0, set := 0 }),
    (1, { role := .active, part := 1, set := 1 }), (2, { role := .active, part := 2, set := 2 })] }
  led := { state := 1, fill := 4, openRecs := [default] }
  time := { now := 1000000000000, dev := 1000000000000, opNs := 1000000000000 } }

/-- The host SPI. -/
def hspi : Requester := {}
/-- A UDP client. -/
def client : Requester := { code := 4, ip := 0x0A000001, port := 50000 }

/-- A session of a kind, 2 CONFIGURE or 3 MAINTENANCE, held by a requester. -/
def held (k : Nat) (r : Requester) (s : State) : State :=
  { s with dict := { s.dict with session := {
    state := k, kind := k - 1, holder := some r, lastRequest := s.time.opNs } } }

/-- A record that is not cleared. -/
def rec0 (code src lvl seq : Nat) (present : Bool) : Record :=
  { time := 0, code := code, level := lvl, defined := lvl, source := src, seq := seq, present := present }

/-- A state with records. -/
def withRecs (l : List Record) (s : State) : State := { s with col := { s.col with records := l, next := 100 } }

/-- Core 0 with registers x1 and x2, a program counter of 0x100 and both passes in agreement. -/
def core0 (a b : Word) : State :=
  let c : Ctx := { regs := [(1, a), (2, b)], pc := 0x100 }
  modCore 0 (fun d => d.load c false) (lab .run)

/-! ### Well-formedness: one ill-formed command for each check -/

theorem wf_site : Instr.wf (.windowOverrun 7) = false ∧ Instr.wf (.windowOverrun 6) = true := by decide +kernel
theorem wf_sites : Instr.wf (.segmentThirdFailure 7 0) = false ∧ Instr.wf (.sharedSignalSegment 0 7 0 0 true) = false := by
  decide +kernel
theorem wf_input : Instr.wf (.ossdOff 0 0x20 .a 0) = false ∧ Instr.wf (.ossdOff 1 0x00 .a 0) = false
    ∧ Instr.wf (.ossdOff 1 0x100 .a 0) = true := by decide +kernel
theorem wf_source : Instr.wf (.sourceRetry 0 0x28) = false ∧ Instr.wf (.sourceRetry 0 0x27) = true := by decide +kernel
theorem wf_entry : Instr.wf (.resetStuckLift 0) = false ∧ Instr.wf (.resetStuckLift 256) = false
    ∧ Instr.wf (.resetStuckLift 255) = true := by decide +kernel
theorem wf_slot : Instr.wf (.edmTimeout 0 512 0) = false ∧ Instr.wf (.edmTimeout 0 511 0) = true := by decide +kernel
theorem wf_output : Instr.wf (.minimumLoad 0 ⟨0x50, 0⟩) = false ∧ Instr.wf (.minimumLoad 0 ⟨0x4F, 0⟩) = true := by decide +kernel
theorem wf_return : Instr.wf (.returnCurrentLimit 0 0x4F) = false ∧ Instr.wf (.returnCurrentLimit 0 0x50) = true := by decide +kernel
theorem wf_supply : Instr.wf (.groupSupplyPresent 0 0x73 0) = false ∧ Instr.wf (.groupSupplyPresent 0 0x72 0) = true := by
  decide +kernel
theorem wf_brake : Instr.wf (.coilOpen 0 0x62) = false ∧ Instr.wf (.coilOpen 0 0x61) = true := by decide +kernel
theorem wf_element : Instr.wf (.laneAgreementTimeout 0x58) = false ∧ Instr.wf (.laneAgreementTimeout 0x60) = true := by
  decide +kernel
theorem wf_core : Instr.wf (.ecall 4) = false ∧ Instr.wf (.ecall 3) = true := by decide +kernel
theorem wf_partition : Instr.wf (.plannedHandover 3) = false ∧ Instr.wf (.plannedHandover 2) = true := by decide +kernel
theorem wf_item : Instr.wf (.testOverdue 12) = false ∧ Instr.wf (.testOverdue 11) = true := by decide +kernel
theorem wf_requester : Instr.wf (.clearHistory { code := 0 }) = false ∧ Instr.wf (.clearHistory { code := 5 }) = false
    ∧ Instr.wf (.clearHistory { code := 4 }) = true := by decide +kernel
theorem wf_subscription : Instr.wf (.subscriptionLapse 64) = false ∧ Instr.wf (.subscriptionLapse 63) = true := by decide +kernel
theorem wf_port : Instr.wf (.supervisionLoss 8) = false ∧ Instr.wf (.supervisionLoss 7) = true := by decide +kernel
theorem wf_station : Instr.wf (.arpEntryExpiry 2 0) = false ∧ Instr.wf (.busOff 2) = false
    ∧ Instr.wf (.arpEntryExpiry 1 0) = true := by decide +kernel
theorem wf_link : Instr.wf (.helloSend 8) = false ∧ Instr.wf (.helloSend 7) = true := by decide +kernel
theorem wf_connection : Instr.wf (.watchdogExpiry 512) = false ∧ Instr.wf (.watchdogExpiry 511) = true := by decide +kernel
theorem wf_serial : Instr.wf (.uartXon 4) = false ∧ Instr.wf (.uartXon 3) = true := by decide +kernel
theorem wf_pin : Instr.wf (.pinCopyStart 16) = false ∧ Instr.wf (.pinCopyStart 15) = true := by decide +kernel
theorem wf_counter : Instr.wf (.eventSelectWrite {} 0 4 0) = false ∧ Instr.wf (.eventSelectWrite {} 4 0 0) = false
    ∧ Instr.wf (.eventSelectWrite {} 3 3 0) = true := by decide +kernel

/-! ### The block and the cores -/

theorem witness_StepRunsFront : ({ lab .safe with pending := [.ppsoSecond] } : State).pending = [.ppsoSecond] := by decide +kernel
theorem witness_StepIdles : (lab .safe).pending = [] ∧ (lab .safe).time.adjust = 0
    ∧ (match step (lab .safe) with
      | .next t => decide (t.time.now = 1000000000010)
      | _ => false) = true := by decide +kernel
theorem witness_PassesStayComplementary : PassesAgree (lab .safe) := by
  intro k
  match k with
  | 0 | 1 | 2 => decide +kernel
  | n + 3 => simp [Machine.core, lab, tget]; rfl
theorem witness_BlownFusesStay : Blown 1 6 State.reset ∧ ¬ Blown 1 7 State.reset := by unfold Blown; decide +kernel
theorem witness_CommandsWriteOnlyTheirParts : after .ppsoSecond (lab .safe) (fun t => decide (t.time.ppso = false)) = true := by
  decide +kernel
theorem witness_TransitionsAreListed : (match step { lab .run with pending := [.requestSafe hspi] } with
    | .next t => decide (t.ctl.st = .safe)
    | _ => false) = true := by decide +kernel

theorem witness_add : Runs (core0 0xFFFFFFFF 2) 0 false
    ∧ after (.add 0 false 3 (.src 1 (.reg 2))) (core0 0xFFFFFFFF 2) (fun t => decide (xreg t 0 3 = 1
      ∧ (Machine.core t 0).prim.pc = 0x104 ∧ (Machine.core t 0).shad.pc = 0xFFFFFEFB)) = true := by unfold Runs; decide +kernel
theorem witness_addi : Runs (core0 5 2) 0 true
    ∧ after (.add 0 true 1 (.src 1 (.imm 0xFFF))) (core0 5 2) (fun t => decide (xreg t 0 1 = 4
      ∧ (Machine.core t 0).prim.pc = 0x102)) = true := by unfold Runs; decide +kernel
theorem test_auipc : after (.add 0 false 3 (.auipc 0xFFFFF)) (core0 0 0) (fun t => decide (xreg t 0 3 = 0xFFFFF100)) = true := by
  decide +kernel
theorem test_sub_x0 : after (.sub 0 false 0 1 2) (core0 1 2) (fun t => decide (xreg t 0 0 = 0
    ∧ (Machine.core t 0).prim.regs = [(1, 1), (2, 2)])) = true := by decide +kernel
theorem test_and : after (.and 0 false 3 1 (.imm 0x80F)) (core0 0xFFFFF0F8 2) (fun t => decide (xreg t 0 3 = 0xFFFFF008)) = true := by
  decide +kernel
theorem test_or : after (.or 0 false 3 1 (.reg 2)) (core0 0x10 0x01) (fun t => decide (xreg t 0 3 = 0x11)) = true := by decide +kernel
theorem test_xor : after (.xor 0 false 3 1 (.imm 0xFFF)) (core0 0x10 0x01) (fun t => decide (xreg t 0 3 = 0xFFFFFFEF)) = true := by
  decide +kernel
theorem test_sll : after (.sll 0 false 3 1 (.reg 2)) (core0 1 33) (fun t => decide (xreg t 0 3 = 2)) = true := by decide +kernel
theorem test_srl : after (.srl 0 false 3 1 (.imm 31)) (core0 0x80000000 0) (fun t => decide (xreg t 0 3 = 1)) = true := by decide +kernel
theorem test_sra : after (.sra 0 false 3 1 (.imm 31)) (core0 0x80000000 0) (fun t => decide (xreg t 0 3 = 0xFFFFFFFF)) = true := by
  decide +kernel
theorem test_slt : after (.slt 0 false false 3 1 (.reg 2)) (core0 0xFFFFFFFF 1) (fun t => decide (xreg t 0 3 = 1)) = true
    ∧ after (.slt 0 false true 3 1 (.reg 2)) (core0 0xFFFFFFFF 1) (fun t => decide (xreg t 0 3 = 0)) = true := by decide +kernel
theorem test_lui : after (.lui 0 false 3 0x80001) (core0 0 0) (fun t => decide (xreg t 0 3 = 0x80001000)) = true := by decide +kernel
theorem witness_multiply : Runs (core0 0xFFFFFFFE 3) 0 false
    ∧ after (.multiply 0 .mul 3 1 2) (core0 0xFFFFFFFE 3) (fun t => decide (xreg t 0 3 = 0xFFFFFFFA)) = true
    ∧ after (.multiply 0 .mulh 3 1 2) (core0 0xFFFFFFFE 3) (fun t => decide (xreg t 0 3 = 0xFFFFFFFF)) = true
    ∧ after (.multiply 0 .mulhsu 3 2 1) (core0 0xFFFFFFFE 3) (fun t => decide (xreg t 0 3 = 2)) = true
    ∧ after (.multiply 0 .mulhu 3 1 2) (core0 0xFFFFFFFE 3) (fun t => decide (xreg t 0 3 = 2)) = true := by
  unfold Runs; decide +kernel
theorem test_divide : after (.divide 0 false 3 1 2) (core0 0x80000000 0xFFFFFFFF) (fun t => decide (xreg t 0 3 = 0x80000000)) = true
    ∧ after (.divide 0 true 3 1 2) (core0 7 0) (fun t => decide (xreg t 0 3 = 0xFFFFFFFF)) = true := by decide +kernel
theorem test_remainder : after (.remainder 0 false 3 1 2) (core0 0xFFFFFFF9 2) (fun t => decide (xreg t 0 3 = 0xFFFFFFFF)) = true
    ∧ after (.remainder 0 true 3 1 2) (core0 7 0) (fun t => decide (xreg t 0 3 = 7)) = true := by decide +kernel
theorem witness_branch : Runs (core0 0xFFFFFFFF 1) 0 false ∧ taken .lt (0xFFFFFFFF : Word) 1 = true
    ∧ taken .ltu (0xFFFFFFFF : Word) 1 = false
    ∧ after (.branch 0 false .lt 1 2 0x1FF0) (core0 0xFFFFFFFF 1) (fun t => decide ((Machine.core t 0).prim.pc = 0xF0)) = true
    ∧ after (.branch 0 true .ltu 1 2 0x10) (core0 0xFFFFFFFF 1) (fun t => decide ((Machine.core t 0).prim.pc = 0x102)) = true := by
  unfold Runs; decide +kernel
theorem test_jump : after (.jump 0 false 1 (.jalr 1 1)) (core0 0x200 0) (fun t => decide ((Machine.core t 0).prim.pc = 0x200
      ∧ xreg t 0 1 = 0x104)) = true
    ∧ after (.jump 0 true 1 (.jal 0x10)) (core0 0 0) (fun t => decide ((Machine.core t 0).prim.pc = 0x110 ∧ xreg t 0 1 = 0x102)) = true := by
  decide +kernel

/-- Core 0 with bytes 0x80 and 0xFF at the start of its data TCM. -/
def loads : State :=
  modTcm 0 (fun t => { t with dmem := [(0, 0x80), (1, 0xFF)] }) (core0 0x10000000 0x11223344)
theorem witness_load : Runs loads 0 false ∧ target (Machine.core loads 0).part (effAddr loads 0 1 0) = .dtcm 0
    ∧ after (.load 0 false .lb 3 1 0 .clean) loads (fun t => decide (xreg t 0 3 = 0xFFFFFF80)) = true
    ∧ after (.load 0 false .lhu 3 1 0 .clean) loads (fun t => decide (xreg t 0 3 = 0xFF80)) = true := by unfold Runs; decide +kernel
theorem witness_store : effAddr loads 0 1 2 % 2 = 0 ∧ (tcm loads (Machine.core loads 0).set).journal.length < 512
    ∧ after (.store 0 false .sh 1 2 2) loads (fun t => decide ((tcm t 0).dmem = [(0, 0x80), (1, 0xFF), (2, 0x44), (3, 0x33)]
      ∧ (tcm t 0).journal = [(0x10000000, 0x0000FF80)])) = true := by decide +kernel
theorem witness_store_region : target 0 (effAddr (core0 (BitVec.ofNat 32 (regionBase 0)) 7) 0 1 4) = .region 4
    ∧ after (.store 0 false .sb 1 2 4) (core0 (BitVec.ofNat 32 (regionBase 0)) 7)
      (fun t => decide ((part t 0).region = [(4, 7)])) = true := by decide +kernel
theorem witness_store_posted : target 0 (effAddr (core0 0x30000000 7) 0 1 4) = .resp
    ∧ target 0 (effAddr (core0 0x30000000 7) 0 1 8) = .cycleEnd
    ∧ after (.store 0 false .sw 1 2 8) (core0 0x30000000 7) (fun t => decide ((Machine.core t 0).ended = true
      ∧ (Machine.core t 0).posted.length = 1)) = true := by decide +kernel
theorem witness_csr : Runs (core0 5 6) 0 false ∧ (Machine.core (core0 5 6) 0).prim.csrs.read 0 0x340 = some 0
    ∧ after (.csrAccess 0 .rw 0x340 3 (.reg 1)) (core0 5 6) (fun t => decide ((Machine.core t 0).prim.csrs.mscratch = 5
      ∧ xreg t 0 3 = 0)) = true
    ∧ after (.csrAccess 0 .rs 0x340 0 (.uimm 6)) (core0 5 6) (fun t => decide ((Machine.core t 0).prim.csrs.mscratch = 6)) = true
    ∧ after (.csrAccess 0 .rs 0xF14 3 (.reg 0)) (core0 5 6) (fun t => decide (xreg t 0 3 = 0)) = true := by unfold Runs; decide +kernel
theorem test_fence : after (.fence 0) (core0 5 6) (fun t => decide ((Machine.core t 0).prim.pc = 0x104)) = true
    ∧ after (.fenceI 0) (core0 5 6) (fun t => decide ((Machine.core t 0).prim.pc = 0x104)) = true := by decide +kernel
theorem witness_traps : issues (core0 1 2) 0 = true ∧ room (core0 1 2) ∧ fetchOk (core0 1 2) 0 false = true
    ∧ (Machine.core (core0 1 2) 0).prim.csrs.read 0 0x7C0 = none
    ∧ (target 0 (effAddr (core0 0x40000000 2) 0 1 0)).loads = false
    ∧ (target 0 (effAddr (core0 0x10000000 2) 0 1 2)).loads = true ∧ effAddr (core0 0x10000000 2) 0 1 2 % 4 ≠ 0
    ∧ (target 0 (effAddr (core0 0x10000000 2) 0 1 2)).stores = true
    ∧ fetchOk (modCore 0 (fun c => { c with prim := { c.prim with pc := 0x1FFFE } }) (core0 1 2)) 0 false = false := by
  unfold room; decide +kernel
theorem test_ecall : after (.ecall 0) (core0 1 2) (fun t => decide ((Machine.core t 0).trapped = true
    ∧ (Machine.core t 0).prim.csrs.mcause = 11 ∧ (Machine.core t 0).prim.csrs.mepc = 0x100) && faultActive t 0x0605 0x0700) = true := by decide +kernel
theorem test_ebreak : after (.ebreak 0 true) (core0 1 2) (fun t => decide ((Machine.core t 0).prim.csrs.mcause = 3)) = true := by decide +kernel
theorem test_illegal : after (.illegalInstruction 0 0) (core0 1 2) (fun t => decide ((Machine.core t 0).prim.csrs.mcause = 2)) = true := by
  decide +kernel
theorem witness_checkpointPasses : PassesAgree (core0 5 6) := by
  intro k
  match k with
  | 0 | 1 | 2 => decide +kernel
  | n + 3 =>
    have h : Machine.core (core0 5 6) (n + 3) = Machine.core (lab .run) (n + 3) := rfl
    rw [h]
    simp [Machine.core, lab, tget]; rfl
set_option maxRecDepth 100000 in
theorem witness_checkpoint : runsPart (core0 5 6) 0 = true ∧ checkpointDue (core0 5 6) 0 = true ∧ (core0 5 6).proc.upsets = []
    ∧ after (.checkpoint 0 ⟨true, true⟩) (core0 5 6) (fun t => decide ((Machine.core t 0).saved.pc = 0x100
      ∧ (part t 0).slotOk = true ∧ (Machine.core t 0).chime = 1)) = true := by decide +kernel
theorem witness_busMismatch : (Machine.core (core0 5 6) 0).retried = false
    ∧ after (.busMismatch 0 0) (core0 5 6) (fun t => decide ((Machine.core t 0).prim.pc = 0x100 ∧ (Machine.core t 0).retried = true)
      && faultActive t 0x0601 0x0700) = true
    ∧ raises (.skewParityError 0 0) (core0 5 6) 0x0702 0x0700 = true := by decide +kernel

/-- The same with a slot for partition 0 that can be restored. -/
def slotted : State := modPart 0 (fun p => { p with copies := [SlotCopy.of { pc := 0x44 }], cycleDone := true }) (core0 5 6)
set_option maxRecDepth 100000 in
theorem witness_comparatorRailFault : (Machine.core slotted 3).role = .standby ∧ (∀ i, i < 3 → (Machine.core slotted i).role ≠ .standby)
    ∧ after (.comparatorRailFault 0) slotted (fun t => decide ((Machine.core t 3).prim.pc = 0x44 ∧ (Machine.core t 0).role = .removed
      ∧ (Machine.core t 3).part = 0 ∧ t.proc.takeovers = 1) && faultActive t 0x0703 0x0700) = true := by decide +kernel
/-- The same with a handover asked for, early in a long safety cycle. -/
def handing : State := { slotted with
  test := { handover := some 0 }, proc := { slotted.proc with boundary := 1000000010000 } }
set_option maxRecDepth 100000 in
theorem witness_plannedHandover : coreOfPart handing 0 = some 0 ∧ freeStandby handing = some 3
    ∧ handing.time.now + 10000 ≤ handing.proc.boundary + cycleNs handing ∧ (item handing 0x0B).state ≠ 2
    ∧ (part handing 0).slotOk = true ∧ (part handing 0).copies.length ≤ 3 ∧ handing.proc.upsets = []
    ∧ after (.plannedHandover 0) handing (fun t => decide ((Machine.core t 3).role = .active ∧ (Machine.core t 0).role = .underTest
      ∧ t.proc.handovers = 1)) = true := by decide +kernel
theorem test_rollbackWindow : after (.rollbackWindowExpiry 0)
    (withRecs [rec0 0x0604 0x0700 1 1 true] (modCore 0 (fun c => { c with rolls := [999000000001, 1, 1, 1] }) (lab .run)))
    (fun t => !condPresent t 0x0604 0x0700) = true := by decide +kernel
theorem test_escapementMissed : after (.escapementWindowMissed 1) (modPart 1 (fun p => { p with owed := some 7 }) (lab .run)) (fun t => decide (t.proc.escapement = false
    ∧ t.col.curfew = 0x7F) && faultActive t 0x0A07 0x0709) = true := by decide +kernel
theorem witness_boundary : evaluating (lab .run) = true ∧ configured (lab .run) = true
    ∧ after (.safetyCycleBoundary 1000000500000) (lab .run) (fun t => decide (t.proc.cycle = 1
      ∧ t.proc.boundary = 1000000500000) && faultActive t 0x0606 0x0708) = true := by decide +kernel
theorem test_scrub : raises (.memoryScrub ⟨[(0x0730, 0, .corrected)], []⟩) (lab .run) 0x0801 0x0730 = true
    ∧ raises (.memoryScrub ⟨[(0x0730, 0, .uncorrectable)], []⟩) (lab .run) 0x0802 0x0730 = true := by decide +kernel

/-! ### Reset, startup and the supplies -/

theorem witness_powerUp : State.reset.ctl.st = .reset ∧ State.reset.ctl.released = false
    ∧ after .powerUp State.reset (fun t => t.ctl.released) = true
    ∧ after .powerUp (lab .run) (fun t => decide (t.ctl.st = .reset ∧ t.ctl.boot = 0xF ∧ t.col = {})) = true := by
  decide +kernel
theorem witness_resetNFall : (lab .run).led.state = 1 ∧ populated (lab .run) 6 = true
    ∧ after .resetNFall (lab .run) (fun t => decide (t.ctl.st = .reset ∧ (Machine.core t 0).role = .halted ∧ t.led.state = 2
      ∧ t.col.curfew = 0x7F)) = true
    ∧ after .resetNFall State.reset (fun t => t.ctl.resetNLow) = true := by decide +kernel
/-- In RESET with the supplies settled. -/
def settled : State := { ctl := { released := true } }
theorem witness_resetExit : settled.ctl.st = .reset ∧ settled.ctl.released = true ∧ settled.led.state ≠ 2
    ∧ after (.resetExit true) settled (fun t => decide (t.ctl.st = .fuseSense ∧ t.ctl.boot = 1)
      && t.power.charging && t.ctl.nvsel33) = true := by decide +kernel
/-- The block at a startup step. -/
def starting (st : DevState) (step : StartStep) : State :=
  { lab st with
    ctl := { st := st, step := step, released := true }
    power := { vfldL := (upto 7).map (fun f => (f, 24000)) }
    cfg := {}
    proc := {}
    net := { cans := [(0, { bus := 1, recv := 200, under := [127, 125000, 0, 0x504B] }), (1, { under := [0, 125000, 0, 0x504B] })] }
    led := {} }
theorem witness_fuseSense : (starting .fuseSense .fuseSense).ctl.st = .fuseSense
    ∧ (starting .fuseSense .fuseSense).ctl.step = .fuseSense
    ∧ after (.fuseSenseComplete [{ word := 1, weak := 1 }]) { starting .fuseSense .fuseSense with fuses := {} }
      (fun t => decide (t.ctl.st = .fuseSense ∧ t.ctl.boot = 2) && t.ctl.hold) = true := by decide +kernel
/-- What the seven sites answer. -/
def answers : List SiteAnswer := (upto 7).map (fun f => ⟨f, [], true, 24000⟩)
set_option maxRecDepth 100000 in
theorem witness_inventory : inventoryOk (starting .startupTest .inventory) answers = true
    ∧ after (.fDieInventoryComplete true answers) (starting .startupTest .inventory)
      (fun t => decide (t.ctl.step = .logicBist)) = true
    ∧ inventoryOk (starting .startupTest .inventory) [] = false
    ∧ after (.fDieInventoryComplete true []) (starting .startupTest .inventory)
      (fun t => decide (t.ctl.boot = 0x5) && t.ctl.hold) = true
    ∧ after (.fDieInventoryComplete false answers) (starting .startupTest .inventory)
      (fun t => decide (t.ctl.boot = 0xB) && t.ctl.hold) = true := by decide +kernel
theorem witness_logicBist :
    after (.startupLogicBistComplete true true {}) (starting .startupTest .logicBist)
      (fun t => decide (t.ctl.step = .memoryBist ∧ (item t 3).passed = 1000000000000)) = true
    ∧ after (.startupLogicBistComplete true false {}) (starting .startupTest .logicBist)
      (fun t => decide (t.ctl.boot = 0xB)) = true
    ∧ after (.startupLogicBistComplete false true {}) (starting .startupTest .logicBist)
      (fun t => decide (t.ctl.boot = 0x6)) = true
    ∧ after (.startupLogicBistComplete true true { vddc := 500 }) (starting .startupTest .logicBist)
      (fun t => decide (t.ctl.boot = 0xC)) = true := by decide +kernel
theorem witness_memoryBist :
    after (.startupMemoryBistComplete true none) (starting .startupTest .memoryBist)
      (fun t => decide (t.ctl.st = .configLoad ∧ t.ctl.step = .mount)) = true
    ∧ after (.startupMemoryBistComplete false none) (starting .startupTest .memoryBist)
      (fun t => decide (t.ctl.st = .startupTest ∧ t.ctl.boot = 0x7)) = true := by decide +kernel
theorem witness_startupTimeout :
    after .startupStepTimeout (starting .startupTest .memoryBist) (fun t => decide (t.ctl.boot = 0x7) && t.ctl.hold) = true
    ∧ after .startupStepTimeout (starting .configLoad .mount) (fun _ => true) = true
    ∧ after .startupStepTimeout { starting .configLoad .signature with cfg := { trying := 1 } }
      (fun _ => true) = true := by decide +kernel
theorem witness_mount : mountFailure {} (starting .configLoad .mount) = 0
    ∧ after (.nandMount {}) (starting .configLoad .mount) (fun _ => true) = true
    ∧ mountFailure { ce0 := { answers := false } } (starting .configLoad .mount) ≠ 0
    ∧ after (.nandMount { ce0 := { answers := false } }) (starting .configLoad .mount)
      (fun _ => true) = true := by decide +kernel
theorem witness_loading : (starting .configLoad .imageRead).ctl.step = .imageRead
    ∧ ({ starting .configLoad .signature with cfg := { loading := some default } } : State).cfg.loading = some default
    ∧ ({ starting .configLoad .readback with cfg := { loading := some default } } : State).ctl.step = .readback := by
  decide +kernel
theorem test_signature : after .signatureVerificationComplete
      { starting .configLoad .signature with cfg := { loading := some default, trying := 1 } }
      (fun _ => true) = true := by decide +kernel
theorem test_readback : after (.readbackAndLockComplete false none)
      { starting .configLoad .readback with cfg := { loading := some default, trying := 1 } }
      (fun t => decide (t.cfg.image = none)) = true := by decide +kernel

theorem witness_supplyTrips : fromStartup (lab .run) = true ∧ railBad .vddc 800 = true ∧ roomy (lab .run)
    ∧ faultActive (lab .run) (railCode .vddc) 0x0760 = false
    ∧ after (.cSupplyMonitorTrip .vddc 800) (lab .run) (fun t => decide (t.ctl.st = .halt ∧ t.ctl.boot = 0xE
      ∧ t.led.state = 2 ∧ t.power.rails.vddc = 800)) = true
    ∧ after .pfailNLow (lab .run) (fun t => decide (t.ctl.st = .halt) && faultActive t 0x0B03 0x0760) = true := by
  unfold roomy; decide +kernel
theorem witness_vfldL : raises (.vfldLTrip 6 16799) (lab .run) 0x0B04 0x0673 = true
    ∧ raises (.vfldLTrip 0 33001) (lab .run) 0x0B04 0x0073 = true
    ∧ after (.vfldLTripEnd 6 16800) { lab .run with power := { vfldLTrip := [(6, true)] } }
      (fun t => decide (t.power.vfldLTrip = [] ∧ tget 0 t.power.vfldL 6 = 16800)) = true := by decide +kernel
theorem witness_vioN : vioNBad false 5000 = true ∧ raises (.vioNFault 5000) (lab .run) 0x0B09 0x0760 = true
    ∧ vioNBad true 3300 = false
    ∧ after (.vioNConditionGone 3300) { lab .run with ctl := { (lab .run).ctl with nvsel33 := true } }
      (fun t => decide (t.power.rails.vion = 3300)) = true := by decide +kernel
theorem witness_temperatures : hasDie (lab .run) 7 = true ∧ raises (.dieTemperatureWarning 6 1400) (lab .run) 0x0B06 0x06FF = true
    ∧ raises (.fDieOvertemperature 6 1550) (lab .run) 0x0B07 0x06FF = true
    ∧ raises (.cDieOvertemperature 1550) (lab .run) 0x0B08 0x07FF = true
    ∧ after (.dieTemperatureClear 6 1349) (withRecs [rec0 0x0B06 0x06FF 1 1 true] (lab .run))
      (fun t => !condPresent t 0x0B06 0x06FF) = true := by decide +kernel
theorem witness_vhold : raises (.vholdLow 21999) (lab .run) 0x0B05 0x0760 = true
    ∧ after (.vholdCharged 22000) (lab .run) (fun t => decide (t.power.vhold = 22000)) = true
    ∧ after (.vholdShortDetected 1999) { lab .run with power := { charging := true } } (fun t => !t.power.charging) = true
    ∧ after .holdupExhausted { lab .halt with led := { (lab .halt).led with state := 2 } }
      (fun t => decide (t.led.state = 3) && t.power.exhausted) = true := by decide +kernel
theorem witness_debugPort : debugOpen (lab .run) = true ∧ raises .tapStateChange (lab .run) 0x0909 0x0740 = true
    ∧ debugOpen (lab .safe) = true ∧ jtagWord (lab .safe) 175 = true ∧ jtagWord (lab .safe) 176 = false
    ∧ (({ value := 2 } : FuseCells).blow false 5).value = 7 := by decide +kernel

/-! ### Connections inside the package -/

theorem witness_enableFrame : (island (lab .run) 6).timedOut = true
    ∧ after (.enableFrame 6 0x03FFFFFF true true true []) (lab .run) (fun t => decide ((island t 6).word = 0x03FFFFFF)) = true
    ∧ after (.enableFrameTimeout 6) (lab .run) (fun t => decide ((island t 6).word = 0)) = true
    ∧ after (.curfewStopDetected 6 true) (lab .run) (fun t => heldA t 0x0640 && !heldB t 0x0640) = true
    ∧ after (.curfewStopDetected 6 false) (lab .run) (fun t => heldB t 0x0640 && !heldA t 0x0640) = true
    ∧ after (.statusLinkFrame 6 1 true false ⟨5, []⟩) (lab .run) (fun t => decide ((island t 6).seqUp = 1 ∧ (island t 6).reported = 5)) = true
    ∧ after (.statusLinkFrame 6 1 true true ⟨5, []⟩) (lab .run) (fun t => decide ((island t 6).seqDown = 1 ∧ (island t 6).reported = 0)) = true := by decide +kernel
theorem witness_segments : evaluating (lab .run) = true
    ∧ after (.sharedSignalSegment 6 0 257 9 true) { lab .run with array := { fba := [(0, { state := 1 })] } }
      (fun t => decide (tget {} (fba t 6).segments 1 = ⟨9, 1, true⟩
      ∧ tget 0 (fba t 6).good 0 = 9)) = true
    ∧ raises (.sharedSignalSegment 6 0 256 9 false) (lab .run) 0x0504 0x06FF = true
    ∧ raises (.segmentThirdFailure 6 0) { lab .run with array := { fba := [(6, { fails := [(0, 2)] })] } } 0x0505 0x06FF = true
    ∧ raises (.ringBroken 6 0) (lab .run) 0x0506 0x06FF = true := by decide +kernel
theorem witness_fEscapement :
    after (.fEscapementResponse 6 (fExpected (lab .run) 6) 900) (lab .run) (fun t => !faultActive t 0x0507 0x06FF) = true
    ∧ raises (.fEscapementResponse 6 (fExpected (lab .run) 6) 1101) (lab .run) 0x0507 0x06FF = true
    ∧ raises (.fEscapementMissed 6) (lab .run) 0x0507 0x06FF = true := by decide +kernel
theorem witness_lockedMemory : (lab .run).ctl.locked = true ∧ raises (.lockedMemoryWrite 0x3000 1) (lab .run) 0x0F10 0x0778 = true := by
  decide +kernel
/-- The elements of site 6 demanded by lane A alone for a second, and a door whose lanes have differed for 11 ticks. -/
def apart : State :=
  { lab .run [(okey 0x3EFF 1, 4)] with
    outs := { publishedA := [(6, 0x3FFFFFF)] }
    array := { island := [(6, { differC := [(0x064F, 100000), (0x0657, 100000), (0x0661, 100000)] })] }
    pairs := [(255, { apart := 11 })] }
theorem witness_laneAgreement : demandsApart apart 0x064F = true ∧ (fba apart 6).state ≠ 2
    ∧ raises (.laneAgreementTimeout 0x064F) apart 0x1001 0x064F = true
    ∧ raises (.laneAgreementTimeout 0x0657) apart 0x1002 0x0657 = true
    ∧ raises (.laneAgreementTimeout 0x0661) apart 0x1003 0x0661 = true
    ∧ pairKind (confOf apart) 255 ≠ 0
    ∧ raises (.pairLaneDisagreement 255) apart 0x1004 0x08FF = true := by decide +kernel

/-! ### Requests for a change of state -/

theorem witness_served : Served hspi (lab .run) ∧ Served client (lab .run) ∧ transportOk (lab .run) hspi = true
    ∧ transportOk (lab .run) client = false ∧ transportOk (held 3 client (lab .run)) client = true := by
  unfold Served HasTurn; decide +kernel
/-- A request has been accepted in the present time tick. -/
def taken (s : State) : State := { s with ctl := { s.ctl with reqTick := some 1000000000000 } }
theorem witness_beaten : requestBeaten 1000000000000 (lab .run) = false
    ∧ requestBeaten 1000000000000 (taken (lab .run)) = true
    ∧ after (.requestSafe client) (taken (held 3 client (lab .run)))
      (fun t => decide (t.ctl.st = .run ∧ abortOf client t = 0x08000022)) = true := by decide +kernel
theorem witness_requestSafe : (lab .run).ctl.request = none
    ∧ after (.requestSafe hspi) (lab .run) (fun t => decide (t.ctl.st = .safe ∧ t.ctl.lastWord = transitionWord .run .safe 2 1
      ∧ abortOf hspi t = 0)) = true
    ∧ after (.requestSafe client) (lab .run) (fun t => decide (t.ctl.st = .run ∧ abortOf client t = 0x08000022)) = true := by
  decide +kernel
theorem witness_requestRun : runReady (lab .safe) = true
    ∧ after (.requestRun hspi) (lab .safe) (fun t => decide (t.ctl.st = .safe ∧ t.ctl.request = some (0x30, 1))) = true
    ∧ after (.requestRun hspi) { lab .safe with proc := { (lab .safe).proc with escapement := false } }
      (fun t => decide (t.ctl.request = none ∧ abortOf hspi t = 0x08000022)) = true := by decide +kernel
theorem witness_requestSessions :
    after (.requestConfigure hspi) (held 2 hspi (lab .safe)) (fun t => decide (t.ctl.st = .configure) && !t.ctl.locked
      && !t.proc.running) = true
    ∧ after (.requestConfigure hspi) (held 3 hspi (lab .safe)) (fun t => decide (t.ctl.st = .safe
      ∧ abortOf hspi t = 0x08000022)) = true
    ∧ after (.requestMaintenance hspi) (held 3 hspi (lab .safe)) (fun t => decide (t.ctl.st = .maintenance)
      && t.ctl.locked) = true := by decide +kernel
theorem witness_runEntry :
    let s := { lab .safe [(okey 0x3E01 1, 1)] with
      ctl := { (lab .safe).ctl with request := some (0x30, 0) }
      pairs := [(1, { a := { code := 2, release := true } })] }
    runReady s = true ∧ pairMode (confOf s) 1 ≠ 0
    ∧ after .runEntry s (fun t => decide (t.ctl.st = .run ∧ t.ctl.lastWord = transitionWord .safe .run 7 0)
      && !(pair t 1).a.release) = true := by decide +kernel

/-! ### KDP, the host SPI and sessions -/

/-- A READ of 0x1017 and a WRITE of 0x1234 to it. -/
def rd17 : KdpReq := { tag := 7, index := 0x1017 }
def wr17 : KdpReq := { op := 2, tag := 7, index := 0x1017, data := [0x34, 0x12] }
theorem witness_kdpServed : KdpServed hspi (lab .safe) ∧ KdpServed client (lab .safe) := by unfold KdpServed; decide +kernel
theorem witness_kdpRead : (readObj hspi 0x1017 0 (Config.freeBits 0) (kdpAt hspi (lab .safe))).1.dom = false
    ∧ after (.kdpRead hspi rd17) (lab .safe) (fun t => decide (t.dict.hspi.responses = [kdpFrame 0x81 7 0x1017 0 0 0 [0, 0]])) = true
    ∧ after (.kdpRead hspi { rd17 with index := 0x5FFF }) (lab .safe)
      (fun t => decide (t.dict.hspi.responses = [kdpFrame 0x81 7 0x5FFF 0 0 0x10 []])) = true
    ∧ after (.kdpReadMulti hspi { op := 3, data := [0x17, 0x10, 0] }) (lab .safe)
      (fun t => decide (t.dict.hspi.responses = [kdpFrame 0x83 0 0 0 0 0 (multiEntry 0x1017 0 0 [0, 0])])) = true := by
  decide +kernel
theorem witness_kdpWrite : trailerOk hspi wr17 (countLoad (takeFrame hspi (lab .safe))).2
      = some (countLoad (takeFrame hspi (lab .safe))).2
    ∧ writeData (touch hspi (countLoad (takeFrame hspi (lab .safe))).2) wr17 = (0, [0x34, 0x12], true)
    ∧ after (.kdpWrite hspi wr17) (lab .safe) (fun t => decide (t.dict.heartbeat = 0x1234
      ∧ t.dict.hspi.responses = [kdpFrame 0x82 7 0x1017 0 0 0 []])) = true := by decide +kernel
/-- The same WRITE arrives again from a client. -/
def repeating : State := { lab .safe with dict := { kept := [⟨client, 7, 999000000000, [1]⟩] } }
theorem witness_kdpRepeat : repeated repeating client 7 = some [1]
    ∧ after (.kdpWrite client wr17) repeating (fun t => decide (t.dict.heartbeat = 0)) = true := by decide +kernel
theorem witness_kdpTrailer : holdsSession (held 2 client (lab .safe)) client = true
    ∧ repeated (held 2 client (lab .safe)) client 7 = none ∧ wr17.trailer = none
    ∧ after (.kdpWrite client wr17) (held 2 client (lab .safe)) (fun t => decide (t.dict.heartbeat = 0)) = true := by
  decide +kernel
theorem witness_kdpUnknown :
    after (.kdpUnknownOperation hspi { version := 2 }) (lab .safe)
      (fun t => decide (t.dict.hspi.responses = [kdpFrame 0x81 0 0 0 0 0x21 []])) = true
    ∧ after (.kdpUnknownOperation hspi { op := 6 }) (lab .safe)
      (fun t => decide (t.dict.hspi.responses = [kdpFrame 0x86 0 0 0 0 0x22 []])) = true := by decide +kernel
/-- A request for the heartbeat time every 60 s for 600 s. -/
def subReq : KdpReq := { op := 4, tag := 9, index := 0x1017, data := [2, 0x60, 0xEA, 0x58, 2] }
/-- A subscription in slot 63. -/
def sub63 : Subscription :=
  { client := hspi, tag := 9, index := 0x1017, sub := 0, mode := 2, period := 60000, lease := 600, since := 0 }
def subscribed (y : Subscription) : State := { lab .safe with dict := { subs := [(63, y)] } }
theorem witness_subscribe : (readObj hspi 0x1017 0 0 (kdpAt hspi (lab .safe))).1.abort = 0
    ∧ after (.kdpSubscribe hspi subReq) (lab .safe)
      (fun t => decide (t.dict.subs.map (fun e => (e.2.mode, e.2.period, e.2.lease)) = [(2, 60000, 600)])) = true
    ∧ after (.kdpSubscribe hspi { subReq with data := [0, 0, 0, 0, 0] }) (subscribed sub63)
      (fun t => decide (t.dict.subs = [])) = true := by decide +kernel
theorem witness_notification : subOf (subscribed sub63) 63 = some sub63
    ∧ sub63.sentAt + sub63.period * 1000000 ≤ (lab .safe).time.opNs ∧ sub63.since + sub63.lease * 1000000000 ≤ (lab .safe).time.opNs
    ∧ after (.subscriptionNotification 63 true) (subscribed sub63)
      (fun t => decide (t.dict.hspi.responses = [kdpFrame 0x81 9 0x1017 0 8 0 [0, 0]])) = true
    ∧ after (.subscriptionNotification 63 true) (subscribed { sub63 with mode := 1, last := [0, 0] })
      (fun t => decide (t.dict.hspi.responses = [])) = true
    ∧ after (.subscriptionLapse 63) (subscribed sub63) (fun t => decide (t.dict.subs = [])) = true := by decide +kernel

/-- The host SPI with a number of requests and one response waiting. -/
def queued (n : Nat) : State :=
  { lab .safe with dict := { hspi := { requests := (upto n).map (fun _ => { frame := [1] }), responses := [[9]], lost := true } } }
/-- A good frame. -/
def goodFrame : List Byte := kdpFrame 1 7 0x1017 0 0 0 []
theorem witness_hspi : hspiOn (queued 3) = true ∧ kdpFrameOk goodFrame = true ∧ kdpFrameOk [1] = false
    ∧ after (.hspiWriteRequest goodFrame) (queued 3) (fun t => decide (t.dict.hspi.requests.length = 4)) = true
    ∧ after (.hspiWriteRequest goodFrame) (queued 4) (fun t => decide (t.dict.hspi.requests.length = 4
      ∧ t.dict.hspi.lostCount = 1)) = true
    ∧ after (.hspiWriteRequest [1]) (queued 3) (fun t => decide (t.dict.hspi.discards = 1)) = true
    ∧ after .hspiReadResponse (queued 3) (fun t => decide (t.dict.hspi.miso = [9] ∧ t.dict.hspi.responses = [])) = true
    ∧ after .hspiReadStatus (queued 4) (fun t => decide (t.dict.hspi.miso = [5]) && !t.dict.hspi.lost) = true
    ∧ after (.hspiUnknownCommand 4) (queued 3) (fun t => decide (t.dict.hspi.unknown = 1)) = true := by decide +kernel

/-- A nonce, and a state with a challenge of a kind for the host SPI, answered wrongly a number of times. -/
def nonce : List Byte := (upto 16).map (BitVec.ofNat 8)
def challenged (kind wrong : Nat) : State :=
  let x : Session := { state := 1, kind := kind, holder := some hspi, deviceNonce := nonce, clientNonce := nonce }
  { lab .safe with dict := { session := { x with wrongRow := wrong, lastRequest := 990000000000 } } }
theorem witness_sessionTurn : SessionTurn hspi (lab .safe) := by
  have h : sessionFrame (lab .safe) hspi = none := by decide +kernel
  refine ⟨by decide +kernel, by decide +kernel, by decide +kernel, by decide +kernel, by decide +kernel, fun fr hf => ?_⟩
  rw [h] at hf
  exact absurd hf (by simp)
theorem witness_challenge : mayOpen (lab .safe) = true ∧ retired (lab .safe) = false ∧ nonce.length = 16
    ∧ after (.sessionChallenge hspi 1 (some nonce)) (lab .safe) (fun t => decide (t.dict.session.state = 1
      ∧ t.dict.session.kind = 1 ∧ t.dict.session.holder = some hspi ∧ abortOf hspi t = 0)) = true
    ∧ after (.sessionChallenge hspi 2 none) { lab .safe with dict := { session := { nonceStore := some (hspi, nonce) } } }
      (fun t => decide (t.dict.session.state = 1 ∧ t.dict.session.clientNonce = nonce)) = true
    ∧ after (.sessionChallenge client 1 (some nonce)) (challenged 1 0) (fun t => decide (t.dict.session.holder = some hspi
      ∧ abortOf client t = 0x08000021)) = true
    ∧ after (.clientNonceWrite hspi nonce) (lab .safe) (fun t => decide (t.dict.session.nonceStore = some (hspi, nonce))) = true := by
  decide +kernel
theorem witness_answer : mayOpen (challenged 1 4) = true ∧ (challenged 1 4).dict.session.holder = some hspi
    ∧ sameRequester hspi hspi = true ∧ ((upto 32).map (BitVec.ofNat 8)).length = 32 := by decide +kernel
theorem witness_sessionClose : sessionState (held 2 hspi (lab .configure)) = true
    ∧ after (.sessionClose hspi) (held 2 hspi (lab .configure)) (fun t => decide (t.dict.session.state = 0
      ∧ t.ctl.st = .safe ∧ abortOf hspi t = 0)) = true := by decide +kernel
theorem witness_sessionTimers : (challenged 1 0).dict.session.state = 1
    ∧ after .challengeExpiry (challenged 1 0) (fun t => decide (t.dict.session.state = 0)) = true
    ∧ after .challengeExpiry { challenged 1 0 with time := { opNs := 999999999999 } }
      (fun t => decide (t.dict.session.state = 1)) = true
    ∧ after .lockoutEnd { lab .safe with dict := { session := { state := 4, lockout := some 1000000000000 } } }
      (fun t => decide (t.dict.session.state = 0)) = true
    ∧ after .sessionTimeout { held 3 hspi (lab .maintenance) with time := { opNs := 1300000000000 } }
      (fun t => decide (t.dict.session.state = 0 ∧ t.ctl.st = .safe)) = true
    ∧ after .sessionTimeout (held 3 hspi (lab .maintenance)) (fun t => decide (t.dict.session.state = 3)) = true := by
  decide +kernel

/-! ### SDO -/

/-- CN1 runs with a transfer. -/
def sdoing (x : Sdo) : State :=
  { lab .safe [(okey 0x2B11 1, 1), (okey 0x2B11 2, 5)] with
    dict := { sdo := [(1, x)] }
    net := { cans := [(1, { bus := 1, recv := 200, nmt := 5 })] } }
def cn1 : Requester := { code := 3 }
theorem witness_sdoDownload : sdoOn (sdoing {}) 1 = true
    ∧ after (.sdoInitiateDownload 1 0x1017 0 true 2 [0x34, 0x12]) (sdoing {}) (fun t => decide (t.dict.heartbeat = 0x1234)) = true
    ∧ after (.sdoInitiateDownload 1 0x1017 0 false 2 []) (sdoing {}) (fun t => decide ((sdo t 1).mode = 1)) = true
    ∧ after (.sdoDownloadSegment 1 false false [0x34]) (sdoing { mode := 1, index := 0x1017 })
      (fun t => decide ((sdo t 1).data = [0x34]) && (sdo t 1).toggle) = true
    ∧ after (.sdoDownloadSegment 1 true true [0x12]) (sdoing { mode := 1, index := 0x1017, toggle := true, data := [0x34] })
      (fun t => decide (t.dict.heartbeat = 0x1234 ∧ sdo t 1 = {})) = true
    ∧ after (.sdoDownloadSegment 1 true true [0x12]) (sdoing { mode := 1, index := 0x1017 })
      (fun t => decide (t.dict.heartbeat = 0 ∧ abortOf cn1 t = 0x05030000)) = true := by decide +kernel
theorem witness_sdoUpload :
    after (.sdoInitiateUpload 1 0x1017 0) (sdoing {}) (fun t => decide ((tget {} t.dict.replies 3).data = [0, 0])) = true
    ∧ after (.sdoInitiateUpload 1 0x5FFF 0) (sdoing {}) (fun t => decide (abortOf cn1 t = 0x06020000)) = true
    ∧ after (.sdoUploadSegment 1 false) (sdoing { mode := 2, data := nonce }) (fun t => decide ((sdo t 1).pos = 7)) = true
    ∧ after (.sdoUploadSegment 1 false) (sdoing { mode := 2, data := nonce, pos := 9 }) (fun t => decide (sdo t 1 = {})) = true
    ∧ after (.sdoAbortTransfer 1 0) (sdoing { mode := 2 }) (fun t => decide (sdo t 1 = {})) = true
    ∧ after (.sdoTimeout 1) (sdoing { mode := 2, at_ := 999500000000 }) (fun t => decide (abortOf cn1 t = 0x05040000)) = true := by
  decide +kernel
theorem witness_sdoBlockDown :
    after (.sdoBlockDownload 1 (.initiate 0x1017 0 true 2)) (sdoing {}) (fun t => decide ((sdo t 1).mode = 3)) = true
    ∧ after (.sdoBlockDownload 1 (.segment 1 false [1])) (sdoing { mode := 3, blksize := 3 })
      (fun t => decide ((sdo t 1).seq = 1)) = true
    ∧ after (.sdoBlockDownload 1 (.finish 5 (sdoCrc [0x34, 0x12])))
      (sdoing { mode := 3, index := 0x1017, crc := true, ending := true, data := [0x34, 0x12, 0, 0, 0, 0, 0] })
      (fun t => decide (t.dict.heartbeat = 0x1234)) = true
    ∧ after (.sdoBlockDownload 1 (.finish 5 (sdoCrc [0x34, 0x13])))
      (sdoing { mode := 3, index := 0x1017, crc := true, ending := true, data := [0x34, 0x12, 0, 0, 0, 0, 0] })
      (fun t => decide (t.dict.heartbeat = 0 ∧ abortOf cn1 t = 0x05040004)) = true := by decide +kernel
theorem witness_sdoBlockUp :
    after (.sdoBlockUpload 1 (.initiate 0x1017 0 128 true)) (sdoing {}) (fun t => decide (abortOf cn1 t = 0x05040002)) = true
    ∧ after (.sdoBlockUpload 1 .start) (sdoing { mode := 4, data := nonce, blksize := 2 })
      (fun t => decide ((tget {} t.dict.replies 3).data.length = 14)) = true
    ∧ after (.sdoBlockUpload 1 .finish) (sdoing { mode := 4, ending := true }) (fun t => decide (sdo t 1 = {})) = true := by
  decide +kernel

/-! ### Writes, staging and commits -/

theorem witness_objectWrite : (match findObj (lab .safe) 0x5FFF 0 with
      | .error c => decide (c = 0x06020000)
      | .ok _ => false) = true
    ∧ after (.objectWrite hspi 0x5FFF 0 [0]) (lab .safe) (fun t => decide (abortOf hspi t = 0x06020000)) = true
    ∧ after (.objectWrite hspi 0x1000 0 [0, 0, 0, 0]) (lab .safe) (fun t => decide (abortOf hspi t = 0x06010002)) = true
    ∧ after (.objectWrite hspi 0x1017 0 [0x34, 0x12]) (lab .safe) (fun t => decide (t.dict.heartbeat = 0x1234)) = true := by
  decide +kernel
theorem witness_imageStaging :
    after (.imageStagingWrite hspi 1048574 [1, 2]) (held 2 hspi (lab .configure)) (fun t => decide (abortOf hspi t = 0
      ∧ t.dict.staging.kind = 1 ∧ t.dict.staging.bytes = [(1048574, 1), (1048575, 2)])) = true
    ∧ after (.imageStagingWrite client 0 [1, 2]) (held 2 hspi (lab .configure)) (fun t => decide (abortOf client t = 0x08000021)) = true := by
  decide +kernel
/-- CONFIGURE with an image that declares 0x3000:02 from 1,000 to 3,000. -/
def declaring : State :=
  { held 2 hspi (lab .configure) with cfg := { image := some { (default : Image) with bounds := [(okey 0x3000 2, 1000, 3000)] } } }
theorem witness_parameterStaging : (match findObj declaring 0x3000 2 with
      | .ok (_, _, row) => decide (row.acc = .srw) && row.ty.size.isSome && decide (dataCheck row (le (row.ty.size.getD 0) 3000) = 0)
      | .error _ => false) = true ∧ declared declaring 0x3000 2 = some (1000, 3000)
    ∧ after (.parameterStagingWrite hspi 0x3000 2 (le 4 3000)) declaring (fun t => decide (abortOf hspi t = 0 ∧ t.dict.staging.kind = 2)) = true
    ∧ after (.parameterStagingWrite hspi 0x3000 2 (le 4 3001)) declaring (fun t => decide (abortOf hspi t = 0x06090030)) = true
    ∧ after (.parameterStagingWrite hspi 0x3001 2 (le 4 3000)) declaring (fun t => decide (abortOf hspi t = 0x08000020)) = true
    ∧ after (.discardStaging hspi) (held 2 hspi (lab .configure)) (fun t => decide (abortOf hspi t = 0)) = true := by
  decide +kernel
/-- A commit that has reached a stage. -/
def committing (n : Nat) : State :=
  let s := held 2 hspi (lab .configure)
  let x : Staging := { kind := 1, running := n, image := some default, slot := 2, sequence := 5, requester := 1 }
  { s with dict := { s.dict with staging := { x with nums := [(okey 0x3000 2, 7)] } } }
theorem witness_imageCommit : Served hspi (committing 0) ∧ holdsSession (committing 0) hspi = true ∧ slotMay (committing 1) = true ∧ (committing 0).dict.staging.kind = 1
    ∧ (committing 1).dict.staging.image = some default ∧ fuseList default = []
    ∧ (fuseList { (default : Image) with fuseBytes := [1, 176, 0, 0, 5, 0, 0, 0] }).length = 1 ∧ mayBlow (committing 1) = false
    ∧ mayBlow { committing 1 with power := { vhold := 22000, pfailHigh := true } } = true := by unfold Served HasTurn; decide +kernel
theorem test_slotWritten : after (.imageSlotWritten true true []) (committing 1) (fun t => decide (t.dict.staging.running = 2
      ∧ t.led.slotB.header = slotHeader 5 0)) = true
    ∧ after (.imageSlotWritten true false []) (committing 1) (fun _ => true) = true := by decide +kernel
theorem test_commitComplete : after (.commitComplete true none) (committing 2) (fun t => decide (t.ctl.st = .safe
      ∧ t.dict.staging.result = 2 ∧ t.cfg.sequence = 5)) = true
    ∧ after (.commitComplete false none) (committing 2) (fun t => decide (t.dict.staging.result = 0x85)) = true := by decide +kernel
theorem witness_parameterCommit :
    Served hspi { committing 0 with dict := { (committing 0).dict with staging := { kind := 2 } } }
    ∧ holdsSession (committing 0) hspi = true ∧ (committing 3).dict.staging.running = 3 ∧ slotMay (committing 3) = true
    ∧ after (.parameterCommitComplete true) (committing 3) (fun _ => true) = true := by unfold Served HasTurn; decide +kernel

/-! ### Field inputs -/

/-- Input 31 of site 6 in use with a filter of 3 samples and OSSD tolerance 2, fed by source 7 that pulses. -/
def inNums (flags : Nat) : Table Nat := [(okey 0x3C1F 1, 1), (okey 0x3C1F 2, 3), (okey 0x3C1F 3, 7), (okey 0x3C1F 4, flags),
  (okey 0x3C1F 5, 2), (okey 0x3C27 1, 2)]
def sensing (flags : Nat) (x : InputSt) (j : SourceSt := {}) : State :=
  { lab .run (inNums flags) with field := { inputs := [(0x061F, x)], sources := [(0x0627, j)] } }
/-- A lane that is on and counts LOW samples from the first. -/
def falling : LaneIn := { on := true, first := some 1000000000000 }
theorem witness_rawStateChange : inputRuns (sensing 0 {}) 0x061F = true
    ∧ after (.rawStateChange 6 0x061F true false 1000000000000) (sensing 0 { b := { on := true, raw := true } })
      (fun t => decide ((input t 0x061F).a = { raw := true, first := some 1000000000000, past := [1000000000000] }
        ∧ (input t 0x061F).b = { falling with past := [1000000000000] })) = true
    ∧ ownMask (advance 1000000000000 (sensing 0 {} { pulses := 1, start := 999999999000, cur := 100 })) .b 0x061F 1000000000000
      = some 1000000149000
    ∧ after (.rawStateChange 6 0x061F true true 1000000000000) (sensing 0 {} { pulses := 1, start := 999999999000, cur := 100 })
      (fun t => decide ((input t 0x061F).b = { raw := true, first := some 1000000149000, past := [1000000000000] })) = true := by decide +kernel
theorem witness_filteredChange : inputForced (sensing 0 { b := falling }) 0x061F = false
    ∧ inFilter (confOf (sensing 0 { b := falling })) 0x061F = 3
    ∧ runDone (sensing 0 { b := falling }) .b 0x061F 1000000002000 3 = true
    ∧ runDone (sensing 0 { b := falling }) .b 0x061F 1000000001999 3 = false
    ∧ after (.filteredChange 6 0x061F .b 1000000002000) (sensing 0 { b := falling })
      (fun t => decide ((input t 0x061F).b.on = false ∧ (input t 0x061F).b.change = 1000000002000
        ∧ (input t 0x061F).b.edge = 1000000000000 ∧ (siteIn t 6).events.length = 1)) = true := by decide +kernel
theorem witness_ossdOff : bit (inFlags (confOf (sensing 4 { a := falling })) 0x061F) 2 = true
    ∧ runDone (sensing 4 { a := falling }) .a 0x061F 1000000002000 3 = true
    ∧ after (.ossdOff 6 0x061F .a 1000000002000) (sensing 4 { a := falling }) (fun t => decide ((input t 0x061F).a.on = false)) = true := by
  decide +kernel
/-- A plain ON against an input that is OFF, and the transition region, seen for long. -/
def reading : InputSt := { land := 20000, plainB := { since := some 1000 }, trans := { since := some 1000 } }
theorem witness_inputChecks : inputFaulted (sensing 2 {}) 0x061F = false ∧ (siteIn (sensing 2 {}) 6).invalid = false
    ∧ raises (.inputOvervoltage 6 0x061F) (sensing 2 {}) 0x0107 0x061F = true
    ∧ raises (.laneInputDisagreement 6 0x061F) (sensing 2 { a := falling }) 0x0103 0x061F = true
    ∧ raises (.plausibilityFault 6 0x061F .b) (sensing 2 reading) 0x0104 0x061F = true
    ∧ bit (inFlags (confOf (sensing 2 {})) 0x061F) 1 = true
    ∧ raises (.transitionRegionFault 6 0x061F) (sensing 2 reading) 0x0105 0x061F = true := by decide +kernel
theorem witness_readback :
    after (.readbackUpdate 6 [⟨0x061F, 40921, 4093⟩] []) (sensing 0 {}) (fun t => decide ((input t 0x061F).land = 40920
      ∧ (input t 0x061F).sink = 4092)) = true
    ∧ after (.readbackUpdate 6 [] [⟨0x0627, 45001, 601⟩]) (sensing 0 {}) (fun t => decide ((source t 0x0627).mv = 45000
      ∧ (source t 0x0627).ma = 600)) = true
    ∧ raises (.readbackCalibration 6 false) (lab .run) 0x0106 0x06FF = true := by decide +kernel
theorem witness_nextEvent : (fba (lab .run) 6).state ≠ 2
    ∧ after (.nextEventRead hspi 6) { lab .run with field := { sites := [(6, { events := [5, 6] })] } }
      (fun t => decide ((siteIn t 6).events = [6] ∧ (tget {} t.dict.replies 1).data = [5, 0, 0, 0, 0, 0, 0, 0])) = true := by
  decide +kernel
theorem witness_testPulse : sourceRuns (sensing 0 {}) 0x0627 = true
    ∧ after (.testPulseStart 6 0x0627 1000000001000) (sensing 0 {} { status := 2, width := 100 }) (fun t => !(source t 0x0627).pulse) = true
    ∧ after (.testPulseStart 6 0x0627 1000000000000) (sensing 0 {} { status := 2, width := 100 })
      (fun t => decide ((source t 0x0627).start = 1000000000000 ∧ (source t 0x0627).cur = 100) && (source t 0x0627).pulse) = true
    ∧ after (.testPulseEvaluation 6 0x0627 ⟨some 50, false, [], []⟩) (sensing 0 {} { status := 2, pulse := true })
      (fun t => decide ((source t 0x0627).taus = [50] ∧ (source t 0x0627).terminalFails = 1) && !(source t 0x0627).pulse) = true
    ∧ after (.sourceCurrentLimit 6 0x0627) (sensing 0 {} { status := 2 }) (fun t => decide ((source t 0x0627).status = 3)
      && faultActive t 0x0201 0x0627) = true
    ∧ after (.sourceRetry 6 0x0627) (sensing 0 {} { status := 3 }) (fun t => decide ((source t 0x0627).status = 2)) = true
    ∧ after (.sourceRetryConditionGone 6 0x0627) (withRecs [rec0 0x0201 0x0627 2 1 true] (sensing 0 {} { retry := true }))
      (fun t => !condPresent t 0x0201 0x0627) = true := by decide +kernel

/-! ### The pair table -/

/-- Entry 255 of a kind with one or two channels on inputs 30 and 31 of site 6. -/
def pairing (kind : Nat) (two : Bool) (p : PairSt) (on1 on2 : Bool) : State :=
  { lab .run ([(okey 0x3C1E 1, 1), (okey 0x3C1F 1, 1), (okey 0x3EFF 1, kind), (okey 0x3EFF 2, 0x061E)]
      ++ if two then [(okey 0x3EFF 3, 0x061F)] else []) with
    pairs := [(255, p)]
    field := { inputs := [(0x061E, { a := { on := on1 }, b := { on := on1 } }), (0x061F, { a := { on := on2 }, b := { on := on2 } })] } }
theorem witness_discrepancyOn : let s := pairing 1 true { a := { code := 1 } } true false
    chanOn s .a 255 1 = true ∧ (pairLane s .a 255).lead = 1 ∧ (doorsOf (confOf s) 255).length ≤ 16
    ∧ (pairChans (confOf s) 255).all (fun i => !dueAt s .a (discNs (confOf s) .a 255 + 1000) i) = true ∧ heldOut s .a 255 = false
    ∧ after (.discrepancyDeadline 255 .a) s (fun t => decide ((pair t 255).a.code = 4) && faultActive t 0x010A 0x061E) = true := by
  decide +kernel
theorem witness_discrepancyOff : let s := pairing 1 true { b := { code := 3 } } true false
    faultActive s 0x0109 0x061F = false
    ∧ after (.discrepancyDeadline 255 .b) s (fun t => decide ((pair t 255).b.code = 5) && faultActive t 0x0109 0x061F) = true := by
  decide +kernel
theorem witness_samplingStart : let s := pairing 3 false { a := { code := 6, soft := true, starting := true } } true false
    twoChan (confOf s) 255 = false
    ∧ after (.samplingStartHoldEnd 255 .a 1000000000000) s (fun t => decide ((pair t 255).a.code = 2) && (pair t 255).stuck
      && faultActive t 0x010B 0x061E) = true := by decide +kernel
theorem witness_presses : let s := pairing 3 false { a := { code := 2, press := some 5 }, b := { code := 2, press := some 5 } } true false
    after (.resetPressOverlong 255 .a) s (fun t => (pair t 255).a.discard && faultActive t 0x010C 0x061E) = true
    ∧ after (.resetButtonStuck 255) s (fun t => (pair t 255).stuck && faultActive t 0x010B 0x061E) = true
    ∧ after (.resetStuckLift 255) (pairing 3 false { stuck := true, a := { zero := some 5 }, b := { zero := some 6 } } false false) (fun t => !(pair t 255).stuck) = true := by
  decide +kernel

/-! ### The function block arrays -/

/-- Site 6 with an array in a state, one slot and its block. -/
def array (st : Nat) (x : Slot) (b : Blk) (outs : Nat := 0) : State :=
  { lab .run with array := { fba := [(6, { state := st, slots := [x], blocks := [(0, b)], outs := [(0, outs)], demands := 5 })] } }
theorem witness_window : populated (lab .run) 6 = true
    ∧ after (.evaluationWindow 6 200000000 none (.corrected 0)) (array 1 { ins := [0x1000] } {} 1) (fun t => decide ((fba t 6).ticks = 1
      ∧ (fba t 6).scan = 16 ∧ 0 < (fba t 6).railFaults ∧ (fba t 6).corrected = 1 ∧ t.time.now = 2000000010000) && (fba t 6).wasRun) = true
    ∧ after (.evaluationWindow 6 0 none .clean) (array 2 {} {}) (fun t => decide ((fba t 6).ticks = 0 ∧ (fba t 6).demands = 5)) = true
    ∧ after (.windowOverrun 6) (array 1 {} {}) (fun t => decide ((fba t 6).demands = 5) && faultActive t 0x0508 0x06FF) = true
    ∧ hasAlane (array 1 { ty := 0x28 } {}) 6 = true
    ∧ after (.islandStatusInvalid 6) (array 1 { ty := 0x28 } {}) (fun t => !faultActive t 0x0509 0x06FF) = true
    ∧ after (.islandStatusInvalid 6) (modFba 6 (fun a => { a with invalid := 2 }) (array 1 { ty := 0x28 } {})) (fun t => decide ((fba t 6).invalid = 3)
      && faultActive t 0x0509 0x06FF) = true := by decide +kernel
theorem witness_timers :
    slotIn (latchNets 6 (array 1 { ty := 8, ins := [1], p0 := 20 } { prev := true })) 6 { ty := 8, ins := [1], p0 := 20 } 0 = true
    ∧ after (.blockTimerExpiry 6 0 1) (array 1 { ty := 8, ins := [1], p0 := 20 } { prev := true })
      (fun t => decide (tget 0 (fba t 6).outs 0 = 1)) = true
    ∧ slotIn (latchNets 6 (array 1 { ty := 0xA, ins := [0], p0 := 20 } {} 1)) 6 { ty := 0xA, ins := [0], p0 := 20 } 0 = false
    ∧ after (.blockTimerExpiry 6 0 1) (array 1 { ty := 0xA, ins := [0], p0 := 20 } {} 1)
      (fun t => decide (tget 0 (fba t 6).outs 0 = 0)) = true
    ∧ after (.blockTimerExpiry 6 0 1) (array 1 { ty := 9, ins := [0], p0 := 20 } {} 1)
      (fun t => decide (tget 0 (fba t 6).outs 0 = 0)) = true := by decide +kernel
theorem witness_edm : let x : Slot := { ty := 0x18, ins := [1, 1], p0 := 19, p1 := 19, p2 := 15 }
    heldOff (array 1 x { ran := true, code := 1 }) 0x064F = false
    ∧ raises (.edmTimeout 6 0 1) (array 1 x { ran := true, code := 1 }) 0x030C 0x064F = true
    ∧ raises (.edmTimeout 6 0 1) (array 1 { x with ins := [0, 0] } { ran := true, code := 3 }) 0x030D 0x064F = true := by
  decide +kernel
theorem witness_brakes : let x : Slot := { ty := 0x19, ins := [1], p0 := 1, p2 := 20 }
    brakeBlocked (array 1 x { code := 1 }) 0x0661 = false ∧ heldOff (array 1 x { code := 1 }) 0x0661 = false
    ∧ after (.brakePullInElapsed 6 0 1) (array 1 x { code := 1 }) (fun t => decide ((blk t 6 0).code = 2)) = true
    ∧ brakeSlot (array 1 x { code := 3, phase := 1 }) 0x0661 = some 0
    ∧ after (.mechanicalTestPhaseEnd 6 0x0661) (array 1 x { code := 3, phase := 1 }) (fun t => decide ((blk t 6 0).phase = 2)) = true
    ∧ after (.mechanicalTestPhaseEnd 6 0x0661) (array 1 x { code := 3, phase := 3 }) (fun t => decide ((blk t 6 0).code = 0
      ∧ (brake t 0x0661).mech = 1)) = true := by decide +kernel
/-- The same with the item of the array in a state. -/
def arrayItem (st n : Nat) : State := { array st {} { phase := 2 } with test := { items := [(10, { state := n, copy := [(0, { q := true })] })] } }
theorem witness_arrayBist : arrayMay (arrayItem 1 1) 6 = true ∧ arrayMay (arrayItem 1 1) 5 = false
    ∧ itemAge (arrayItem 1 1) 10 = 1000000000000
    ∧ after (.arrayBistStart 6) (arrayItem 1 1) (fun t => decide ((fba t 6).state = 2 ∧ (item t 10).copy = [(0, { phase := 2 })])) = true
    ∧ bistJudge 10 ⟨0, 8191, 900⟩ (arrayItem 2 2) ≠ 1
    ∧ after (.arrayBistEnd 6 0 ⟨0, 8191, 900⟩ true) (arrayItem 2 2) (fun t => decide ((fba t 6).state = 3
      ∧ (item t 10).state = 1)) = true := by decide +kernel

/-! ### Outputs, returns, supplies and brakes -/

/-- Output 15, return 7 and brake 1 of site 6 in use and on, with their supplies. -/
def driving (x : OutSt) : State :=
  { lab .run [(okey 0x3C4F 1, 2), (okey 0x3C4F 2, 7), (okey 0x3C4F 7, 3), (okey 0x3C57 1, 1), (okey 0x3C61 1, 1)] with
    power := { supplies := [(0x0671, { status := 1 }), (0x0672, { status := 1 })] }
    array := { fba := [(6, { state := 1, demands := 0x3FFFFFF, slots := [{ ty := 0x19, p0 := 1 }], blocks := [(0, { code := 2 })] })],
               island := [(6, { word := 0x3FFFFFF })] }
    outs := { elems := [(0x064F, x)] } }
/-- The same with every switch open. -/
def idle (x : OutSt) : State := { driving x with array := { fba := [(6, { state := 1 })] } }
theorem witness_elementMonitors : elOn (driving {}) 0x064F = true ∧ elOn (driving {}) 0x0657 = true
    ∧ raises (.outputCurrentLimit 6 0x064F) (driving {}) 0x0301 0x064F = true
    ∧ raises (.returnCurrentLimit 6 0x0657) (driving {}) 0x030B 0x0657 = true
    ∧ outReturn (confOf (driving {})) 0x064F = some 0x0657
    ∧ raises (.pmCurrentMismatch 6 ⟨0x064F, 1000, 0⟩) (driving {}) 0x0309 0x064F = true
    ∧ bit (outFlags (confOf (driving {})) 0x064F) 1 = true
    ∧ raises (.minimumLoad 6 ⟨0x064F, 0⟩) (driving {}) 0x0307 0x064F = true := by decide +kernel
theorem witness_feeds : elOff (idle {}) 0x064F = true ∧ feedOther (idle {}) 0x0304 0x064F = false
    ∧ raises (.externalFeed 6 0x064F 1101) (idle {}) 0x0304 0x064F = true
    ∧ after (.externalFeedGone 6 0x064F 499) (withRecs [rec0 0x0304 0x064F 2 1 true] (idle {}))
      (fun t => !condPresent t 0x0304 0x064F) = true
    ∧ after (.groupCurrentMean 6 1 6000001) (idle {}) (fun t => groupOver t 6 1 && faultActive t 0x0308 0x06FF) = true
    ∧ after (.groupCurrentMean 6 1 6000000) (idle {}) (fun t => !groupOver t 6 1) = true := by decide +kernel
/-- The start of a test of output 15 of site 6 in a test frame that is due, 31,264, and the same state with what the two
sides were told to test. -/
def testAt : Nat := 1000463100000
def told (sw : Nat) (s : State) : State :=
  let l : List Announce := [{ frame := 31264, element := 0x064F, switch := sw }]
  { s with array := { s.array with island := tmod {} s.array.island 6 (fun i => { i with announced := l, announcedB := l }) } }
/-- A reading of a side: 20 mA or 21 mA through the open switch. -/
def pass : DarkReading := { ma := 20, land := 1100, across := 0 }
def fails : DarkReading := { ma := 21, land := 1100, across := 0 }
theorem witness_darkTest : let s := told 0 (driving {})
    inSlot s 0x064F testAt = true ∧ testDue s 0x064F testAt = true ∧ names (island s 6).announcedB s 0x064F testAt 0 = true
    ∧ after (.darkTestStart 0x064F testAt) s (fun t => decide ((elem t 0x064F).test = 1 ∧ (elem t 0x064F).begun = testAt)) = true
    ∧ after (.darkTestStart 0x064F testAt) (told 1 s) (fun t => decide ((elem t 0x064F).test = 0)) = true
    ∧ darkOutcome 0x064F pass = 0 ∧ darkOutcome 0x064F fails = 1
    ∧ after (.darkTestEvaluation 0x064F ⟨pass, pass⟩) (driving { test := 1, begun := 5 })
      (fun t => decide ((elem t 0x064F).tests = 1 ∧ (elem t 0x064F).next = 1 ∧ (elem t 0x064F).lastTestTime = 5)) = true
    ∧ after (.darkTestEvaluation 0x064F ⟨fails, pass⟩) (driving { test := 1 })
      (fun t => decide ((elem t 0x064F).failed = 1 ∧ (elem t 0x064F).next = 0)) = true
    ∧ raises (.darkTestEvaluation 0x064F ⟨pass, fails⟩) (driving { test := 1, failedA := 1 }) 0x0302 0x064F = true := by
  decide +kernel
theorem witness_lightTest : bit (outFlags (confOf (idle {})) 0x064F) 0 = true ∧ heldA (idle {}) 0x064F = false
    ∧ heldB (idle {}) 0x064F = false ∧ lightFree (idle {}) 0x064F = true ∧ inRun (idle {}) = true
    ∧ elOff (idle {}) 0x064F = true ∧ testDue (told 2 (idle {})) 0x064F testAt = true
    ∧ after (.lightTestStart 6 0x064F testAt) (told 2 (idle {})) (fun t => decide ((elem t 0x064F).test = 2)) = true
    ∧ after (.lightTestStart 6 0x064F testAt) (idle {}) (fun t => decide ((elem t 0x064F).test = 0)) = true
    ∧ after (.lightTestEvaluation 6 0x064F 1100) (idle { test := 2, lightFails := 1 }) (fun t => decide ((elem t 0x064F).lightFails = 0)
      && !faultActive t 0x0306 0x064F) = true
    ∧ raises (.lightTestEvaluation 6 0x064F 1099) (idle { test := 2, lightFails := 1 }) 0x0306 0x064F = true := by decide +kernel
theorem witness_groupSupplies : monitors (driving {}) 0x0672 = true ∧ supplySeen (driving {}) 0x0672 = true ∧ supplyOk (driving {}) 0x0672 = true
    ∧ raises (.groupSupplyWarning 6 0x0672 19199) (driving {}) 0x0B21 0x0672 = true
    ∧ after (.groupSupplyWarningClear 6 0x0672 19701) (driving {}) (fun t => decide ((supply t 0x0672).status = 1)) = true
    ∧ after (.groupSupplyUndervoltage 6 0x0671 16799) (driving {}) (fun t => !driveB t 0x064F && faultActive t 0x0B22 0x0671) = true
    ∧ after (.groupSupplyOvervoltage 6 0x0671 33001) (driving {}) (fun t => !driveB t 0x064F && faultActive t 0x0B23 0x0671) = true
    ∧ after (.groupSupplyPresent 6 0x0670 18000) (driving {}) (fun t => decide (supply t 0x0670 = { status := 1, mv := 18000 })) = true := by
  decide +kernel
theorem witness_coils : coilChecked (driving {}) 0x0661 = true ∧ brakeCode (driving {}) 0x0661 = 2
    ∧ raises (.coilOpen 6 0x0661) (driving {}) 0x0401 0x0661 = true
    ∧ raises (.coilOvercurrent 6 0x0661 4001) (driving {}) 0x0402 0x0661 = true
    ∧ brakeCfg (confOf (driving {})) 0x0661 3 2000 * 20 < ndist 1599 (brakeCfg (confOf (driving {})) 0x0661 3 2000) * 100
    ∧ raises (.holdingCurrentFault 6 0x0661 1599) (driving {}) 0x0405 0x0661 = true
    ∧ raises (.signatureDecision 6 0x0661 []) { driving {} with outs := { brakes := [(0x0661, { pending := true })] } } 0x0403 0x0661 = true := by
  decide +kernel
theorem witness_brakeInterval :
    let s := lab .run [(okey 0x3C61 1, 1), (okey 0x3C61 0xC, 1)]
    let u := { s with time := { s.time with opNs := 3600000000000 } }
    (brakeLearn u 0x0661).lastPass + brakeCfg (confOf u) 0x0661 0xC 0 * 3600 * 1000000000 ≤ u.time.opNs
    ∧ raises (.mechanicalTestOverdue 6 0x0661) u 0x0407 0x0661 = true := by decide +kernel
theorem witness_relearn : Served hspi (held 3 hspi (lab .maintenance))
    ∧ after (.relearn hspi 0x60CF) { held 3 hspi (lab .maintenance) with outs := { learn := [(0x064F, { learned := 5, ons := 9 })] } }
      (fun t => decide (learn t 0x064F = { ons := 9 } ∧ abortOf hspi t = 0 ∧ t.led.backup.learn = [(0x064F, { ons := 9 })])) = true := by unfold Served HasTurn; decide +kernel

/-! ### Fault collection and self-test -/

/-- A report of an input fault, and of an L4 fault. -/
def rep2 : Report := { code := 0x0107, source := 0x061F, time := 1000000000000 }
def rep4 : Report := { code := 0x0B03, source := 0x0760, time := 1000000000000 }
/-- A collector without room. -/
def full : State := withRecs ((upto 1024).map (fun n => rec0 0x0102 0x061F 2 (n + 1) false)) (lab .safe)
theorem witness_room : room (lab .run) ∧ reportable rep2 = true ∧ reportable rep4 = true
    ∧ (lab .run).time.now ≤ tick10 rep4.time + 20000 ∧ rep4.lvl = 4 ∧ rep2.lvl = 1 ∧ faultActive (lab .run) rep4.code rep4.source = false := by
  unfold room; decide +kernel
theorem witness_noRoom : room full = false ∧ 2 ≤ rep4.lvl ∧ Unreported rep4.code rep4.source full
    ∧ full.time.now ≤ tick10 rep4.time + 20000 := by unfold Unreported; decide +kernel
theorem test_faultReport : raises (.faultReport rep2) (lab .run) 0x0107 0x061F = true
    ∧ after (.faultReport rep4) (lab .run) (fun t => decide (t.col.curfew = 0x7F ∧ (Machine.core t 0).role = .halted
      ∧ t.ctl.request = none ∧ t.ctl.st = .run)) = true := by decide +kernel
/-- A report that waits for its commit. -/
def waiting (a : Report) : State := { lab .run with col := { pending := [{ rep := a }], next := 0xFFFFFFFE } }
theorem witness_commit : (waiting rep2).col.records.any (Record.escalates · rep2) = false
    ∧ after (.faultRecordCommit 1000000019999) (waiting rep2) (fun t => decide (t.col.records = [])) = true
    ∧ after (.faultRecordCommit 1000000020000) (waiting rep2) (fun t => decide (t.col.next = 1 ∧ t.col.total = 1 ∧ t.ctl.st = .run
      ∧ t.col.records.map (fun r => (r.code, r.seq, r.level)) = [(0x0107, 0xFFFFFFFE, 1)])) = true
    ∧ after (.faultRecordCommit 1000000020000) (waiting rep4) (fun t => decide (t.ctl.st = .halt)) = true := by decide +kernel
/-- A record that has been gone for its quiet period of 60 s, with a number of recoveries in its window. -/
def quiet (n : Nat) : State :=
  { lab .safe [(okey 0x2601 1, 60)] with col := { records := [{ rec0 0x0107 0x061F 2 1 false with goneAt := 940000000000 }],
                                                  classes := [(1, { times := (upto n).map (fun _ => 900000000000) })] } }
theorem witness_quietPeriod : recOf (quiet 2).col.records 1 = some { rec0 0x0107 0x061F 2 1 false with goneAt := 940000000000 }
    ∧ limitOf (confOf (quiet 2)) 1 = 3
    ∧ after (.quietPeriodEnd 1) (quiet 2) (fun t => decide ((tget {} t.col.classes 1).counter = 1)
      && t.col.records.all (fun r => !r.uncleared && r.recovered)) = true
    ∧ after (.quietPeriodEnd 1) (quiet 3) (fun t => t.col.records.all (fun r => r.permanent)) = true := by decide +kernel
/-- A state with one record of an input fault. -/
def oneRec (present : Bool) : State :=
  let s := withRecs [rec0 0x0107 0x061F 2 7 present] (held 3 hspi (lab .maintenance))
  { s with col := { s.col with history := [7], first := some 7 } }
theorem witness_acknowledge :
    after (.acknowledge hspi 7) (oneRec false) (fun t => decide (abortOf hspi t = 0 ∧ t.col.lastAck = 1)
      && t.col.records.all (fun r => !r.uncleared && r.acked)) = true
    ∧ after (.acknowledge hspi 7) (oneRec true) (fun t => decide (abortOf hspi t = 0x08000022)) = true
    ∧ after (.acknowledge hspi 0xFFFFFFFE) (oneRec true) (fun t => decide (abortOf hspi t = 0x06090030)) = true := by decide +kernel
/-- The same with the record recovered in this time tick. -/
def oneRecovered : State :=
  let s := oneRec false
  { s with col := { s.col with
    classes := [(1, { counter := 5, times := [1], last := 9 })]
    records := [{ rec0 0x0107 0x061F 2 7 false with status := 1, recovered := true, recAt := 1000000000001, recLast := 4 }] } }
theorem witness_ackRecovered : oneRecovered.col.records.all (fun r => !r.uncleared && recoveredNow oneRecovered r) = true
    ∧ after (.acknowledge hspi 7) oneRecovered (fun t => decide (abortOf hspi t = 0 ∧ t.col.lastAck = 1
      ∧ tget {} t.col.classes 1 = { counter := 4, times := [], last := 4 })
      && t.col.records.all (fun r => r.acked && !r.recovered)) = true := by decide +kernel
theorem witness_firstFault : (oneRec true).col.first = some 7
    ∧ after (.releaseFirstFault hspi) (oneRec true) (fun t => decide (abortOf hspi t = 0x08000022 ∧ t.col.first = some 7)) = true
    ∧ after (.clearHistory hspi) (oneRec true) (fun t => decide (t.col.history = [7] ∧ abortOf hspi t = 0)) = true
    ∧ (match shownRec (oneRec false) 0x2501 1 with
      | some x => !x.present
      | none => false) = true
    ∧ after (.faultRecordRead hspi 0x2501 1) (oneRec false) (fun t => t.col.records.all (fun r => r.read)) = true := by decide +kernel
theorem witness_injections :
    after (.faultInjectionStart hspi) (oneRec true) (fun t => decide (t.col.result = 1 ∧ abortOf hspi t = 0)) = true
    ∧ after (.resetRecoveryCounter hspi 16) { oneRec true with col := { classes := [(16, { counter := 4 })] } }
      (fun t => decide ((tget {} t.col.classes 16).counter = 0)) = true
    ∧ after (.faultInjection false) { oneRec true with col := { result := 1, checker := 0x0700 } } (fun t => decide (t.col.made = 1
      ∧ t.col.misses = 1 ∧ t.col.result = 3) && faultActive t 0x0701 0x0700) = true
    ∧ realFault (oneRec true) 0x0700 0 = some (momentary (report (oneRec true) 0x0703 0x0700))
    ∧ after (.faultInjection true) { oneRec true with col := { result := 1, checker := 0x0700, mode := 2 } }
      (fun t => faultActive t 0x0703 0x0700) = true := by decide +kernel
theorem witness_chimeRound : chimeRuns (lab .safe) = true ∧ (roundCheckers (lab .safe)).length ≠ 0
    ∧ after (.chimeRound []) (lab .safe) (fun t => decide (t.col.rounds = 1 ∧ t.col.misses = 0)) = true
    ∧ after (.chimeRound [0x0600]) (lab .safe) (fun t => decide (tget 3 t.col.good 0x0600 = 0)) = true := by decide +kernel
theorem witness_summary : (lab .safe).led.openRecs.length < pageRoom (lab .safe) (lab .safe).led.nextPage
    ∧ after (.summaryRecordWindow 5) { lab .safe with breach := { window := [(5, 3)] } } (fun t => decide (t.breach.window = []
      ∧ t.led.openRecs.map (fun r => (r.type, r.rank)) = [(0, 0), (7, 3)])) = true := by decide +kernel

theorem witness_itemEligible : itemExists (lab .safe) 11 = true
    ∧ after (.itemEligible 11) { lab .safe with time := { opNs := 3240000000000 } } (fun t => decide ((item t 11).state = 1)) = true
    ∧ after (.itemEligible 11) { lab .safe with time := { opNs := 3239999999999 } } (fun t => decide ((item t 11).state = 0)) = true
    ∧ after (.itemEligible 3) { lab .safe with time := { opNs := 3240000000000 } } (fun t => decide (t.test.untested = roundOrder (lab .safe))) = true := by
  decide +kernel
theorem witness_testRequest : after (.testRequest hspi 11) (lab .safe) (fun t => decide ((item t 11).state = 1 ∧ abortOf hspi t = 0)) = true := by
  decide +kernel
/-- A round with core 3 to be tested, and one with core 3 under test. -/
def round1 : State := { lab .safe with
  proc := { (lab .safe).proc with boundary := 1000000000000 }, test := { untested := [3, 0] } }
def testing : State :=
  modCore 3 (fun c => { c with role := .underTest }) { lab .safe with test := { items := [(3, { state := 2 })], untested := [0] } }
theorem witness_rotation : liveRound round1 = [3, 0] ∧ coreTesting round1 = false ∧ (freeStandby round1).isSome = true
    ∧ after .rotationStep round1 (fun t => decide ((Machine.core t 3).role = .underTest ∧ (item t 3).state = 2)) = true
    ∧ after .rotationStep { round1 with test := { untested := [0] } } (fun t => decide (t.test.handover = some 0)) = true
    ∧ stepMay round1 = true ∧ stepMay { round1 with test := { stepEnd := 1000000000001 } } = false
    ∧ raises (.coreBistComplete 3 ⟨0, 8191, 500⟩) testing 0x0E11 0x0703 = true := by decide +kernel
/-- Sound logic passes: the signature that the engine gives is the expected one. -/
theorem witness_bistSound : bistJudge 10 ⟨Config.bistMisr 1 (item (arrayItem 2 2) 10).seed, 8192, 900⟩ (arrayItem 2 2) = 1
    ∧ bistJudge 3 ⟨Config.bistMisr 0 (item testing 3).seed, 8192, 500⟩ testing = 1 := by
  simp [bistJudge, bistSignature, bistExpected, engineOf]
theorem witness_ts3 :
    after .ts3MemoryBistStart { lab .safe with test := { items := [(11, { state := 1 })] } } (fun t => decide ((item t 11).state = 2)) = true
    ∧ after (.ts3MemoryBistComplete true) { lab .safe with test := { items := [(11, { state := 2 })] } }
      (fun t => decide ((item t 11).state = 0 ∧ (item t 11).result = 1)) = true
    ∧ after (.ts3MemoryBistComplete false) { lab .safe with test := { items := [(11, { state := 2 })] } }
      (fun t => decide ((item t 11).state = 4) && faultActive t 0x0E14 0x0733) = true := by decide +kernel
theorem witness_calibration : calMay (lab .safe) 0x064F 0 = true
    ∧ after (.calibration 0x064F ⟨0, true⟩) { lab .safe with outs := { elems := [(0x064F, { calLate := true })] } }
      (fun t => !(elem t 0x064F).calLate) = true
    ∧ raises (.calibration 0x064F ⟨21, false⟩) (lab .safe) 0x0E19 0x064F = true
    ∧ srcExists (lab .safe) 0x064F = true ∧ calDue (lab .safe) 0x064F = true
    ∧ (let s : State := { driving {} with time := { opNs := 86400000000000 } }
      calMay s 0x064F 0 = false ∧ calSince s 0x064F + 86400 * second ≤ s.time.opNs)
    ∧ raises (.calibrationOverdue 0x064F) { driving {} with time := { opNs := 86400000000000 } } 0x0E18 0x064F = true
    ∧ raises (.testOverdue 11) { lab .safe with time := { opNs := 3600000000000 } } 0x0E15 (itemSrc 11) = true
    ∧ raises (.testOverdue 11) { lab .safe with time := { opNs := 7200000000000 } } 0x0E16 (itemSrc 11) = true := by decide +kernel

/-! ### Networks -/

/-- Ethernet ports 0 to 7 enabled, with the link up on port 7, station 1 with an address, redundancy off or on. -/
def networked (p : EthPort) (w : Switch) (mode : Nat := 0) : State :=
  { lab .safe ([(okey 0x2B04 0xB, 0x0A000001), (okey (capAt [2, 3, 4, 11] 4) 5, mode)]
      ++ (upto 8).map (fun k => (okey (0x2B00 + k) 1, 1))) with
    net := { ports := [(5, { up := true }), (7, { p with up := true })], switches := [(1, w)] } }
/-- A frame for station 1. -/
def kdpIn : EthFrame :=
  { dst := stationMac (networked {} {}) 1, src := 9, content := .kdp 0x0A000002 50000 38417 false goodFrame }
theorem witness_ports : portEnabled (networked {} {}) 7 = true ∧ portUp (networked {} {}) 7 = true
    ∧ after (.portLinkChange 7 true 2 true) (networked {} {}) (fun t => decide ((ethPort t 7).up = false ∧ (ethPort t 7).speed = 2)) = true
    ∧ after (.phyStatusPoll [⟨7, true, 2, false⟩]) (networked {} {}) (fun t => (ethPort t 7).up) = true
    ∧ after (.ethernetFrameReceived 7 { kdpIn with length := 1523 }) (networked {} {}) (fun t => decide ((ethPort t 7).dropped = 1)) = true
    ∧ isGroup 9 = false ∧ switchMode (networked {} {}) 1 = 0 ∧ stationIp (networked {} {}) 1 = 0x0A000001
    ∧ after (.ethernetFrameReceived 7 kdpIn) (networked {} {}) (fun t => decide ((ethPort t 7).rx = 1
      ∧ tfind (switch t 1).macs 9 = some 7
      ∧ t.dict.udp = [⟨{ code := 4, ip := 0x0A000002, port := 50000 }, goodFrame, 1000000000000⟩])) = true := by decide +kernel
theorem witness_stations :
    after (.arpRequest 1 true 5 6 0x0A000001) (networked {} {}) (fun t => decide (tfind (switch t 1).arp 5 = some 6)) = true
    ∧ after (.arpEntryExpiry 1 5) (networked {} { arp := [(4, 1), (5, 2)] }) (fun t => decide ((switch t 1).arp = [(4, 1)])) = true
    ∧ after (.addressEntryAgeing 1 5) (networked {} { macs := [(5, 2)] }) (fun t => decide ((switch t 1).macs = [])) = true
    ∧ after (.icmpEchoRequest 1 5) (networked {} { icmp := (upto 9).map (fun _ => 1000000000000) }) (fun t => decide ((switch t 1).icmp.length = 10)) = true
    ∧ after (.icmpEchoRequest 1 5) (networked {} { icmp := (upto 10).map (fun _ => 1000000000000) }) (fun t => decide ((switch t 1).icmp.length = 10)) = true
    ∧ after (.frameTransmitComplete 7) (networked { sending := some kdpIn, q2 := [kdpIn] } {})
      (fun t => decide ((ethPort t 7).tx = 1 ∧ (ethPort t 7).sending = some kdpIn ∧ (ethPort t 7).q2 = [])) = true := by decide +kernel
theorem witness_redundancy : switchMode (networked {} {} 1) 1 = 1
    ∧ after (.supervisionFrameSend 1) (networked {} { redSeq := 65535 } 1) (fun t => decide ((switch t 1).redSeq = 0)) = true
    ∧ after (.supervisionLoss 5) (networked {} {} 1) (fun t => (ethPort t 5).supLost) = true
    ∧ after (.supervisionFrameReceived 5) (networked {} {} 1) (fun t => !(ethPort t 5).supLost) = true
    ∧ after (.duplicateEntryForget 1 5 0) (networked {} { dups := [(5, 0), (5, 1)] }) (fun t => decide ((switch t 1).dups = [(5, 1)])) = true := by
  decide +kernel
/-- CN1 with node 5. -/
def onCan (p : CanPort) (st : DevState := .safe) : State :=
  { lab st [(okey 0x2B10 1, 5), (okey 0x2B11 1, 5)] with net := { cans := [(if st = .halt then 0 else 1, p)] } }
theorem witness_can : canRuns (onCan {}) 1 = true
    ∧ after (.canFrameReceived 1 0x605 false false false []) (onCan { bus := 0, recv := 127 }) (fun t => decide ((canPort t 1).recv = 128
      ∧ (canPort t 1).bus = 1)) = true
    ∧ after (.canFrameReceived 1 0x605 false false true []) (onCan { bus := 0, recv := 128 }) (fun t => decide ((canPort t 1).recv = 127
      ∧ (canPort t 1).bus = 0 ∧ (canPort t 1).rx = 1)) = true
    ∧ after (.busOff 1) (onCan { bus := 1 }) (fun t => decide ((canPort t 1).bus = 2)) = true
    ∧ after (.busOffRecovery 1) (onCan { bus := 2, tec := 250 }) (fun t => decide ((canPort t 1).bus = 0 ∧ (canPort t 1).tec = 0
      ∧ (canPort t 1).offs = 1)) = true := by decide +kernel
theorem witness_nmt : canNode (onCan {}) 1 = 5
    ∧ after (.nmtStart 1 0) (onCan { bus := 0 }) (fun t => decide ((canPort t 1).nmt = 5)) = true
    ∧ after (.nmtStop 1 5) (onCan { bus := 0 }) (fun t => decide ((canPort t 1).nmt = 4)) = true
    ∧ after (.nmtEnterPreOperational 1 5) (onCan { bus := 0 }) (fun t => decide ((canPort t 1).nmt = 0x7F)) = true
    ∧ after (.nmtResetCommunication 1 5) (onCan { bus := 1, recv := 200 }) (fun t => decide ((canPort t 1).out = [{ id := 0x705, data := [0] }])) = true
    ∧ after (.nmtResetNode 1 5) (onCan { bus := 1, recv := 200 }) (fun t => decide ((canPort t 1).out = [{ id := 0x705, data := [0] }])) = true
    ∧ canRuns (onCan { bus := 0 } .halt) 0 = true
    ∧ after (.nmtStart 0 0) (onCan { bus := 0 } .halt) (fun t => decide ((canPort t 0).nmt = 0)) = true
    ∧ after .heartbeat { onCan { bus := 1, recv := 200, nmt := 5 } with dict := { heartbeat := 100 } }
      (fun t => decide ((canPort t 1).out = [{ id := 0x705, data := [5] }])) = true := by decide +kernel
/-- Genxon link 7 in use, its peer 12 on link 3. -/
def linked (x : LinkSt) : State :=
  { lab .safe [(okey 0x2B27 1, 1), (okey 0x2B27 2, 12), (okey 0x2B27 3, 3)] with net := { links := [(7, x)] } }
/-- The hello of a peer. -/
def helloFrame (device : Nat) : List Byte := linkFrame 2 (be 4 0 ++ be 2 device ++ be 1 3 ++ be 8 77)
theorem witness_links : linkOn (linked {}) 7 = true
    ∧ after (.commaAlignment 7) (linked {}) (fun t => decide ((link t 7).state = 1)) = true
    ∧ after (.linkSynced 7) (linked { state := 1 }) (fun t => (link t 7).synced) = true
    ∧ after (.linkSymbolLoss 7) (linked { state := 3 }) (fun _ => true) = true
    ∧ after (.helloTimeout 7) (linked { state := 2 }) (fun t => decide ((link t 7).state = 0)) = true
    ∧ after (.frameInterrupted 7) (linked { state := 2 }) (fun _ => true) = true := by decide +kernel
theorem witness_hellos : linkFrameOk (helloFrame 12) = true ∧ linkFrameOk [2, 15] = false
    ∧ after (.helloSend 7) (linked { state := 1, synced := true }) (fun t => decide ((link t 7).out.length = 1)) = true
    ∧ after (.helloReceived 7 ⟨0, 12, 3, 77⟩) (linked { state := 1, synced := true }) (fun t => decide ((link t 7).state = 2
      ∧ (link t 7).serial = 77)) = true
    ∧ after (.helloReceived 7 ⟨0, 13, 3, 77⟩) (linked { state := 1, synced := true }) (fun t => decide ((link t 7).state = 3)
      && faultActive t 0x0C10 0x0727) = true
    ∧ after (.linkFrameReceived 7 [2, 15]) (linked { state := 1, synced := true }) (fun t => decide ((link t 7).discarded = 1)) = true
    ∧ after (.linkFrameReceived 7 (helloFrame 12)) (linked { state := 1, synced := true }) (fun t => decide ((link t 7).state = 2)) = true := by
  decide +kernel

/-- Connection 511 receives from device 9, connection 8, over link 7. -/
def safeConn (x : Conn) : State :=
  { lab .run [(okey 0x2DFF 1, 2), (okey 0x2DFF 2, 9), (okey 0x2DFF 3, 8), (okey 0x2DFF 5, 0x800)] with net := { conns := [(511, x)] } }
/-- A telegram for it with a sequence number. -/
def tel (seq : Nat) : List Byte :=
  let b := telBody 1 0 (recvIdent (safeConn {}) 511) seq 0 [0xAB]
  b ++ be 4 (safeCrc 0 b)
theorem witness_telegrams : receives (safeConn {}) 511 = true ∧ telShape (safeConn {}) 11 (tel 5) (parseTel (tel 5)) = true
    ∧ recvConn (safeConn {}) (parseTel (tel 5)).ident = some 511 ∧ (connRoutes (confOf (safeConn {})) 511).contains 11 = true
    ∧ (parseTel (tel 5)).crc = safeCrc 0 (parseTel (tel 5)).covered ∧ connMac (confOf (safeConn {})) 511 = false
    ∧ domainId (safeConn {}) = 0 := by decide +kernel
theorem test_telegrams :
    after (.telegramReceived 11 [1] 0) (safeConn {}) (fun t => decide (t.net.formatCrc = 1)) = true
    ∧ after (.telegramReceived 11 ((tel 5).dropLast ++ [0]) 0) (safeConn {}) (fun t => decide ((conn t 511).crc = 1)) = true
    ∧ after (.telegramReceived 11 (tel 5) 0) (safeConn { state := 1, seq := 5, fixed := true }) (fun t => decide ((conn t 511).repeats = 1)) = true
    ∧ after (.telegramReceived 11 (tel 5) 0) (safeConn { state := 1, seq := 4, last := 4, fixed := true, run := 2, lastAt := 999999900000 })
      (fun t => decide ((conn t 511).state = 2 ∧ (conn t 511).payload = [0xAB]) && (conn t 511).dog) = true := by decide +kernel
theorem witness_watchdog : raises (.watchdogExpiry 511) (safeConn { state := 2, dog := true }) 0x0C01 0x11FF = true
    ∧ after (.watchdogExpiry 511) (safeConn { state := 1, dog := true }) (fun t => decide ((conn t 511).state = 1)
      && !(conn t 511).dog) = true := by decide +kernel
/-- A pair of packages on connection 0 over links 0 and 1. -/
def paired : State :=
  { lab .run [(okey (capAt [2, 3, 4, 11] 11) 4, 0), (okey 0x2C00 1, 3), (okey 0x2C00 5, 0x30), (okey 0x2B20 1, 1), (okey 0x2B21 1, 1)] with
    net := { links := [(0, { state := 2 }), (1, { state := 2 })], pairing := { differing := [0x061F] } } }
theorem witness_pairing : pairingConn paired = some 0 ∧ retired paired = false
    ∧ connRoutes (confOf paired) 0 = [4 + 0, 4 + 1]
    ∧ raises (.pairedInputDisagreement 0x061F) paired 0x0C20 0x1000 = true := by decide +kernel
theorem witness_serial :
    let s := { lab .safe [(okey 0x2B31 1, 1), (okey 0x2B31 4, 2), (okey 0x2B3B 1, 1), (okey 0x2B3A 1, 2), (okey 0x2B40 5, 0x48)] with
      net := { spis := [(1, { busy := true })], sensors := [(3, { high := 1, bad := 2, value := 7 })] } }
    spiUsed s 1 = true ∧ uartMode s 3 = 1 ∧ uartMode s 2 = 2 ∧ sensorUsed s 3 = true
    ∧ after (.spiTransferComplete 1 [5]) s (fun t => decide ((spi t 1).received = some [5, 0] ∧ (spi t 1).done = 1)) = true
    ∧ after (.uartXoff 3) s (fun t => (uart t 3).held) = true ∧ after (.uartXon 3) s (fun t => !(uart t 3).held) = true
    ∧ after (.uartStatusFrame 2) s (fun t => decide ((uart t 2).frames = 1)) = true
    ∧ after (.streamStartWrite hspi 3 9) s (fun t => decide ((uart t 3).start = 9 ∧ abortOf hspi t = 0)) = true
    ∧ after (.temperatureSensorPoll [(3, some (-1))]) s (fun t => decide ((sensor t 3).value = -1 ∧ (sensor t 3).bad = 0)) = true
    ∧ after (.temperatureSensorPoll [(3, some 21761)]) s (fun t => decide ((sensor t 3).value = 850)) = true
    ∧ raises (.temperatureSensorPoll [(3, some 21787)]) s 0x0B0A 0x07FF = true
    ∧ raises (.temperatureSensorPoll [(3, none)]) s 0x0B0B 0x07FF = true := by decide +kernel
/-- UART 3 streams from a page; the ring holds pages 5 and 6. -/
def streaming (n : Nat) : State :=
  let s := lab .safe [(okey 0x2B3B 1, 1)]
  { s with
    led := { s.led with ring := [⟨5, 0, [], 0, [], 0⟩, ⟨6, 0, [], 0, [], 0⟩] }
    net := { uarts := [(3, { next := n })] } }
theorem witness_streams :
    after (.uartLedgerPage 3) (streaming 4) (fun t => decide ((uart t 3).next = 5 ∧ (uart t 3).gaps = 1)) = true
    ∧ after (.uartLedgerPage 3) (streaming 5) (fun _ => true) = true := by decide +kernel
theorem witness_perf :
    after (.eventSelectWrite hspi 3 3 15) (lab .safe) (fun t => decide (tget 0 (Machine.core t 3).perf.select 3 = 15 ∧ abortOf hspi t = 0)) = true
    ∧ after (.counterWrite hspi 3 6 0xFFFFFFFF false) (lab .safe) (fun t => decide (tget 0 (Machine.core t 3).perf.events 0 = 0xFFFFFFFF)) = true
    ∧ after (.counterWrite hspi 3 14 1 true) (lab .safe) (fun t => decide (tget 0 (Machine.core t 3).perf.slots 4 = 1 ∧ (Machine.core t 3).perf.flags = 256)) = true
    ∧ after (.overflowFlagsWrite hspi 3 0 512) (lab .safe) (fun t => decide ((Machine.core t 3).perf.flags = 0 ∧ abortOf hspi t = 0)) = true
    ∧ after (.overflowFlagsWrite hspi 3 1 0) (lab .safe) (fun t => decide (abortOf hspi t = 0x06090030)) = true
    ∧ after (.samplingIntervalWrite hspi 3 64) (lab .safe) (fun t => decide ((Machine.core t 3).perf.interval = 64)) = true
    ∧ after (.samplingIntervalWrite hspi 3 63) (lab .safe) (fun t => decide (abortOf hspi t = 0x06090032)) = true
    ∧ after (.samplingIntervalWrite hspi 3 1048577) (lab .safe) (fun t => decide (abortOf hspi t = 0x06090031)) = true
    ∧ after (.clearSamples hspi 3) (lab .safe) (fun t => decide (abortOf hspi t = 0)) = true
    ∧ after (.resetStatistics hspi) (lab .safe) (fun t => decide (t.proc.statsReset = 1000000000000)) = true := by decide +kernel

/-! ### The Ledger -/

/-- The Ledger with changes. -/
def withLed (g : Ledger → Ledger) (s : State) : State := { s with led := g s.led }
/-- A record of a rank, at a time. -/
def lrec (rank t : Nat) : LedgerRec := { type := 4, rank := rank, time := t }
theorem witness_records : pageRoom (lab .safe) 0 = 30
    ∧ after (.ledgerRecord (lrec 5 0)) (lab .safe) (fun t => decide (t.led.openRecs.length = 2)) = true
    ∧ after (.ledgerRecord (lrec 5 0)) (withLed (fun l => { l with openRecs := (upto 29).map (fun _ => lrec 5 0) }) (lab .safe))
      (fun t => decide (t.led.openRecs.length = 0 ∧ t.led.queued.map (fun q => q.recs.length) = [30])) = true
    ∧ after (.ledgerRecord (lrec 5 0)) (withLed (fun l => { l with openRecs := [], fill := 1 }) (lab .safe))
      (fun t => decide (t.led.openRecs = [] ∧ t.led.dropped = 1 ∧ tget 0 t.breach.counts 5 = 1)) = true
    ∧ after .pageAgeSeal (withLed (fun l => { l with openSince := 940000000000 }) (lab .safe)) (fun t => decide (t.led.openRecs = []
      ∧ t.led.queued.length = 1)) = true
    ∧ after .holdupPageSeal (withLed (fun l => { l with holdup := true, openRecs := [lrec 3 999999000000] }) (lab .safe))
      (fun t => decide (t.led.openRecs = [] ∧ t.led.queued.length = 1)) = true := by decide +kernel
/-- A page with one record. -/
def page (n : Nat) : Page := ⟨n, 0, [], 0, [lrec 3 999000000000], 0⟩
/-- A mounted part of 64 blocks with some spare, ring and pinned blocks, and pages that wait to be programmed. -/
def parted (l : List Page) (s : State) : State :=
  withLed (fun x => { x with
    queued := l
    part := { onfi := 0x10, pageSize := 2048, spare := 64, pagesPerBlk := 64, blocks0 := 64 }
    tables := { spares := 4, ringFormatted := 8, pinBlocks := 2 } }) s
theorem witness_pageProgram :
    after (.pageProgramComplete {}) (parted [page 9] (lab .safe))
      (fun t => decide (t.led.queued = [] ∧ t.led.ring.length = 1 ∧ t.led.stored = 1)) = true
    ∧ after (.pageProgramComplete { what := .programFailed }) (parted [page 9] (lab .safe))
      (fun t => decide (t.led.queued.map (·.seq) = [9] ∧ t.led.tables.grown.length = 1) && faultActive t 0x0D04 0x0770) = true
    ∧ after (.pageProgramComplete { what := .eraseFailed, block := 8 }) (parted [] (lab .safe))
      (fun t => decide (t.led.tables.grown.length = 1) && faultActive t 0x0D04 0x0770) = true
    ∧ 8 < ringBase (parted [] (lab .safe)) ∧ 8 < spareBase (parted [] (lab .safe))
    ∧ after (.pageProgramComplete { what := .programFailed }) (withLed (fun l => { l with state := 2 }) (parted [page 9] (lab .halt)))
      (fun t => decide (t.led.state = 3 ∧ t.led.queued = [])) = true
    ∧ after (.pageProgramComplete {}) (withLed (fun l => { l with state := 2, dirty := true }) (lab .halt))
      (fun t => decide (t.led.state = 3) && !t.led.dirty) = true
    ∧ after .nandBusyTimeout (parted [] (lab .safe)) (fun t => decide (t.led.retried = some 0)) = true
    ∧ after .nandBusyTimeout (withLed (fun l => { l with retried := some 0 }) (parted [] (lab .safe))) (fun t => decide (t.led.state = 3)
      && faultActive t 0x0D0E 0x0770) = true := by decide +kernel
theorem witness_format :
    after (.formatComplete {} []) (withLed (fun l => { l with state := 4 }) (lab .maintenance)) (fun t => decide (t.led.state = 1
      ∧ t.led.ring = []) && faultActive t 0x0D0D 0x0770) = true
    ∧ after (.formatComplete { ce0 := { answers := false } } []) (withLed (fun l => { l with state := 4 }) (lab .maintenance))
      (fun t => decide (t.led.state = 0 ∧ t.led.result = 1)) = true
    ∧ after (.format hspi) (withLed (fun l => { l with state := 0 }) (held 3 hspi (lab .maintenance)))
      (fun t => decide (t.led.state = 4 ∧ abortOf hspi t = 0)) = true
    ∧ after (.format hspi) (held 3 hspi (lab .maintenance)) (fun t => decide (t.led.state = 1 ∧ abortOf hspi t = 0x08000022)) = true := by
  decide +kernel
theorem witness_backups : paramMay (lab .safe) = true ∧ moveMay (lab .safe) = true
    ∧ after .parameterSetWrite (withLed (fun l => { l with dirty := true }) (lab .safe)) (fun t => !t.led.dirty) = true
    ∧ after .learnedValuePersist (withLed (fun l => { l with dirty := true }) (lab .safe)) (fun t => !t.led.dirty) = true
    ∧ after .operatingTimePersist (lab .safe) (fun t => decide (t.led.backup.opNs = 1000000000000 ∧ t.led.backup.generation = 1)) = true
    ∧ after (.scrubPass [9] [4] 1) (lab .safe) (fun t => decide (t.led.tables.scrubDays = 1 ∧ t.led.worst = 4 ∧ t.led.uncorrectable = 1)
      && faultActive t 0x0D05 0x0770 && faultActive t 0x0D06 0x0770) = true
    ∧ after (.scrubPass [9] [3] 0) (lab .safe) (fun t => decide (t.led.tables.scrubDays = 7) && !faultActive t 0x0D06 0x0770) = true := by
  decide +kernel
/-- A ring of two blocks that are worn, with a written image slot. -/
def worn : State :=
  let s := parted [] (lab .safe)
  withLed (fun l => { l with
    block := 5
    slotA := { header := [1] }
    tables := { l.tables with ringFormatted := 2, erases := [(ringBase s, 250), (ringBase s + 1, 350)] } }) s
theorem witness_wear : mostWorn worn = some (ringBase worn) ∧ staticBlock worn 8 = true ∧ moveMay worn = true
    ∧ tget 0 worn.led.tables.erases 8 + 100 ≤ ringMean worn
    ∧ after (.wearLevellingMove 8) worn (fun t => decide (tget 0 t.led.tables.erases 8 = 250
      ∧ tget 0 t.led.tables.erases (ringBase worn) = 1)) = true := by decide +kernel
/-- Pin 15 in a state on a window of the ring, with some pinned blocks. -/
def pinned (n : Nat) (st : Nat := 1) : State :=
  withLed (fun l => { l with openRecs := [], ring := [page 9], tables := { l.tables with pinBlocks := n }, pinTime := 999000000000, readPage := 9, readPin := 15,
                             pins := [(15, { state := st, start := 999000000000, stop := 999500000000 })] })
    (parted [] (held 3 hspi (lab .maintenance)))
theorem witness_pins : pinMay (pinned 1) = true ∧ (nextCopy (pinned 1) (tget {} (pinned 1).led.pins 15)).isSome = true
    ∧ pinRoom (pinned 1) = 64 ∧ pinRoom (pinned 0) = 0
    ∧ after (.pinCopyStart 15) (pinned 1) (fun t => decide ((tget {} t.led.pins 15).state = 2)) = true
    ∧ after (.pinCopyStart 15) (pinned 0) (fun t => decide ((tget {} t.led.pins 15).state = 4)) = true
    ∧ after (.pinCopyStart 15) (withLed (fun l => { l with ring := [] }) (pinned 1)) (fun t => decide ((tget {} t.led.pins 15).state = 3)) = true
    ∧ after (.pageProgramComplete {}) (pinned 1 2) (fun t => decide ((tget {} t.led.pins 15).state = 3
      ∧ (tget {} t.led.pins 15).pages.map (·.seq) = [9])) = true
    ∧ after (.pinRequest hspi) (pinned 1) (fun t => decide (t.led.lastPin = 0 ∧ (tget {} t.led.pins 0).stop = 1059000000000
      ∧ (tget {} t.led.pins 0).start = 699000000000)) = true
    ∧ after (.pinRequest hspi) (pinned 0) (fun t => decide (t.led.pinResult = 2)) = true
    ∧ after (.pinRequest hspi) (withLed (fun l => { l with pins := (upto 16).map (fun n => (n, { state := 3 })) }) (pinned 1))
      (fun t => decide (t.led.pinResult = 3)) = true
    ∧ after (.pinRequest hspi) (withLed (fun l => { l with state := 3 }) (pinned 1)) (fun t => decide (abortOf hspi t = 0x08000022)) = true
    ∧ after (.releasePin hspi 15) (pinned 1) (fun t => decide (t.led.pins = [] ∧ abortOf hspi t = 0)) = true
    ∧ after (.releasePin hspi 14) (pinned 1) (fun t => decide (abortOf hspi t = 0x06090030)) = true := by decide +kernel
theorem witness_pageReads : bit (pinned 1).power.domainsFailed 6 = false
    ∧ after (.ledgerPageRead hspi 0) (pinned 1) (fun t => decide (t.led.pageStatus = 0 ∧ abortOf hspi t = 0)) = true
    ∧ after (.ledgerPageRead hspi 0) (withLed (fun l => { l with ring := [], openRecs := [] }) (pinned 1))
      (fun t => decide (t.led.pageStatus = 2)) = true
    ∧ after (.pinnedPageRead hspi 0) (withLed (fun l => { l with pins := [(15, { state := 3, pages := [page 9] })] }) (pinned 1))
      (fun t => decide (t.led.pinStatus = 0)) = true
    ∧ after (.pinnedPageRead hspi 0) (pinned 1) (fun t => decide (t.led.pinStatus = 2)) = true := by decide +kernel
/-- What the parity makes of a sector of Table LG-2: 1 to 8 errors are corrected, 9 are not. -/
theorem test_sectors : sectorBits (List.replicate 512 0) 8 = some 8 ∧ sectorBits (List.replicate 512 0) 9 = none := by decide +kernel

/-! ### Clocks and time -/

theorem witness_clocks : clockLimit 0 = some 400 ∧ clockLimit 8 = some 1000
    ∧ after (.clockMonitorFault 0 0 401) (lab .run) (fun t => bit t.power.clockStatus 0 && faultActive t 0x0A01 0x0750) = true
    ∧ after (.clockMonitorFault 0 0 (-400)) (lab .run) (fun t => !bit t.power.clockStatus 0) = true
    ∧ raises (.alignmentFrame 6 5001 0 false) { lab .run with power := { align := [(6, { off := 2 })] } } 0x0A04 0x06FF = true
    ∧ raises (.alignmentFrame 6 0 301 false) (lab .run) 0x0A03 0x06FF = true
    ∧ domainExists (lab .run) 0x2B = true
    ∧ after (.powerGoodTimeout 6) (lab .run) (fun t => decide (t.led.state = 3) && bit t.power.domainsFailed 6
      && faultActive t 0x0B31 0x07FF) = true := by decide +kernel
theorem witness_timeSource : let s := { lab .run with time := { now := 1000000000000, dev := 1000000000000, source := 1, spring := 2, updates := [(1, [999999999000, 999000000000, 998000000000])] } }
    usable s 2 = false
    ∧ after .timeSourceLost s (fun t => decide (t.time.source = 0 ∧ t.time.spring = 3) && faultActive t 0x0A08 0x0750) = true
    ∧ after .holdoverLimit { s with time := { s.time with spring := 3 } } (fun t => decide (t.time.spring = 0)
      && faultActive t 0x0A09 0x0750) = true := by decide +kernel
theorem witness_deviceTime :
    after (.setDeviceTime hspi 5) (lab .safe) (fun t => decide (t.time.dev = 5 ∧ t.time.now = 1000000000000 ∧ t.time.steps = 1) && faultActive t 0x0A0A 0x0750) = true
    ∧ after (.nextSecond hspi 3000000000) (lab .safe) (fun t => decide (t.time.second = some 3000000000)) = true
    ∧ after (.nextSecond hspi 3000000001) (lab .safe) (fun t => decide (abortOf hspi t = 0x06090030)) = true := by decide +kernel
theorem witness_pps : let s := lab .run [(okey 0x2302 1, 6), (okey 0x2302 3, 100)]
    ppsOn s 1 = true
    ∧ after (.ppsEdge 1 ⟨1000000001005, 1000⟩) s (fun t => decide (tget 0 t.time.rawEdges 1 = 1000000001000
      ∧ tget 0 t.time.edges 1 = 1000000000900)) = true
    ∧ after (.ppsLost 1) s (fun t => bit t.time.ppsLost 1) = true ∧ after .ppsoSecond s (fun t => t.time.ppso) = true := by decide +kernel
theorem witness_ptp :
    netOn (networked {} {}) = true ∧ stationIp (networked {} {}) 1 ≠ 0 ∧ ptpDomain (networked {} {}) = 0
    ∧ after (.ptpSync 7 .received { seq := 7 } 1000000000500) (networked {} { role := 2 })
      (fun t => decide ((switch t 1).syncTime = 1000000000496)) = true
    ∧ after (.ptpSync 7 .received { domain := 1, seq := 7 } 1000000000500) (networked {} { role := 2 }) (fun t => decide ((switch t 1).syncTime = 0)) = true
    ∧ after (.ptpSync 7 .sent { seq := 7 } 1000000000500) (networked {} { role := 1 }) (fun t => decide ((switch t 1).syncSeq = 7)) = true
    ∧ after (.ptpFollowUp 1 { seq := 7 } 100 0) (networked {} { role := 2, syncSeq := 7, syncTime := 500 }) (fun t => decide ((switch t 1).down = 400
      ∧ (switch t 1).syncTime = 0)) = true
    ∧ after (.ptpDelayReq 7 .sent { seq := 7 } 1000000000600) (networked {} { role := 2 })
      (fun t => decide ((switch t 1).delayTime = 1000000000600)) = true
    ∧ after (.ptpDelayResp 1 { seq := 7 } 605) (networked {} { role := 2, delaySeq := 7, delayTime := 600, down := -8 })
      (fun t => decide ((switch t 1).pathDelay = -2)) = true
    ∧ switchMode (networked {} {} 2) 1 = 2
    ∧ after (.ptpPeerDelay 7 0 1000000000000 (20, 31) 1000000000031) (networked {} { role := 1 } 2) (fun t => decide ((switch t 1).pathDelay = 6)) = true := by
  decide +kernel

end Sys2Proof.Tests
end

section
/-! PROOFS. The block and the architecture: what a step runs, the frame of every command, the transitions of a step. -/

namespace Sys2Proof.Machine

set_option Elab.async false

/-! ### The step (O1) -/

/-- Settles O1: the queue is not empty, so the step runs its front. -/
theorem stepRunsFront : Obligations.StepRunsFront := by
  intro c rest s h
  simp only [step, h]

/-! ### Frames of shared operations and commands (O3) -/

@[simp] theorem mem_raiseParts (p : Area) : p ∈ raiseParts ↔ p = .ctl ∨ p = .array ∨ p = .proc ∨ p = .col
    ∨ p = .breach ∨ p = .test ∨ p = .led ∨ p = .draws := by
  simp [raiseParts]

/-- `OnlyWrites`, part by part: a frame law of an operation is one of these equations. -/
theorem onlyWrites_iff (ws : List Area) (s t : State) : OnlyWrites ws s t ↔
    (Area.queue ∉ ws → t.pending = s.pending) ∧ (Area.ctl ∉ ws → t.ctl = s.ctl) ∧ (Area.power ∉ ws → t.power = s.power)
    ∧ (Area.fuses ∉ ws → t.fuses = s.fuses) ∧ (Area.cfg ∉ ws → t.cfg = s.cfg) ∧ (Area.dict ∉ ws → t.dict = s.dict)
    ∧ (Area.field ∉ ws → t.field = s.field) ∧ (Area.pairs ∉ ws → t.pairs = s.pairs)
    ∧ (Area.array ∉ ws → t.array = s.array) ∧ (Area.outs ∉ ws → t.outs = s.outs) ∧ (Area.proc ∉ ws → t.proc = s.proc)
    ∧ (Area.col ∉ ws → t.col = s.col) ∧ (Area.breach ∉ ws → t.breach = s.breach) ∧ (Area.test ∉ ws → t.test = s.test)
    ∧ (Area.net ∉ ws → t.net = s.net) ∧ (Area.led ∉ ws → t.led = s.led) ∧ (Area.time ∉ ws → t.time = s.time)
    ∧ (Area.draws ∉ ws → t.draws = s.draws) := by
  refine ⟨fun h => ⟨h .queue, h .ctl, h .power, h .fuses, h .cfg, h .dict, h .field, h .pairs, h .array, h .outs,
    h .proc, h .col, h .breach, h .test, h .net, h .led, h .time, h .draws⟩, ?_⟩
  rintro ⟨hqueue, hctl, hpower, hfuses, hcfg, hdict, hfield, hpairs, harray, houts, hproc, hcol, hbreach, htest, hnet,
    hled, htime, hdraws⟩ p hp
  cases p with
  | queue => exact hqueue hp
  | ctl => exact hctl hp
  | power => exact hpower hp
  | fuses => exact hfuses hp
  | cfg => exact hcfg hp
  | dict => exact hdict hp
  | field => exact hfield hp
  | pairs => exact hpairs hp
  | array => exact harray hp
  | outs => exact houts hp
  | proc => exact hproc hp
  | col => exact hcol hp
  | breach => exact hbreach hp
  | test => exact htest hp
  | net => exact hnet hp
  | led => exact hled hp
  | time => exact htime hp
  | draws => exact hdraws hp

/-- A command completes, and no part changes that is not its own. -/
def Framed (c : Instr) (s : State) : Prop := Completes c s (OnlyWrites (writes c) s)

/-! #### Shared operations -/

/-- What an instruction does once it is issued decides what issuing it may write. -/
theorem issue_onlyWrites (i : Instr) (k : Nat) (c : Bool) (run : State → State) (s : State)
    (h : ∀ t, OnlyWrites raiseParts t (run t)) : OnlyWrites raiseParts s (issue i k c run s) := by
  have e := fun t => (onlyWrites_iff _ _ _).1 (h t)
  simp at e
  simp [onlyWrites_iff, e]

theorem alu_onlyWrites {i : Instr} {k : Nat} {c md : Bool} {rd : BitVec 5} {f g : Word → Word → Word}
    {a b : Word × Word} {s : State} : OnlyWrites raiseParts s (alu i k c md rd f g a b s) := by
  simp [onlyWrites_iff]

/-- The parts that an access to the dictionary may write: the supplies, the fuses and the queue are none of them. -/
def accessParts : List Area :=
  [.ctl, .cfg, .dict, .field, .pairs, .array, .outs, .proc, .col, .breach, .test, .net, .led, .time, .draws]

@[simp] theorem onlyWrites_accessParts (s t : State) :
    OnlyWrites accessParts s t ↔ t.pending = s.pending ∧ t.power = s.power ∧ t.fuses = s.fuses := by
  simp [onlyWrites_iff, accessParts]

theorem dictWrite_onlyWrites {r : Requester} {idx sub : Nat} {data : List Byte} {off : Nat} {x : Side} {s : State} :
    OnlyWrites accessParts s (dictWrite r idx sub data off x s) := by
  simp

theorem dictRead_onlyWrites {r : Requester} {idx sub worst : Nat} {s : State} :
    OnlyWrites accessParts s (dictRead r idx sub worst s) := by
  simp

/-- A request whose trailer passes has changed nothing but the session's counter. -/
theorem trailerOk_onlyWrites {r : Requester} {q : KdpReq} {s t : State} (h : trailerOk r q s = some t) :
    OnlyWrites [.dict] s t := by
  unfold trailerOk at h
  split at h
  · cases h
    exact fun p _ => by cases p <;> rfl
  split at h
  · cases h
  · obtain ⟨n, -, rfl⟩ := Option.map_eq_some_iff.1 h
    simp [onlyWrites_iff]

theorem kdpServe_onlyWrites (r : Requester) (q : KdpReq) (ok : Bool) (run : State → State) (s : State)
    (h : ∀ t, OnlyWrites accessParts t (run t)) : OnlyWrites accessParts s (kdpServe r q ok run s) := by
  simp only [onlyWrites_accessParts] at h
  simp [h]

theorem sessionRun_onlyWrites (r : Requester) (data : List Byte) (run : State → Nat × List Byte × State) (s : State)
    (h : ∀ t, OnlyWrites accessParts t (run t).2.2) : OnlyWrites accessParts s (sessionRun r data run s) := by
  simp only [onlyWrites_accessParts] at h
  simp [h]

theorem nmt_onlyWrites {n cmd node : Nat} {s : State} :
    OnlyWrites [.col, .breach, .net, .led, .draws] s (nmt n cmd node s) := by
  simp [onlyWrites_iff]

theorem slotDue_onlyWrites {f n tick : Nat} {due : Slot → Blk → Nat → Bool} {s : State} :
    OnlyWrites [.ctl, .dict, .array, .outs, .proc, .col, .breach, .test, .led, .time, .draws] s
      (slotDue f n tick due s) := by
  simp [onlyWrites_iff]

/-! #### The fault collector -/

theorem faultReport_framed a (s : State) : Framed (.faultReport a) s :=
  ⟨_, rfl, by simp [onlyWrites_iff, writes]⟩

theorem faultRecordCommit_framed t (s : State) : Framed (.faultRecordCommit t) s := by
  refine ⟨_, rfl, ?_⟩
  (repeat' split) <;> simp [onlyWrites_iff, writes]

theorem quietPeriodEnd_framed seq (s : State) : Framed (.quietPeriodEnd seq) s := by
  refine ⟨_, rfl, ?_⟩
  (repeat' split) <;> simp [onlyWrites_iff, writes]

theorem chimeRound_framed missed (s : State) : Framed (.chimeRound missed) s :=
  ⟨_, rfl, by simp [onlyWrites_iff, writes]⟩

theorem summaryRecordWindow_framed rank (s : State) : Framed (.summaryRecordWindow rank) s :=
  ⟨_, rfl, by simp [onlyWrites_iff, writes]⟩

/-! #### Inside the package -/

theorem enableFrame_framed f word pol crcOk statusOk ann (s : State) :
    Framed (.enableFrame f word pol crcOk statusOk ann) s :=
  ⟨_, rfl, by simp [onlyWrites_iff, writes]⟩

theorem enableFrameTimeout_framed f (s : State) : Framed (.enableFrameTimeout f) s :=
  ⟨_, rfl, by simp [onlyWrites_iff, writes]⟩

theorem curfewStopDetected_framed f isl (s : State) : Framed (.curfewStopDetected f isl) s :=
  ⟨_, rfl, by simp [onlyWrites_iff, writes]⟩

theorem statusLinkFrame_framed f seq crcOk toDie w (s : State) : Framed (.statusLinkFrame f seq crcOk toDie w) s :=
  ⟨_, rfl, by simp [onlyWrites_iff, writes]⟩

theorem sharedSignalSegment_framed die src tick bits crcOk (s : State) :
    Framed (.sharedSignalSegment die src tick bits crcOk) s :=
  ⟨_, rfl, by simp [onlyWrites_iff, writes]⟩

theorem segmentThirdFailure_framed die src (s : State) : Framed (.segmentThirdFailure die src) s :=
  ⟨_, rfl, by simp [onlyWrites_iff, writes]⟩

theorem ringBroken_framed a b (s : State) : Framed (.ringBroken a b) s :=
  ⟨_, rfl, by simp [onlyWrites_iff, writes]⟩

theorem fEscapementResponse_framed f value elapsed (s : State) : Framed (.fEscapementResponse f value elapsed) s :=
  ⟨_, rfl, by simp [onlyWrites_iff, writes]⟩

theorem fEscapementMissed_framed f (s : State) : Framed (.fEscapementMissed f) s :=
  ⟨_, rfl, by simp [onlyWrites_iff, writes]⟩

theorem lockedMemoryWrite_framed index sub (s : State) : Framed (.lockedMemoryWrite index sub) s :=
  ⟨_, rfl, by simp [onlyWrites_iff, writes]⟩

theorem laneAgreementTimeout_framed el (s : State) : Framed (.laneAgreementTimeout el) s :=
  ⟨_, rfl, by simp [onlyWrites_iff, writes]⟩

theorem pairLaneDisagreement_framed e (s : State) : Framed (.pairLaneDisagreement e) s :=
  ⟨_, rfl, by simp [onlyWrites_iff, writes]⟩

/-! #### Inputs and sources -/

theorem rawStateChange_framed f i levelA levelB t (s : State) : Framed (.rawStateChange f i levelA levelB t) s :=
  ⟨_, rfl, by simp [onlyWrites_iff, writes]⟩

theorem inputOvervoltage_framed f i (s : State) : Framed (.inputOvervoltage f i) s :=
  ⟨_, rfl, by simp [onlyWrites_iff, writes]⟩

theorem laneInputDisagreement_framed f i (s : State) : Framed (.laneInputDisagreement f i) s :=
  ⟨_, rfl, by simp [onlyWrites_iff, writes]⟩

theorem plausibilityFault_framed f i l (s : State) : Framed (.plausibilityFault f i l) s := by
  refine ⟨_, rfl, ?_⟩
  (repeat' split) <;> simp [onlyWrites_iff, writes]

theorem transitionRegionFault_framed f i (s : State) : Framed (.transitionRegionFault f i) s := by
  refine ⟨_, rfl, ?_⟩
  (repeat' split) <;> simp [onlyWrites_iff, writes]

theorem readbackUpdate_framed f ins srcs (s : State) : Framed (.readbackUpdate f ins srcs) s :=
  ⟨_, rfl, by simp [onlyWrites_iff, writes]⟩

theorem readbackCalibration_framed f ok (s : State) : Framed (.readbackCalibration f ok) s :=
  ⟨_, rfl, by simp [onlyWrites_iff, writes]⟩

theorem testPulseStart_framed f j t (s : State) : Framed (.testPulseStart f j t) s :=
  ⟨_, rfl, by simp [onlyWrites_iff, writes]⟩

theorem testPulseEvaluation_framed f j r (s : State) : Framed (.testPulseEvaluation f j r) s :=
  ⟨_, rfl, by simp [onlyWrites_iff, writes]⟩

theorem sourceCurrentLimit_framed f j (s : State) : Framed (.sourceCurrentLimit f j) s :=
  ⟨_, rfl, by simp [onlyWrites_iff, writes]⟩

theorem sourceRetry_framed f j (s : State) : Framed (.sourceRetry f j) s :=
  ⟨_, rfl, by simp [onlyWrites_iff, writes]⟩

theorem sourceRetryConditionGone_framed f j (s : State) : Framed (.sourceRetryConditionGone f j) s :=
  ⟨_, rfl, by simp [onlyWrites_iff, writes]⟩

/-! #### Pairs -/

theorem filteredChange_framed f i l t (s : State) : Framed (.filteredChange f i l t) s :=
  ⟨_, rfl, by simp [onlyWrites_iff, writes]⟩

theorem ossdOff_framed f i l t (s : State) : Framed (.ossdOff f i l t) s :=
  ⟨_, rfl, by simp [onlyWrites_iff, writes]⟩

theorem discrepancyDeadline_framed e l (s : State) : Framed (.discrepancyDeadline e l) s :=
  ⟨_, rfl, by simp [onlyWrites_iff, writes]⟩

theorem samplingStartHoldEnd_framed e l t (s : State) : Framed (.samplingStartHoldEnd e l t) s :=
  ⟨_, rfl, by simp [onlyWrites_iff, writes]⟩

theorem resetPressOverlong_framed e l (s : State) : Framed (.resetPressOverlong e l) s := by
  refine ⟨_, rfl, ?_⟩
  (repeat' split) <;> simp [onlyWrites_iff, writes]

theorem resetButtonStuck_framed e (s : State) : Framed (.resetButtonStuck e) s := by
  refine ⟨_, rfl, ?_⟩
  (repeat' split) <;> simp [onlyWrites_iff, writes]

theorem resetStuckLift_framed e (s : State) : Framed (.resetStuckLift e) s := by
  refine ⟨_, rfl, ?_⟩
  (repeat' split) <;> simp [onlyWrites_iff, writes]

/-! #### Arrays -/

theorem evaluationWindow_framed f tick upset scan (s : State) : Framed (.evaluationWindow f tick upset scan) s :=
  ⟨_, rfl, by simp [onlyWrites_iff, writes]⟩

theorem windowOverrun_framed f (s : State) : Framed (.windowOverrun f) s :=
  ⟨_, rfl, by simp [onlyWrites_iff, writes]⟩

theorem islandStatusInvalid_framed f (s : State) : Framed (.islandStatusInvalid f) s :=
  ⟨_, rfl, by simp [onlyWrites_iff, writes]⟩

/-! #### Outputs and brakes -/

theorem outputCurrentLimit_framed f q (s : State) : Framed (.outputCurrentLimit f q) s :=
  ⟨_, rfl, by simp [onlyWrites_iff, writes]⟩

theorem returnCurrentLimit_framed f m (s : State) : Framed (.returnCurrentLimit f m) s :=
  ⟨_, rfl, by simp [onlyWrites_iff, writes]⟩

theorem groupCurrentMean_framed f g sum (s : State) : Framed (.groupCurrentMean f g sum) s := by
  refine ⟨_, rfl, ?_⟩
  dsimp only [draw]
  (repeat' split) <;> simp [onlyWrites_iff, writes]

theorem externalFeed_framed f q land (s : State) : Framed (.externalFeed f q land) s :=
  ⟨_, rfl, by simp [onlyWrites_iff, writes]⟩

theorem externalFeedGone_framed f q land (s : State) : Framed (.externalFeedGone f q land) s :=
  ⟨_, rfl, by simp [onlyWrites_iff, writes]⟩

theorem pmCurrentMismatch_framed f r (s : State) : Framed (.pmCurrentMismatch f r) s := by
  refine ⟨_, rfl, ?_⟩
  (repeat' split) <;> simp [onlyWrites_iff, writes]

theorem minimumLoad_framed f r (s : State) : Framed (.minimumLoad f r) s :=
  ⟨_, rfl, by simp [onlyWrites_iff, writes]⟩

theorem darkTestStart_framed el t (s : State) : Framed (.darkTestStart el t) s :=
  ⟨_, rfl, by simp [onlyWrites_iff, writes]⟩

theorem darkTestEvaluation_framed el r (s : State) : Framed (.darkTestEvaluation el r) s :=
  ⟨_, rfl, by simp [onlyWrites_iff, writes]⟩

theorem lightTestStart_framed f q t (s : State) : Framed (.lightTestStart f q t) s :=
  ⟨_, rfl, by simp [onlyWrites_iff, writes]⟩

theorem lightTestEvaluation_framed f q land (s : State) : Framed (.lightTestEvaluation f q land) s :=
  ⟨_, rfl, by simp [onlyWrites_iff, writes]⟩

theorem groupSupplyWarning_framed f v mv (s : State) : Framed (.groupSupplyWarning f v mv) s :=
  ⟨_, rfl, by simp [onlyWrites_iff, writes]⟩

theorem groupSupplyWarningClear_framed f v mv (s : State) : Framed (.groupSupplyWarningClear f v mv) s :=
  ⟨_, rfl, by simp [onlyWrites_iff, writes]⟩

theorem groupSupplyUndervoltage_framed f v mv (s : State) : Framed (.groupSupplyUndervoltage f v mv) s :=
  ⟨_, rfl, by simp [onlyWrites_iff, writes]⟩

theorem groupSupplyOvervoltage_framed f v mv (s : State) : Framed (.groupSupplyOvervoltage f v mv) s :=
  ⟨_, rfl, by simp [onlyWrites_iff, writes]⟩

theorem groupSupplyPresent_framed f v mv (s : State) : Framed (.groupSupplyPresent f v mv) s :=
  ⟨_, rfl, by simp [onlyWrites_iff, writes]⟩

theorem learnedValuePersist_framed (s : State) : Framed .learnedValuePersist s :=
  ⟨_, rfl, by simp [onlyWrites_iff, writes]⟩

theorem coilOpen_framed f b (s : State) : Framed (.coilOpen f b) s :=
  ⟨_, rfl, by simp [onlyWrites_iff, writes]⟩

theorem coilOvercurrent_framed f b ma (s : State) : Framed (.coilOvercurrent f b ma) s :=
  ⟨_, rfl, by simp [onlyWrites_iff, writes]⟩

theorem holdingCurrentFault_framed f b ma (s : State) : Framed (.holdingCurrentFault f b ma) s :=
  ⟨_, rfl, by simp [onlyWrites_iff, writes]⟩

theorem signatureDecision_framed f b samples (s : State) : Framed (.signatureDecision f b samples) s :=
  ⟨_, rfl, by simp [onlyWrites_iff, writes]⟩

theorem mechanicalTestPhaseEnd_framed f b (s : State) : Framed (.mechanicalTestPhaseEnd f b) s := by
  refine ⟨_, rfl, ?_⟩
  (repeat' split) <;> simp [onlyWrites_iff, writes]

theorem mechanicalTestOverdue_framed f b (s : State) : Framed (.mechanicalTestOverdue f b) s :=
  ⟨_, rfl, by simp [onlyWrites_iff, writes]⟩

/-! #### Supplies and temperatures -/

theorem cSupplyMonitorTrip_framed r mv (s : State) : Framed (.cSupplyMonitorTrip r mv) s :=
  ⟨_, rfl, by simp [onlyWrites_iff, writes]⟩

theorem pfailNLow_framed (s : State) : Framed .pfailNLow s :=
  ⟨_, rfl, by simp [onlyWrites_iff, writes]⟩

theorem vfldLTrip_framed f mv (s : State) : Framed (.vfldLTrip f mv) s :=
  ⟨_, rfl, by simp [onlyWrites_iff, writes]⟩

theorem vfldLTripEnd_framed f mv (s : State) : Framed (.vfldLTripEnd f mv) s :=
  ⟨_, rfl, by simp [onlyWrites_iff, writes]⟩

theorem vioNFault_framed mv (s : State) : Framed (.vioNFault mv) s :=
  ⟨_, rfl, by simp [onlyWrites_iff, writes]⟩

theorem vioNConditionGone_framed mv (s : State) : Framed (.vioNConditionGone mv) s :=
  ⟨_, rfl, by simp [onlyWrites_iff, writes]⟩

theorem dieTemperatureWarning_framed d t (s : State) : Framed (.dieTemperatureWarning d t) s :=
  ⟨_, rfl, by simp [onlyWrites_iff, writes]⟩

theorem fDieOvertemperature_framed f t (s : State) : Framed (.fDieOvertemperature f t) s :=
  ⟨_, rfl, by simp [onlyWrites_iff, writes]⟩

theorem cDieOvertemperature_framed t (s : State) : Framed (.cDieOvertemperature t) s :=
  ⟨_, rfl, by simp [onlyWrites_iff, writes]⟩

theorem dieTemperatureClear_framed d t (s : State) : Framed (.dieTemperatureClear d t) s :=
  ⟨_, rfl, by simp [onlyWrites_iff, writes]⟩

theorem vholdShortDetected_framed mv (s : State) : Framed (.vholdShortDetected mv) s :=
  ⟨_, rfl, by simp [onlyWrites_iff, writes]⟩

theorem vholdLow_framed mv (s : State) : Framed (.vholdLow mv) s :=
  ⟨_, rfl, by simp [onlyWrites_iff, writes]⟩

theorem vholdCharged_framed mv (s : State) : Framed (.vholdCharged mv) s :=
  ⟨_, rfl, by simp [onlyWrites_iff, writes]⟩

theorem holdupExhausted_framed (s : State) : Framed .holdupExhausted s :=
  ⟨_, rfl, by simp [onlyWrites_iff, writes]⟩

theorem tapStateChange_framed (s : State) : Framed .tapStateChange s :=
  ⟨_, rfl, by simp [onlyWrites_iff, writes]⟩

/-! #### Safe connections -/

theorem pairingExchangeSend_framed (s : State) : Framed .pairingExchangeSend s := by
  refine ⟨_, rfl, ?_⟩
  dsimp only [draw]
  (repeat' split) <;> simp [onlyWrites_iff, writes]

theorem pairingCheckSend_framed (s : State) : Framed .pairingCheckSend s :=
  ⟨_, rfl, by simp [onlyWrites_iff, writes]⟩

theorem pairedInputDisagreement_framed i (s : State) : Framed (.pairedInputDisagreement i) s := by
  refine ⟨_, rfl, ?_⟩
  (repeat' split) <;> simp [onlyWrites_iff, writes]

theorem telegramReceived_framed r bs t (s : State) : Framed (.telegramReceived r bs t) s :=
  ⟨_, rfl, by simp [onlyWrites_iff, writes]⟩

theorem watchdogExpiry_framed k (s : State) : Framed (.watchdogExpiry k) s :=
  ⟨_, rfl, by simp [onlyWrites_iff, writes]⟩

/-! #### The Ledger -/

theorem ledgerRecord_framed r (s : State) : Framed (.ledgerRecord r) s :=
  ⟨_, rfl, by simp [onlyWrites_iff, writes]⟩

theorem pageAgeSeal_framed (s : State) : Framed .pageAgeSeal s :=
  ⟨_, rfl, by simp [onlyWrites_iff, writes]⟩

theorem holdupPageSeal_framed (s : State) : Framed .holdupPageSeal s :=
  ⟨_, rfl, by simp [onlyWrites_iff, writes]⟩

theorem pageProgramComplete_framed e (s : State) : Framed (.pageProgramComplete e) s := by
  refine ⟨_, rfl, ?_⟩
  dsimp only [draw]
  (repeat' split) <;> simp [onlyWrites_iff, writes]

theorem nandBusyTimeout_framed (s : State) : Framed .nandBusyTimeout s :=
  ⟨_, rfl, by simp [onlyWrites_iff, writes]⟩

theorem formatComplete_framed r marks (s : State) : Framed (.formatComplete r marks) s :=
  ⟨_, rfl, by simp [onlyWrites_iff, writes]⟩

theorem parameterSetWrite_framed (s : State) : Framed .parameterSetWrite s :=
  ⟨_, rfl, by simp [onlyWrites_iff, writes]⟩

theorem operatingTimePersist_framed (s : State) : Framed .operatingTimePersist s :=
  ⟨_, rfl, by simp [onlyWrites_iff, writes]⟩

theorem scrubPass_framed blocks bits bad (s : State) : Framed (.scrubPass blocks bits bad) s :=
  ⟨_, rfl, by simp [onlyWrites_iff, writes]⟩

theorem wearLevellingMove_framed b (s : State) : Framed (.wearLevellingMove b) s := by
  refine ⟨_, rfl, ?_⟩
  (repeat' split) <;> simp [onlyWrites_iff, writes]

theorem pinCopyStart_framed n (s : State) : Framed (.pinCopyStart n) s :=
  ⟨_, rfl, by simp [onlyWrites_iff, writes]⟩

/-! #### Networks -/

theorem phyStatusPoll_framed l (s : State) : Framed (.phyStatusPoll l) s :=
  ⟨_, rfl, by simp [onlyWrites_iff, writes]⟩

theorem portLinkChange_framed p up speed half (s : State) : Framed (.portLinkChange p up speed half) s :=
  ⟨_, rfl, by simp [onlyWrites_iff, writes]⟩

theorem ethernetFrameReceived_framed p fr (s : State) : Framed (.ethernetFrameReceived p fr) s :=
  ⟨_, rfl, by simp [onlyWrites_iff, writes]⟩

theorem frameTransmitComplete_framed p (s : State) : Framed (.frameTransmitComplete p) s :=
  ⟨_, rfl, by simp [onlyWrites_iff, writes]⟩

theorem addressEntryAgeing_framed w mac (s : State) : Framed (.addressEntryAgeing w mac) s :=
  ⟨_, rfl, by simp [onlyWrites_iff, writes]⟩

theorem duplicateEntryForget_framed w mac seq (s : State) : Framed (.duplicateEntryForget w mac seq) s :=
  ⟨_, rfl, by simp [onlyWrites_iff, writes]⟩

theorem arpRequest_framed w request ip mac target (s : State) : Framed (.arpRequest w request ip mac target) s :=
  ⟨_, rfl, by simp [onlyWrites_iff, writes]⟩

theorem arpEntryExpiry_framed w ip (s : State) : Framed (.arpEntryExpiry w ip) s :=
  ⟨_, rfl, by simp [onlyWrites_iff, writes]⟩

theorem icmpEchoRequest_framed w ip (s : State) : Framed (.icmpEchoRequest w ip) s :=
  ⟨_, rfl, by simp [onlyWrites_iff, writes]⟩

theorem supervisionFrameSend_framed w (s : State) : Framed (.supervisionFrameSend w) s :=
  ⟨_, rfl, by simp [onlyWrites_iff, writes]⟩

theorem supervisionFrameReceived_framed p (s : State) : Framed (.supervisionFrameReceived p) s :=
  ⟨_, rfl, by simp [onlyWrites_iff, writes]⟩

theorem supervisionLoss_framed p (s : State) : Framed (.supervisionLoss p) s :=
  ⟨_, rfl, by simp [onlyWrites_iff, writes]⟩

theorem busOff_framed n (s : State) : Framed (.busOff n) s :=
  ⟨_, rfl, by simp [onlyWrites_iff, writes]⟩

theorem busOffRecovery_framed n (s : State) : Framed (.busOffRecovery n) s :=
  ⟨_, rfl, by simp [onlyWrites_iff, writes]⟩

theorem heartbeat_framed (s : State) : Framed .heartbeat s :=
  ⟨_, rfl, by simp [onlyWrites_iff, writes]⟩

theorem commaAlignment_framed l (s : State) : Framed (.commaAlignment l) s :=
  ⟨_, rfl, by simp [onlyWrites_iff, writes]⟩

theorem linkSynced_framed l (s : State) : Framed (.linkSynced l) s :=
  ⟨_, rfl, by simp [onlyWrites_iff, writes]⟩

theorem linkSymbolLoss_framed l (s : State) : Framed (.linkSymbolLoss l) s :=
  ⟨_, rfl, by simp [onlyWrites_iff, writes]⟩

theorem helloSend_framed l (s : State) : Framed (.helloSend l) s :=
  ⟨_, rfl, by simp [onlyWrites_iff, writes]⟩

theorem helloReceived_framed l h (s : State) : Framed (.helloReceived l h) s :=
  ⟨_, rfl, by simp [onlyWrites_iff, writes]⟩

theorem helloTimeout_framed l (s : State) : Framed (.helloTimeout l) s :=
  ⟨_, rfl, by simp [onlyWrites_iff, writes]⟩

theorem linkFrameReceived_framed l bs (s : State) : Framed (.linkFrameReceived l bs) s :=
  ⟨_, rfl, by simp [onlyWrites_iff, writes]⟩

theorem frameInterrupted_framed l (s : State) : Framed (.frameInterrupted l) s :=
  ⟨_, rfl, by simp [onlyWrites_iff, writes]⟩

/-! #### Serial ports -/

theorem spiTransferComplete_framed j bs (s : State) : Framed (.spiTransferComplete j bs) s :=
  ⟨_, rfl, by simp [onlyWrites_iff, writes]⟩

theorem uartLedgerPage_framed u (s : State) : Framed (.uartLedgerPage u) s := by
  refine ⟨_, rfl, ?_⟩
  dsimp only [draw]
  (repeat' split) <;> simp [onlyWrites_iff, writes]

theorem uartStatusFrame_framed u (s : State) : Framed (.uartStatusFrame u) s :=
  ⟨_, rfl, by simp [onlyWrites_iff, writes]⟩

theorem uartXoff_framed u (s : State) : Framed (.uartXoff u) s :=
  ⟨_, rfl, by simp [onlyWrites_iff, writes]⟩

theorem uartXon_framed u (s : State) : Framed (.uartXon u) s :=
  ⟨_, rfl, by simp [onlyWrites_iff, writes]⟩

theorem temperatureSensorPoll_framed l (s : State) : Framed (.temperatureSensorPoll l) s := by
  refine ⟨_, rfl, ?_⟩
  (repeat' split) <;> simp [onlyWrites_iff, writes]

/-! #### Clocks and time -/

theorem clockMonitorFault_framed n f dev (s : State) : Framed (.clockMonitorFault n f dev) s := by
  refine ⟨_, rfl, ?_⟩
  (repeat' split) <;> simp [onlyWrites_iff, writes]

theorem timeSourceLost_framed (s : State) : Framed .timeSourceLost s := by
  refine ⟨_, rfl, ?_⟩
  dsimp only [draw]
  (repeat' split) <;> simp [onlyWrites_iff, writes]

theorem holdoverLimit_framed (s : State) : Framed .holdoverLimit s :=
  ⟨_, rfl, by simp [onlyWrites_iff, writes]⟩

theorem ptpSync_framed p d h t (s : State) : Framed (.ptpSync p d h t) s := by
  refine ⟨_, rfl, ?_⟩
  (repeat' split) <;> simp [onlyWrites_iff, writes]

theorem ptpFollowUp_framed w h origin logInterval (s : State) : Framed (.ptpFollowUp w h origin logInterval) s :=
  ⟨_, rfl, by simp [onlyWrites_iff, writes]⟩

theorem ptpDelayReq_framed p d h t (s : State) : Framed (.ptpDelayReq p d h t) s := by
  refine ⟨_, rfl, ?_⟩
  (repeat' split) <;> simp [onlyWrites_iff, writes]

theorem ptpDelayResp_framed w h received (s : State) : Framed (.ptpDelayResp w h received) s :=
  ⟨_, rfl, by simp [onlyWrites_iff, writes]⟩

theorem ptpPeerDelay_framed p dom t1 peer t4 (s : State) : Framed (.ptpPeerDelay p dom t1 peer t4) s :=
  ⟨_, rfl, by simp [onlyWrites_iff, writes]⟩

theorem ppsEdge_framed p pulse (s : State) : Framed (.ppsEdge p pulse) s := by
  refine ⟨_, rfl, ?_⟩
  dsimp only [draw]
  (repeat' split) <;> simp [onlyWrites_iff, writes]

theorem ppsLost_framed p (s : State) : Framed (.ppsLost p) s :=
  ⟨_, rfl, by simp [onlyWrites_iff, writes]⟩

theorem ppsoSecond_framed (s : State) : Framed .ppsoSecond s :=
  ⟨_, rfl, by simp [onlyWrites_iff, writes]⟩

theorem alignmentFrame_framed f off ratio afterStep (s : State) : Framed (.alignmentFrame f off ratio afterStep) s :=
  ⟨_, rfl, by simp [onlyWrites_iff, writes]⟩

theorem powerGoodTimeout_framed n (s : State) : Framed (.powerGoodTimeout n) s :=
  ⟨_, rfl, by simp [onlyWrites_iff, writes]⟩

/-! #### The processor -/

theorem checkpoint_framed k seen (s : State) : Framed (.checkpoint k seen) s :=
  ⟨_, rfl, by simp [onlyWrites_iff, writes]⟩

theorem busMismatch_framed k t (s : State) : Framed (.busMismatch k t) s :=
  ⟨_, rfl, by simp [onlyWrites_iff, writes]⟩

theorem skewParityError_framed k t (s : State) : Framed (.skewParityError k t) s :=
  ⟨_, rfl, by simp [onlyWrites_iff, writes]⟩

theorem comparatorRailFault_framed k (s : State) : Framed (.comparatorRailFault k) s :=
  ⟨_, rfl, by simp [onlyWrites_iff, writes]⟩

theorem rollbackWindowExpiry_framed k (s : State) : Framed (.rollbackWindowExpiry k) s :=
  ⟨_, rfl, by simp [onlyWrites_iff, writes]⟩

theorem memoryScrub_framed r (s : State) : Framed (.memoryScrub r) s :=
  ⟨_, rfl, by simp [onlyWrites_iff, writes]⟩

theorem plannedHandover_framed p (s : State) : Framed (.plannedHandover p) s := by
  refine ⟨_, rfl, ?_⟩
  (repeat' split) <;> simp [onlyWrites_iff, writes]

theorem escapementWindowMissed_framed p (s : State) : Framed (.escapementWindowMissed p) s :=
  ⟨_, rfl, by simp [onlyWrites_iff, writes]⟩

/-! #### Self-tests -/

theorem itemEligible_framed n (s : State) : Framed (.itemEligible n) s :=
  ⟨_, rfl, by simp [onlyWrites_iff, writes]⟩

theorem rotationStep_framed (s : State) : Framed .rotationStep s := by
  refine ⟨_, rfl, ?_⟩
  dsimp only [draw]
  (repeat' split) <;> simp [onlyWrites_iff, writes]

theorem coreBistComplete_framed k r (s : State) : Framed (.coreBistComplete k r) s :=
  ⟨_, rfl, by simp [onlyWrites_iff, writes]⟩

theorem arrayBistStart_framed f (s : State) : Framed (.arrayBistStart f) s :=
  ⟨_, rfl, by simp [onlyWrites_iff, writes]⟩

theorem arrayBistEnd_framed f tick r restoreOk (s : State) : Framed (.arrayBistEnd f tick r restoreOk) s :=
  ⟨_, rfl, by simp [onlyWrites_iff, writes]⟩

theorem ts3MemoryBistStart_framed (s : State) : Framed .ts3MemoryBistStart s :=
  ⟨_, rfl, by simp [onlyWrites_iff, writes]⟩

theorem ts3MemoryBistComplete_framed pass (s : State) : Framed (.ts3MemoryBistComplete pass) s :=
  ⟨_, rfl, by simp [onlyWrites_iff, writes]⟩

theorem testOverdue_framed n (s : State) : Framed (.testOverdue n) s :=
  ⟨_, rfl, by simp [onlyWrites_iff, writes]⟩

theorem calibration_framed el r (s : State) : Framed (.calibration el r) s :=
  ⟨_, rfl, by simp [onlyWrites_iff, writes]⟩

theorem calibrationOverdue_framed el (s : State) : Framed (.calibrationOverdue el) s :=
  ⟨_, rfl, by simp [onlyWrites_iff, writes]⟩

/-! #### The boundary -/

theorem safetyCycleBoundary_framed t (s : State) : Framed (.safetyCycleBoundary t) s :=
  ⟨_, rfl, by simp [onlyWrites_iff, writes]⟩

/-! #### Requests -/

theorem runEntry_framed (s : State) : Framed .runEntry s := by
  refine ⟨_, rfl, ?_⟩
  (repeat' split) <;> simp [onlyWrites_iff, writes]

/-! #### Sessions -/

theorem challengeExpiry_framed (s : State) : Framed .challengeExpiry s :=
  ⟨_, rfl, by simp [onlyWrites_iff, writes]⟩

theorem lockoutEnd_framed (s : State) : Framed .lockoutEnd s := by
  refine ⟨_, rfl, ?_⟩
  (repeat' split) <;> simp [onlyWrites_iff, writes]

theorem sessionTimeout_framed (s : State) : Framed .sessionTimeout s :=
  ⟨_, rfl, by simp [onlyWrites_iff, writes]⟩

/-! #### Commits -/

theorem imageSlotWritten_framed writeOk readbackOk words (s : State) :
    Framed (.imageSlotWritten writeOk readbackOk words) s := by
  refine ⟨_, rfl, ?_⟩
  (repeat' split) <;> simp [onlyWrites_iff, writes]

theorem commitComplete_framed programOk identity (s : State) : Framed (.commitComplete programOk identity) s := by
  refine ⟨_, rfl, ?_⟩
  (repeat' split) <;> simp [onlyWrites_iff, writes]

theorem parameterCommitComplete_framed readbackOk (s : State) : Framed (.parameterCommitComplete readbackOk) s :=
  ⟨_, rfl, by simp [onlyWrites_iff, writes]⟩

/-! #### Startup -/

theorem powerUp_framed (s : State) : Framed .powerUp s :=
  ⟨_, rfl, by simp [onlyWrites_iff, writes]⟩

theorem resetNFall_framed (s : State) : Framed .resetNFall s := by
  refine ⟨_, rfl, ?_⟩
  (repeat' split) <;> simp [onlyWrites_iff, writes]

theorem resetExit_framed nvsel33 (s : State) : Framed (.resetExit nvsel33) s :=
  ⟨_, rfl, by simp [onlyWrites_iff, writes]⟩

theorem fuseSenseComplete_framed found (s : State) : Framed (.fuseSenseComplete found) s :=
  ⟨_, rfl, by simp [onlyWrites_iff, writes]⟩

theorem fDieInventoryComplete_framed pllsOk l (s : State) : Framed (.fDieInventoryComplete pllsOk l) s :=
  ⟨_, rfl, by simp [onlyWrites_iff, writes]⟩

theorem startupLogicBistComplete_framed pass clocksOk rails (s : State) :
    Framed (.startupLogicBistComplete pass clocksOk rails) s :=
  ⟨_, rfl, by simp [onlyWrites_iff, writes]⟩

theorem startupMemoryBistComplete_framed pass identity (s : State) :
    Framed (.startupMemoryBistComplete pass identity) s :=
  ⟨_, rfl, by simp [onlyWrites_iff, writes]⟩

theorem nandMount_framed r (s : State) : Framed (.nandMount r) s :=
  ⟨_, rfl, by simp [onlyWrites_iff, writes]⟩

theorem imageReadComplete_framed (s : State) : Framed .imageReadComplete s := by
  refine ⟨_, rfl, ?_⟩
  dsimp only [draw]
  (repeat' split) <;> simp [onlyWrites_iff, writes]

theorem signatureVerificationComplete_framed (s : State) : Framed .signatureVerificationComplete s := by
  refine ⟨_, rfl, ?_⟩
  (repeat' split) <;> simp [onlyWrites_iff, writes]

theorem readbackAndLockComplete_framed readbackOk identity (s : State) :
    Framed (.readbackAndLockComplete readbackOk identity) s := by
  refine ⟨_, rfl, ?_⟩
  (repeat' split) <;> simp [onlyWrites_iff, writes]

theorem startupStepTimeout_framed (s : State) : Framed .startupStepTimeout s := by
  refine ⟨_, rfl, ?_⟩
  dsimp only [draw]
  (repeat' split) <;> simp [onlyWrites_iff, writes]

theorem jtagFuseProgram_framed words flags (s : State) : Framed (.jtagFuseProgram words flags) s :=
  ⟨_, rfl, by simp [onlyWrites_iff, writes]⟩

/-! #### Accesses -/

theorem objectWrite_framed r index sub data (s : State) : Framed (.objectWrite r index sub data) s :=
  ⟨_, rfl, by simp [onlyWrites_iff, writes]⟩

theorem parameterCommit_framed r (s : State) : Framed (.parameterCommit r) s :=
  ⟨_, rfl, by simp [onlyWrites_iff, writes]⟩

/-! #### Injections -/

theorem faultInjection_framed detected (s : State) : Framed (.faultInjection detected) s := by
  refine ⟨_, rfl, ?_⟩
  dsimp only [draw]
  (repeat' split) <;> simp [onlyWrites_iff, writes]

/-! #### Instructions -/

theorem add_framed k c rd f (s : State) : Framed (.add k c rd f) s := by
  refine ⟨_, rfl, ?_⟩
  (repeat' split) <;> simp [onlyWrites_iff, writes]

theorem branch_framed k c cond rs1 rs2 off (s : State) : Framed (.branch k c cond rs1 rs2 off) s :=
  ⟨_, rfl, by simp [onlyWrites_iff, writes]⟩

theorem jump_framed k c rd f (s : State) : Framed (.jump k c rd f) s :=
  ⟨_, rfl, by simp [onlyWrites_iff, writes]⟩

theorem load_framed k c m rd rs1 off ecc (s : State) : Framed (.load k c m rd rs1 off ecc) s :=
  ⟨_, rfl, by simp [onlyWrites_iff, writes]⟩

theorem store_framed k c m rs1 rs2 off (s : State) : Framed (.store k c m rs1 rs2 off) s :=
  ⟨_, rfl, issue_onlyWrites _ _ _ _ _ fun t => by
    dsimp only
    (repeat' split) <;> simp [onlyWrites_iff]⟩

theorem csrAccess_framed k op n rd src (s : State) : Framed (.csrAccess k op n rd src) s :=
  ⟨_, rfl, issue_onlyWrites _ _ _ _ _ fun t => by
    dsimp only
    (repeat' split) <;> simp [onlyWrites_iff]⟩

theorem fence_framed k (s : State) : Framed (.fence k) s :=
  ⟨_, rfl, by simp [onlyWrites_iff, writes]⟩

theorem fenceI_framed k (s : State) : Framed (.fenceI k) s :=
  ⟨_, rfl, by simp [onlyWrites_iff, writes]⟩

theorem ecall_framed k (s : State) : Framed (.ecall k) s :=
  ⟨_, rfl, by simp [onlyWrites_iff, writes]⟩

theorem ebreak_framed k c (s : State) : Framed (.ebreak k c) s :=
  ⟨_, rfl, by simp [onlyWrites_iff, writes]⟩

theorem illegalInstruction_framed k w (s : State) : Framed (.illegalInstruction k w) s :=
  ⟨_, rfl, by simp [onlyWrites_iff, writes]⟩

/-! #### KDP and the host SPI -/

theorem kdpRead_framed r q (s : State) : Framed (.kdpRead r q) s :=
  ⟨_, rfl, by simp [onlyWrites_iff, writes]⟩

theorem kdpReadMulti_framed r q (s : State) : Framed (.kdpReadMulti r q) s :=
  ⟨_, rfl, by simp [onlyWrites_iff, writes]⟩

theorem kdpWrite_framed r q (s : State) : Framed (.kdpWrite r q) s := by
  refine ⟨_, rfl, ?_⟩
  dsimp only
  split
  · simp [onlyWrites_iff, writes]
  · refine kdpServe_onlyWrites _ _ _ _ _ fun t => ?_
    split
    · simp
    · next u e =>
      have k := (onlyWrites_iff _ _ _).1 (trailerOk_onlyWrites e)
      simp at k
      simp [k]

theorem kdpUnknownOperation_framed r q (s : State) : Framed (.kdpUnknownOperation r q) s :=
  ⟨_, rfl, by simp [onlyWrites_iff, writes]⟩

theorem kdpSubscribe_framed r q (s : State) : Framed (.kdpSubscribe r q) s :=
  ⟨_, rfl, by simp [onlyWrites_iff, writes]⟩

theorem subscriptionNotification_framed n coalesced (s : State) : Framed (.subscriptionNotification n coalesced) s := by
  refine ⟨_, rfl, ?_⟩
  dsimp only [draw]
  (repeat' split) <;> simp [onlyWrites_iff, writes]

theorem subscriptionLapse_framed n (s : State) : Framed (.subscriptionLapse n) s := by
  refine ⟨_, rfl, ?_⟩
  (repeat' split) <;> simp [onlyWrites_iff, writes]

theorem hspiWriteRequest_framed fr (s : State) : Framed (.hspiWriteRequest fr) s :=
  ⟨_, rfl, by simp [onlyWrites_iff, writes]⟩

theorem hspiReadResponse_framed (s : State) : Framed .hspiReadResponse s :=
  ⟨_, rfl, by simp [onlyWrites_iff, writes]⟩

theorem hspiReadStatus_framed (s : State) : Framed .hspiReadStatus s :=
  ⟨_, rfl, by simp [onlyWrites_iff, writes]⟩

theorem hspiUnknownCommand_framed cmd (s : State) : Framed (.hspiUnknownCommand cmd) s :=
  ⟨_, rfl, by simp [onlyWrites_iff, writes]⟩

theorem sessionChallenge_framed r kind nonce (s : State) : Framed (.sessionChallenge r kind nonce) s := by
  refine ⟨_, rfl, ?_⟩
  (repeat' split) <;> simp [onlyWrites_iff, writes]

theorem sessionAnswer_framed r mac (s : State) : Framed (.sessionAnswer r mac) s := by
  refine ⟨_, rfl, ?_⟩
  (repeat' split) <;> simp [onlyWrites_iff, writes]

theorem sessionClose_framed r (s : State) : Framed (.sessionClose r) s := by
  refine ⟨_, rfl, ?_⟩
  split
  · exact dictWrite_onlyWrites
  · refine sessionRun_onlyWrites _ _ _ _ fun t => ?_
    split
    · simp
    · next u e =>
      have k := (onlyWrites_iff _ _ _).1 (trailerOk_onlyWrites e)
      simp at k
      simp [k]

/-! #### SDO -/

theorem sdoInitiateDownload_framed n index sub expedited size data (s : State) :
    Framed (.sdoInitiateDownload n index sub expedited size data) s :=
  ⟨_, rfl, by simp [onlyWrites_iff, writes]⟩

theorem sdoDownloadSegment_framed n toggle last data (s : State) :
    Framed (.sdoDownloadSegment n toggle last data) s :=
  ⟨_, rfl, by simp [onlyWrites_iff, writes]⟩

theorem sdoInitiateUpload_framed n index sub (s : State) : Framed (.sdoInitiateUpload n index sub) s :=
  ⟨_, rfl, by simp [onlyWrites_iff, writes]⟩

theorem sdoUploadSegment_framed n toggle (s : State) : Framed (.sdoUploadSegment n toggle) s :=
  ⟨_, rfl, by simp [onlyWrites_iff, writes]⟩

theorem sdoBlockDownload_framed n c (s : State) : Framed (.sdoBlockDownload n c) s :=
  ⟨_, rfl, by simp [onlyWrites_iff, writes]⟩

theorem sdoBlockUpload_framed n c (s : State) : Framed (.sdoBlockUpload n c) s :=
  ⟨_, rfl, by simp [onlyWrites_iff, writes]⟩

theorem sdoAbortTransfer_framed n code (s : State) : Framed (.sdoAbortTransfer n code) s :=
  ⟨_, rfl, by simp [onlyWrites_iff, writes]⟩

theorem sdoTimeout_framed n (s : State) : Framed (.sdoTimeout n) s :=
  ⟨_, rfl, by simp [onlyWrites_iff, writes]⟩

theorem canFrameReceived_framed n id ext fd crcOk data (s : State) :
    Framed (.canFrameReceived n id ext fd crcOk data) s :=
  ⟨_, rfl, by simp [onlyWrites_iff, writes]⟩

/-! #### The command set -/

/-- Every command completes and writes its own parts alone. -/
theorem exec_framed (c : Instr) (s : State) : Framed c s :=
  match c with
  | .powerUp => powerUp_framed ..
  | .resetNFall => resetNFall_framed ..
  | .resetExit _ => resetExit_framed ..
  | .fuseSenseComplete _ => fuseSenseComplete_framed ..
  | .fDieInventoryComplete _ _ => fDieInventoryComplete_framed ..
  | .startupLogicBistComplete _ _ _ => startupLogicBistComplete_framed ..
  | .startupMemoryBistComplete _ _ => startupMemoryBistComplete_framed ..
  | .nandMount _ => nandMount_framed ..
  | .imageReadComplete => imageReadComplete_framed ..
  | .signatureVerificationComplete => signatureVerificationComplete_framed ..
  | .readbackAndLockComplete _ _ => readbackAndLockComplete_framed ..
  | .startupStepTimeout => startupStepTimeout_framed ..
  | .cSupplyMonitorTrip _ _ => cSupplyMonitorTrip_framed ..
  | .vfldLTrip _ _ => vfldLTrip_framed ..
  | .vfldLTripEnd _ _ => vfldLTripEnd_framed ..
  | .vioNFault _ => vioNFault_framed ..
  | .pfailNLow => pfailNLow_framed ..
  | .dieTemperatureWarning _ _ => dieTemperatureWarning_framed ..
  | .fDieOvertemperature _ _ => fDieOvertemperature_framed ..
  | .cDieOvertemperature _ => cDieOvertemperature_framed ..
  | .vholdShortDetected _ => vholdShortDetected_framed ..
  | .vholdLow _ => vholdLow_framed ..
  | .holdupExhausted => holdupExhausted_framed ..
  | .tapStateChange => tapStateChange_framed ..
  | .enableFrame _ _ _ _ _ _ => enableFrame_framed ..
  | .enableFrameTimeout _ => enableFrameTimeout_framed ..
  | .curfewStopDetected _ _ => curfewStopDetected_framed ..
  | .statusLinkFrame _ _ _ _ _ => statusLinkFrame_framed ..
  | .sharedSignalSegment _ _ _ _ _ => sharedSignalSegment_framed ..
  | .segmentThirdFailure _ _ => segmentThirdFailure_framed ..
  | .ringBroken _ _ => ringBroken_framed ..
  | .fEscapementResponse _ _ _ => fEscapementResponse_framed ..
  | .fEscapementMissed _ => fEscapementMissed_framed ..
  | .lockedMemoryWrite _ _ => lockedMemoryWrite_framed ..
  | .requestSafe _ => ⟨_, rfl, dictWrite_onlyWrites⟩
  | .requestRun _ => ⟨_, rfl, dictWrite_onlyWrites⟩
  | .requestConfigure _ => ⟨_, rfl, dictWrite_onlyWrites⟩
  | .requestMaintenance _ => ⟨_, rfl, dictWrite_onlyWrites⟩
  | .runEntry => runEntry_framed ..
  | .laneAgreementTimeout _ => laneAgreementTimeout_framed ..
  | .pairLaneDisagreement _ => pairLaneDisagreement_framed ..
  | .kdpRead _ _ => kdpRead_framed ..
  | .kdpWrite _ _ => kdpWrite_framed ..
  | .kdpReadMulti _ _ => kdpReadMulti_framed ..
  | .kdpSubscribe _ _ => kdpSubscribe_framed ..
  | .subscriptionNotification _ _ => subscriptionNotification_framed ..
  | .subscriptionLapse _ => subscriptionLapse_framed ..
  | .sessionChallenge _ _ _ => sessionChallenge_framed ..
  | .clientNonceWrite _ _ => ⟨_, rfl, dictWrite_onlyWrites⟩
  | .sessionAnswer _ _ => sessionAnswer_framed ..
  | .sessionClose _ => sessionClose_framed ..
  | .challengeExpiry => challengeExpiry_framed ..
  | .lockoutEnd => lockoutEnd_framed ..
  | .sessionTimeout => sessionTimeout_framed ..
  | .hspiWriteRequest _ => hspiWriteRequest_framed ..
  | .hspiReadResponse => hspiReadResponse_framed ..
  | .hspiReadStatus => hspiReadStatus_framed ..
  | .hspiUnknownCommand _ => hspiUnknownCommand_framed ..
  | .sdoInitiateDownload _ _ _ _ _ _ => sdoInitiateDownload_framed ..
  | .sdoDownloadSegment _ _ _ _ => sdoDownloadSegment_framed ..
  | .sdoInitiateUpload _ _ _ => sdoInitiateUpload_framed ..
  | .sdoUploadSegment _ _ => sdoUploadSegment_framed ..
  | .sdoBlockDownload _ _ => sdoBlockDownload_framed ..
  | .sdoBlockUpload _ _ => sdoBlockUpload_framed ..
  | .sdoAbortTransfer _ _ => sdoAbortTransfer_framed ..
  | .sdoTimeout _ => sdoTimeout_framed ..
  | .objectWrite _ _ _ _ => objectWrite_framed ..
  | .imageStagingWrite _ _ _ => ⟨_, rfl, dictWrite_onlyWrites⟩
  | .parameterStagingWrite _ _ _ _ => ⟨_, rfl, dictWrite_onlyWrites⟩
  | .imageCommit _ _ => ⟨_, rfl, dictWrite_onlyWrites⟩
  | .imageSlotWritten _ _ _ => imageSlotWritten_framed ..
  | .commitComplete _ _ => commitComplete_framed ..
  | .parameterCommit _ => parameterCommit_framed ..
  | .parameterCommitComplete _ => parameterCommitComplete_framed ..
  | .discardStaging _ => ⟨_, rfl, dictWrite_onlyWrites⟩
  | .filteredChange _ _ _ _ => filteredChange_framed ..
  | .ossdOff _ _ _ _ => ossdOff_framed ..
  | .inputOvervoltage _ _ => inputOvervoltage_framed ..
  | .laneInputDisagreement _ _ => laneInputDisagreement_framed ..
  | .testPulseStart _ _ _ => testPulseStart_framed ..
  | .testPulseEvaluation _ _ _ => testPulseEvaluation_framed ..
  | .sourceCurrentLimit _ _ => sourceCurrentLimit_framed ..
  | .sourceRetry _ _ => sourceRetry_framed ..
  | .readbackUpdate _ _ _ => readbackUpdate_framed ..
  | .readbackCalibration _ _ => readbackCalibration_framed ..
  | .plausibilityFault _ _ _ => plausibilityFault_framed ..
  | .transitionRegionFault _ _ => transitionRegionFault_framed ..
  | .nextEventRead _ _ => ⟨_, rfl, dictRead_onlyWrites⟩
  | .discrepancyDeadline _ _ => discrepancyDeadline_framed ..
  | .samplingStartHoldEnd _ _ _ => samplingStartHoldEnd_framed ..
  | .resetPressOverlong _ _ => resetPressOverlong_framed ..
  | .resetButtonStuck _ => resetButtonStuck_framed ..
  | .resetStuckLift _ => resetStuckLift_framed ..
  | .evaluationWindow _ _ _ _ => evaluationWindow_framed ..
  | .windowOverrun _ => windowOverrun_framed ..
  | .blockTimerExpiry _ _ _ => ⟨_, rfl, slotDue_onlyWrites⟩
  | .edmTimeout _ _ _ => ⟨_, rfl, slotDue_onlyWrites⟩
  | .islandStatusInvalid _ => islandStatusInvalid_framed ..
  | .brakePullInElapsed _ _ _ => ⟨_, rfl, slotDue_onlyWrites⟩
  | .arrayBistStart _ => arrayBistStart_framed ..
  | .arrayBistEnd _ _ _ _ => arrayBistEnd_framed ..
  | .outputCurrentLimit _ _ => outputCurrentLimit_framed ..
  | .returnCurrentLimit _ _ => returnCurrentLimit_framed ..
  | .groupCurrentMean _ _ _ => groupCurrentMean_framed ..
  | .externalFeed _ _ _ => externalFeed_framed ..
  | .externalFeedGone _ _ _ => externalFeedGone_framed ..
  | .pmCurrentMismatch _ _ => pmCurrentMismatch_framed ..
  | .minimumLoad _ _ => minimumLoad_framed ..
  | .darkTestStart _ _ => darkTestStart_framed ..
  | .darkTestEvaluation _ _ => darkTestEvaluation_framed ..
  | .lightTestStart _ _ _ => lightTestStart_framed ..
  | .lightTestEvaluation _ _ _ => lightTestEvaluation_framed ..
  | .groupSupplyWarning _ _ _ => groupSupplyWarning_framed ..
  | .groupSupplyUndervoltage _ _ _ => groupSupplyUndervoltage_framed ..
  | .groupSupplyOvervoltage _ _ _ => groupSupplyOvervoltage_framed ..
  | .groupSupplyPresent _ _ _ => groupSupplyPresent_framed ..
  | .learnedValuePersist => learnedValuePersist_framed ..
  | .coilOpen _ _ => coilOpen_framed ..
  | .coilOvercurrent _ _ _ => coilOvercurrent_framed ..
  | .holdingCurrentFault _ _ _ => holdingCurrentFault_framed ..
  | .signatureDecision _ _ _ => signatureDecision_framed ..
  | .mechanicalTestPhaseEnd _ _ => mechanicalTestPhaseEnd_framed ..
  | .mechanicalTestOverdue _ _ => mechanicalTestOverdue_framed ..
  | .relearn _ _ => ⟨_, rfl, dictWrite_onlyWrites⟩
  | .add _ _ _ _ => add_framed ..
  | .sub _ _ _ _ _ => ⟨_, rfl, alu_onlyWrites⟩
  | .and _ _ _ _ _ => ⟨_, rfl, alu_onlyWrites⟩
  | .or _ _ _ _ _ => ⟨_, rfl, alu_onlyWrites⟩
  | .xor _ _ _ _ _ => ⟨_, rfl, alu_onlyWrites⟩
  | .sll _ _ _ _ _ => ⟨_, rfl, alu_onlyWrites⟩
  | .srl _ _ _ _ _ => ⟨_, rfl, alu_onlyWrites⟩
  | .sra _ _ _ _ _ => ⟨_, rfl, alu_onlyWrites⟩
  | .slt _ _ _ _ _ _ => ⟨_, rfl, alu_onlyWrites⟩
  | .branch _ _ _ _ _ _ => branch_framed ..
  | .multiply _ _ _ _ _ => ⟨_, rfl, alu_onlyWrites⟩
  | .divide _ _ _ _ _ => ⟨_, rfl, alu_onlyWrites⟩
  | .remainder _ _ _ _ _ => ⟨_, rfl, alu_onlyWrites⟩
  | .load _ _ _ _ _ _ _ => load_framed ..
  | .store _ _ _ _ _ _ => store_framed ..
  | .csrAccess _ _ _ _ _ => csrAccess_framed ..
  | .fence _ => fence_framed ..
  | .fenceI _ => fenceI_framed ..
  | .ecall _ => ecall_framed ..
  | .ebreak _ _ => ebreak_framed ..
  | .checkpoint _ _ => checkpoint_framed ..
  | .busMismatch _ _ => busMismatch_framed ..
  | .skewParityError _ _ => skewParityError_framed ..
  | .comparatorRailFault _ => comparatorRailFault_framed ..
  | .memoryScrub _ => memoryScrub_framed ..
  | .plannedHandover _ => plannedHandover_framed ..
  | .safetyCycleBoundary _ => safetyCycleBoundary_framed ..
  | .escapementWindowMissed _ => escapementWindowMissed_framed ..
  | .faultReport _ => faultReport_framed ..
  | .faultRecordCommit _ => faultRecordCommit_framed ..
  | .quietPeriodEnd _ => quietPeriodEnd_framed ..
  | .acknowledge _ _ => ⟨_, rfl, dictWrite_onlyWrites⟩
  | .clearHistory _ => ⟨_, rfl, dictWrite_onlyWrites⟩
  | .releaseFirstFault _ => ⟨_, rfl, dictWrite_onlyWrites⟩
  | .faultRecordRead _ _ _ => ⟨_, rfl, dictRead_onlyWrites⟩
  | .chimeRound _ => chimeRound_framed ..
  | .faultInjectionStart _ => ⟨_, rfl, dictWrite_onlyWrites⟩
  | .faultInjection _ => faultInjection_framed ..
  | .resetRecoveryCounter _ _ => ⟨_, rfl, dictWrite_onlyWrites⟩
  | .itemEligible _ => itemEligible_framed ..
  | .rotationStep => rotationStep_framed ..
  | .coreBistComplete _ _ => coreBistComplete_framed ..
  | .ts3MemoryBistStart => ts3MemoryBistStart_framed ..
  | .ts3MemoryBistComplete _ => ts3MemoryBistComplete_framed ..
  | .calibration _ _ => calibration_framed ..
  | .calibrationOverdue _ => calibrationOverdue_framed ..
  | .testOverdue _ => testOverdue_framed ..
  | .testRequest _ _ => ⟨_, rfl, dictWrite_onlyWrites⟩
  | .phyStatusPoll _ => phyStatusPoll_framed ..
  | .portLinkChange _ _ _ _ => portLinkChange_framed ..
  | .ethernetFrameReceived _ _ => ethernetFrameReceived_framed ..
  | .arpRequest _ _ _ _ _ => arpRequest_framed ..
  | .arpEntryExpiry _ _ => arpEntryExpiry_framed ..
  | .addressEntryAgeing _ _ => addressEntryAgeing_framed ..
  | .icmpEchoRequest _ _ => icmpEchoRequest_framed ..
  | .frameTransmitComplete _ => frameTransmitComplete_framed ..
  | .supervisionFrameSend _ => supervisionFrameSend_framed ..
  | .supervisionFrameReceived _ => supervisionFrameReceived_framed ..
  | .supervisionLoss _ => supervisionLoss_framed ..
  | .duplicateEntryForget _ _ _ => duplicateEntryForget_framed ..
  | .ptpSync _ _ _ _ => ptpSync_framed ..
  | .ptpFollowUp _ _ _ _ => ptpFollowUp_framed ..
  | .ptpDelayReq _ _ _ _ => ptpDelayReq_framed ..
  | .ptpDelayResp _ _ _ => ptpDelayResp_framed ..
  | .ptpPeerDelay _ _ _ _ _ => ptpPeerDelay_framed ..
  | .canFrameReceived _ _ _ _ _ _ => canFrameReceived_framed ..
  | .busOff _ => busOff_framed ..
  | .busOffRecovery _ => busOffRecovery_framed ..
  | .nmtStart _ _ => ⟨_, rfl, nmt_onlyWrites⟩
  | .nmtStop _ _ => ⟨_, rfl, nmt_onlyWrites⟩
  | .nmtEnterPreOperational _ _ => ⟨_, rfl, nmt_onlyWrites⟩
  | .nmtResetCommunication _ _ => ⟨_, rfl, nmt_onlyWrites⟩
  | .nmtResetNode _ _ => ⟨_, rfl, nmt_onlyWrites⟩
  | .heartbeat => heartbeat_framed ..
  | .linkSymbolLoss _ => linkSymbolLoss_framed ..
  | .linkSynced _ => linkSynced_framed ..
  | .helloSend _ => helloSend_framed ..
  | .helloReceived _ _ => helloReceived_framed ..
  | .helloTimeout _ => helloTimeout_framed ..
  | .linkFrameReceived _ _ => linkFrameReceived_framed ..
  | .frameInterrupted _ => frameInterrupted_framed ..
  | .telegramReceived _ _ _ => telegramReceived_framed ..
  | .watchdogExpiry _ => watchdogExpiry_framed ..
  | .pairingExchangeSend => pairingExchangeSend_framed ..
  | .pairedInputDisagreement _ => pairedInputDisagreement_framed ..
  | .pairingCheckSend => pairingCheckSend_framed ..
  | .spiTransferComplete _ _ => spiTransferComplete_framed ..
  | .uartLedgerPage _ => uartLedgerPage_framed ..
  | .uartStatusFrame _ => uartStatusFrame_framed ..
  | .uartXoff _ => uartXoff_framed ..
  | .uartXon _ => uartXon_framed ..
  | .streamStartWrite _ _ _ => ⟨_, rfl, dictWrite_onlyWrites⟩
  | .temperatureSensorPoll _ => temperatureSensorPoll_framed ..
  | .ledgerRecord _ => ledgerRecord_framed ..
  | .pageAgeSeal => pageAgeSeal_framed ..
  | .holdupPageSeal => holdupPageSeal_framed ..
  | .pageProgramComplete _ => pageProgramComplete_framed ..
  | .nandBusyTimeout => nandBusyTimeout_framed ..
  | .format _ => ⟨_, rfl, dictWrite_onlyWrites⟩
  | .formatComplete _ _ => formatComplete_framed ..
  | .parameterSetWrite => parameterSetWrite_framed ..
  | .scrubPass _ _ _ => scrubPass_framed ..
  | .wearLevellingMove _ => wearLevellingMove_framed ..
  | .operatingTimePersist => operatingTimePersist_framed ..
  | .pinRequest _ => ⟨_, rfl, dictWrite_onlyWrites⟩
  | .pinCopyStart _ => pinCopyStart_framed ..
  | .releasePin _ _ => ⟨_, rfl, dictWrite_onlyWrites⟩
  | .ledgerPageRead _ _ => ⟨_, rfl, dictRead_onlyWrites⟩
  | .pinnedPageRead _ _ => ⟨_, rfl, dictRead_onlyWrites⟩
  | .clockMonitorFault _ _ _ => clockMonitorFault_framed ..
  | .ppsEdge _ _ => ppsEdge_framed ..
  | .ppsLost _ => ppsLost_framed ..
  | .ppsoSecond => ppsoSecond_framed ..
  | .timeSourceLost => timeSourceLost_framed ..
  | .holdoverLimit => holdoverLimit_framed ..
  | .setDeviceTime _ _ => ⟨_, rfl, dictWrite_onlyWrites⟩
  | .nextSecond _ _ => ⟨_, rfl, dictWrite_onlyWrites⟩
  | .alignmentFrame _ _ _ _ => alignmentFrame_framed ..
  | .powerGoodTimeout _ => powerGoodTimeout_framed ..
  | .eventSelectWrite _ _ _ _ => ⟨_, rfl, dictWrite_onlyWrites⟩
  | .counterWrite _ _ _ _ _ => ⟨_, rfl, dictWrite_onlyWrites⟩
  | .overflowFlagsWrite _ _ _ _ => ⟨_, rfl, dictWrite_onlyWrites⟩
  | .samplingIntervalWrite _ _ _ => ⟨_, rfl, dictWrite_onlyWrites⟩
  | .clearSamples _ _ => ⟨_, rfl, dictWrite_onlyWrites⟩
  | .resetStatistics _ => ⟨_, rfl, dictWrite_onlyWrites⟩
  | .rawStateChange _ _ _ _ _ => rawStateChange_framed ..
  | .kdpUnknownOperation _ _ => kdpUnknownOperation_framed ..
  | .commaAlignment _ => commaAlignment_framed ..
  | .jump _ _ _ _ => jump_framed ..
  | .lui _ _ _ _ => ⟨_, rfl, alu_onlyWrites⟩
  | .illegalInstruction _ _ => illegalInstruction_framed ..
  | .jtagFuseProgram _ _ => jtagFuseProgram_framed ..
  | .dieTemperatureClear _ _ => dieTemperatureClear_framed ..
  | .vioNConditionGone _ => vioNConditionGone_framed ..
  | .vholdCharged _ => vholdCharged_framed ..
  | .groupSupplyWarningClear _ _ _ => groupSupplyWarningClear_framed ..
  | .sourceRetryConditionGone _ _ => sourceRetryConditionGone_framed ..
  | .rollbackWindowExpiry _ => rollbackWindowExpiry_framed ..
  | .summaryRecordWindow _ => summaryRecordWindow_framed ..

/-- Settles O3: every command has its frame lemma, and `exec` answers no other state than the one it completes with. -/
theorem commandsWriteOnlyTheirParts : Obligations.CommandsWriteOnlyTheirParts := by
  refine ⟨exec_framed, fun c s t h => ?_⟩
  obtain ⟨u, hu, frame⟩ := exec_framed c s
  cases hu.symm.trans h
  exact frame

/-! ### Transitions (O4) -/

/-- A client on CN0. -/
def canClient : Requester := { code := 2 }

/-- The device in RUN. A READ over HSPI that came at 0 ns has not run yet; behind it wait two writes to 0x2100:02 that a
client on CN0, which holds a CONFIGURE session, sent in later time ticks: SAFE at 10 ns and CONFIGURE at 20 ns (R120). -/
def twoRequestsWait : State where
  pending := [.kdpRead {} {}]
  ctl := { st := .run, locked := true }
  cfg := { image := some { (default : Image) with sites := 0x7F } }
  fuses := { shadow := [(1, { value := 0x7F })] }
  dict := {
    session := { state := 2, kind := 1, holder := some canClient }
    hspi := { requests := [{}] }
    held := [{ client := canClient, at_ := 10, op := .write 0x2100 2 [0x20] 0 {} [] },
      { client := canClient, at_ := 20, op := .write 0x2100 2 [0x40] 0 {} [] }] }
  led := { state := 1, fill := 4 }
  time := { now := 30 }

theorem step_twoRequestsWait :
    (match step twoRequestsWait with
      | .next t => some t.ctl.st
      | _ => none) = some .configure := by decide +kernel

/-- Refutes O4: one step runs every held access whose turn has come. Of two requests that waited, the first takes the
device from RUN to SAFE and the second, of a later time tick and so not beaten (R45), on to CONFIGURE; Table AR-7 lists
both transitions but not the step's, from RUN to CONFIGURE. -/
theorem not_transitionsAreListed : ¬ Obligations.TransitionsAreListed := by
  intro h
  have hst := step_twoRequestsWait
  split at hst
  · next t e =>
    have ht : t.ctl.st = .configure := Option.some.inj hst
    have listed := h _ t e
    rw [ht] at listed
    revert listed
    decide
  · cases hst

end Sys2Proof.Machine
end

section
/-! PROOFS. The trips of the supplies: a fault whose cleared record is still kept. -/

namespace Sys2Proof.Machine

set_option Elab.async false

/-! ### The trips of the supplies (O21) -/

/-- A record of the loss of the supply that is cleared and recovered and still kept (R354). -/
def supplyLossCleared : Record where
  time := 0
  code := 0x0B03
  level := 4
  defined := 4
  source := 0x0760
  seq := 1
  status := 1
  recovered := true
  recAt := 1

/-- A device in SAFE whose one fault record is the cleared one of the loss of the supply. -/
def supplyLossKept : State where
  ctl := { st := .safe }
  col := { records := [supplyLossCleared] }

/-- PFAIL_N low joins the cleared record: it is in effect again, so nothing is left to commit and the device does not
enter HALT. -/
theorem pfailNLow_supplyLossKept : ∃ t, exec .pfailNLow supplyLossKept = .next t ∧ t.ctl.st = .safe :=
  ⟨_, rfl, by decide +kernel⟩

/-- Refutes O21: PFAIL_N low while a cleared record of its fault is still kept. R354 sets that record again, so the
report commits nothing and the device stays in SAFE where the statement says HALT. -/
theorem not_supplyTrips : ¬ Obligations.SupplyTrips := by
  unfold Obligations.SupplyTrips
  intro h
  obtain ⟨-, pfail, -⟩ := h supplyLossKept rfl
  have room : roomy supplyLossKept := by unfold roomy; decide +kernel
  obtain ⟨t, run, halt, -⟩ := pfail (by decide) room (by decide +kernel) (by simp [supplyLossKept])
  obtain ⟨u, run', safe⟩ := pfailNLow_supplyLossKept
  rw [run] at run'
  cases run'
  rw [safe] at halt
  cases halt

end Sys2Proof.Machine

end

section
/-! PROOFS. What a raised fault leaves of the arrays and islands, and what it holds off. -/

namespace Sys2Proof.Machine

set_option Elab.async false

/-! ### What a raised fault leaves of records, reports and arrays (R338, R339, R378) -/

/-- From `s` to `t` the records keep their codes and sources, no waiting report is lost, the islands stay, and of an
array at most its state changes, as where a test is abandoned. -/
structure Reacts (s t : State) : Prop where
  recs : ∃ g : Record → Record, (∀ r, (g r).code = r.code ∧ (g r).source = r.source)
    ∧ t.col.records = s.col.records.map g
  waits : ∀ code src, Waits code src s → Waits code src t
  island : t.array.island = s.array.island
  fba : ∀ f, fba t f = { fba s f with state := (fba t f).state }

theorem Reacts.refl (s : State) : Reacts s s :=
  ⟨⟨id, fun _ => ⟨rfl, rfl⟩, (List.map_id _).symm⟩, fun _ _ w => w, rfl, fun _ => rfl⟩

theorem Reacts.trans {s t u : State} (h : Reacts s t) (k : Reacts t u) : Reacts s u := by
  obtain ⟨g, hg, eg⟩ := h.recs
  obtain ⟨f, hf, ef⟩ := k.recs
  refine ⟨⟨f ∘ g, fun r => ?_, by rw [ef, eg, List.map_map]⟩, fun c x w => k.waits c x (h.waits c x w),
    k.island.trans h.island, fun n => ?_⟩
  · exact ⟨(hf (g r)).1.trans (hg r).1, (hf (g r)).2.trans (hg r).2⟩
  · rw [k.fba n, h.fba n]

theorem Reacts.fold {α : Type} (f : State → α → State) (l : List α) (h : ∀ s x, Reacts s (f s x)) (s : State) :
    Reacts s (l.foldl f s) := by
  induction l generalizing s with
  | nil => exact .refl s
  | cons x l ih => exact (h s x).trans (ih _)

theorem Reacts.ite {p : Prop} [Decidable p] {s t u : State} (h : Reacts s t) (k : Reacts s u) :
    Reacts s (if p then t else u) := by
  split
  · exact h
  · exact k

theorem Reacts.of_grows {s t : State} (h : Grows s t) (ha : t.array = s.array) : Reacts s t := by
  obtain ⟨⟨g, hg, e⟩, w⟩ := h
  refine ⟨⟨g, fun r => ?_, e⟩, w, by rw [ha], fun f => by rw [Machine.fba, Machine.fba, ha]⟩
  obtain ⟨-, code, source, -⟩ := hg r
  exact ⟨code, source⟩

theorem Reacts.of_parts {s t : State} (hc : t.col = s.col) (ha : t.array = s.array) : Reacts s t :=
  .of_grows (.of_eq (by rw [hc]) (by rw [hc])) ha

/-- A change of picked records that keeps their codes and sources. -/
theorem updRecords_reacts (pick : Record → Bool) (f : Record → Record) (s : State)
    (h : ∀ r, (f r).code = r.code ∧ (f r).source = r.source) : Reacts s (updRecords pick f s) := by
  obtain ⟨⟨g, hg, e⟩, w⟩ := updWith_records ledgerPut_grows pick f s
  refine ⟨⟨fun r => g (if pick r then f r else r), fun r => ?_, by rw [updRecords, e, List.map_map]; rfl⟩, w,
    by simp, fun n => by simp [Machine.fba]⟩
  obtain ⟨-, code, source, -⟩ := hg (if pick r then f r else r)
  rw [code, source]
  split
  · exact h r
  · exact ⟨rfl, rfl⟩

/-- A change of the waiting reports alone that loses none. -/
theorem Reacts.of_pending {s : State} (l : List Pending)
    (w : ∀ code src, Waits code src s → Waits code src { s with col := { s.col with pending := l } }) :
    Reacts s { s with col := { s.col with pending := l } } :=
  ⟨⟨id, fun _ => ⟨rfl, rfl⟩, (List.map_id _).symm⟩, w, rfl, fun _ => rfl⟩

theorem modPending_reacts (pick : Pending → Bool) (f : Pending → Pending) (s : State)
    (h : ∀ p, (f p).superseded = p.superseded ∧ (f p).rep = p.rep) : Reacts s (modPending pick f s) :=
  .of_pending _ (waits_map (fun p => if pick p then f p else p) s _ rfl fun p => by split <;> simp [h p])

theorem enter_reacts (a : Report) (force : Bool) (s : State) : Reacts s (enter a force s) := by
  unfold enter enterWith
  split
  · exact updRecords_reacts _ _ s fun _ => ⟨rfl, rfl⟩
  split
  · exact .of_pending _ (waits_map _ s _ rfl fun p => by split <;> simp)
  · exact .of_pending _ (waits_insert _ s _ rfl)

theorem unrecover_reacts (a : Report) (s : State) : Reacts s (unrecover a s) :=
  .trans (.of_grows (.of_eq (uncount_col _ s).1 (uncount_col _ s).2) (by simp))
    (updRecords_reacts _ _ _ fun _ => ⟨rfl, rfl⟩)

theorem reactAtOnce_reacts (lvl src : Nat) (s : State) : Reacts s (reactAtOnce lvl src s) :=
  .of_grows (reactAtOnce_grows lvl src s) (by simp)

theorem takeIn_reacts (a : Report) (force : Bool) (s : State) : Reacts s (takeIn a force s) :=
  (enter_reacts a force s).trans (reactAtOnce_reacts ..)

theorem takeOver_reacts (lvl : Nat) (a : Report) (s : State) : Reacts s (takeOver lvl a s) := by
  unfold takeOver
  split
  · refine Reacts.trans ?_ (enter_reacts ..)
    exact (Reacts.of_grows (rankOne_grows a.code s) (by simp)).trans
      ((reactAtOnce_reacts ..).trans (reactAtOnce_reacts ..))
  · exact .of_grows ((ledgerPut_grows ..).trans (breach_grows ..)) (by simp)

theorem take_reacts (a : Report) (force : Bool) (s : State) : Reacts s (take a force s) := by
  unfold take
  split
  · exact .refl s
  · exact (unrecover_reacts a s).trans (.ite (takeIn_reacts ..) (takeOver_reacts ..))

/-- A change of one array that is one of its state. -/
theorem Reacts.of_state {s t : State} (n : Nat) (h : Fba → Fba) (hs : ∀ a, h a = { a with state := (h a).state })
    (hc : t.col = s.col) (ha : t.array = { s.array with fba := tmod {} s.array.fba n h }) : Reacts s t := by
  refine ⟨⟨id, fun _ => ⟨rfl, rfl⟩, by rw [hc, List.map_id]⟩, fun _ _ w => by unfold Waits at *; rwa [hc], by rw [ha],
    fun f => ?_⟩
  simp only [Machine.fba, ha, tget_tmod]
  split
  · next e => rw [e]; exact hs _
  · rfl

theorem abandonItem_reacts (n : Nat) (s : State) : Reacts s (abandonItem n s) := by
  unfold abandonItem
  dsimp only
  split
  · refine Reacts.trans ?_ (take_reacts ..)
    have back (u : State) (st : Nat) : Reacts u { u with array := { u.array with
        fba := tmod {} u.array.fba (n - 4) (fun a => if a.state = 2 then { a with state := st } else a) } } :=
      .of_state (n - 4) _ (fun a => by split <;> rfl) rfl rfl
    have due (u : State) : Reacts u (if n < 4 then coreDue n u else u) :=
      .ite (.of_parts (by simp) (by simp)) (.refl u)
    refine Reacts.trans ?_ (Reacts.trans (due _) (.of_parts rfl rfl))
    refine Reacts.trans (t := modItem n (fun i => { i with state := 1, result := 5, copy := [] }) s) ?_ ?_
    · exact .of_parts rfl rfl
    · exact .ite (back _ _) (.refl _)
  · exact .refl s

theorem abandonArrays_reacts (lvl src : Nat) (s : State) : Reacts s (abandonArrays lvl src s) :=
  Reacts.fold _ _ (fun a _ => .ite (abandonItem_reacts _ a) (.refl a)) s

theorem takeStop_reacts (a : Report) (s : State) : Reacts s (takeStop a s) :=
  (take_reacts ..).trans (abandonArrays_reacts ..)

theorem mend_reacts (pl : Place) (s : State) : Reacts s (mend pl s) :=
  .ite (.trans (.of_parts (by simp) (by simp)) (take_reacts ..)) (.refl s)

theorem unwindAll_reacts (i p : Nat) (l : List (Nat × Word)) (s : State) : Reacts s (unwindAll i p l s).1 := by
  induction l generalizing s with
  | nil => exact .refl s
  | cons e es ih =>
    unfold unwindAll
    split
    · exact .refl s
    · exact ((mend_reacts (.journal i es.length) s).trans (.of_parts (by simp) (by simp))).trans (ih _)

theorem unwind_reacts (i p : Nat) (s : State) : Reacts s (unwind i p s) := by
  have h := unwindAll_reacts i p (tcm s i).journal s
  unfold unwind
  generalize unwindAll i p (tcm s i).journal s = r at h ⊢
  have k : Reacts s (modTcm i (fun t => { t with journal := [] }) (clearUpsets (inJournal i) r.1)) :=
    h.trans (.of_parts (by simp) (by simp))
  exact .ite k (k.trans (takeStop_reacts ..))

theorem readSlot_reacts (p : Nat) (s : State) : Reacts s (readSlot p s) := by
  unfold readSlot
  dsimp only
  have mended := Reacts.fold (fun a c => mend (.slot p c) a) (upto 3) (fun a c => mend_reacts (.slot p c) a) s
  generalize (upto 3).foldl (fun a c => mend (.slot p c) a) s = u at mended ⊢
  exact (mended.trans (.fold _ _ (fun a _ => .ite (takeStop_reacts ..) (.refl a)) u)).trans (.of_parts rfl rfl)

theorem removeCore_reacts (k : Nat) (s : State) : Reacts s (removeCore k s) := .of_parts (by simp) (by simp)

theorem takeover_reacts (k j : Nat) (s : State) : Reacts s (takeover k j s) := by
  unfold takeover
  dsimp only
  have tests : Reacts s (if (core s j).role = .underTest then abandonItem 0x0B (abandonItem j s) else abandonItem 0x0B s) :=
    .ite ((abandonItem_reacts ..).trans (abandonItem_reacts ..)) (abandonItem_reacts ..)
  have slot (u : State) (i p : Nat) : Reacts u (readSlot p (unwind i p u)) :=
    (unwind_reacts ..).trans (readSlot_reacts ..)
  generalize (if (core s j).role = .underTest then abandonItem 0x0B (abandonItem j s) else abandonItem 0x0B s) = u
    at tests ⊢
  generalize (fun d : CoreSt => { d with
    role := .active, part := (core s k).part, set := (core s k).set, chime := (core s k).chime
    retried := (core s k).retried
    perf := eventAdd 0x0F 1 (idleTo (part u 0).startCycles (core s k).perf.cycles d.perf) }) = f
  have cores : Reacts u (modCore j f (removeCore k u)) := (removeCore_reacts k u).trans (.of_parts (by simp) (by simp))
  have moved := (tests.trans cores).trans (slot _ (core s k).set (core s k).part)
  generalize readSlot (core s k).part (unwind (core s k).set (core s k).part (modCore j f (removeCore k u))) = w
    at moved ⊢
  split
  · exact moved.trans (.of_parts (by simp) (by simp))
  · refine Reacts.trans ?_ (takeStop_reacts ..)
    exact moved.trans (.of_parts rfl rfl)

theorem removeNamed_reacts (src : Nat) (s : State) : Reacts s (removeNamed src s) := by
  unfold removeNamed
  split
  · exact .refl s
  split
  · split
    · exact takeover_reacts ..
    · exact removeCore_reacts ..
  split
  · exact (abandonItem_reacts ..).trans (removeCore_reacts ..)
  · exact .refl s

theorem giveWay_reacts (a : Report) (p : Pending) (s : State) : Reacts s (giveWay a p s) := by
  unfold giveWay
  split
  · refine Reacts.trans ?_ (abandonArrays_reacts ..)
    refine Reacts.trans ?_ (reactAtOnce_reacts ..)
    refine Reacts.trans ?_ (takeover_reacts ..)
    refine Reacts.trans ?_ (take_reacts ..)
    exact modPending_reacts _ _ s fun _ => ⟨rfl, rfl⟩
  · exact .refl s

/-- What a raised fault leaves. -/
theorem raise_reacts (a : Report) (s : State) : Reacts s (raise a s) := by
  unfold raise
  dsimp only
  split
  · exact .refl s
  split
  · split
    · exact giveWay_reacts ..
    · refine Reacts.trans ?_ (abandonArrays_reacts ..)
      refine Reacts.trans ?_ (removeNamed_reacts ..)
      exact (take_reacts ..).trans (modPending_reacts _ _ _ fun _ => ⟨rfl, rfl⟩)
  split
  · exact takeStop_reacts ..
  · exact take_reacts ..

theorem Reacts.island_eq {s t : State} (h : Reacts s t) (f : Nat) : Machine.island t f = Machine.island s f := by
  rw [Machine.island, Machine.island, h.island]

/-! ### A fault that was not in effect waits once it is raised -/

/-- No record is of this code and source, whether cleared or not. -/
def NoRecord (code src : Nat) (s : State) : Prop := ∀ r ∈ s.col.records, r.code = code → r.source ≠ src

theorem NoRecord.reacts {code src : Nat} {s t : State} (h : NoRecord code src s) (k : Reacts s t) : NoRecord code src t := by
  obtain ⟨g, hg, e⟩ := k.recs
  intro r m
  rw [e] at m
  obtain ⟨x, mx, rfl⟩ := List.mem_map.1 m
  rw [(hg x).1, (hg x).2]
  exact h x mx

/-- A report without a record of its code and source, entered, waits. -/
theorem enter_waits (a : Report) (force : Bool) (s : State) (h : NoRecord a.code a.source s) :
    Waits a.code a.source (enter a force s) := by
  rcases (faultActive_iff ..).1 (enter_inEffect a force s) with ⟨r, m, -, hc, hs⟩ | w
  · exact absurd hs (h.reacts (enter_reacts a force s) r m hc)
  · exact w

theorem take_waits (a : Report) (force : Bool) (s : State) (hst : s.ctl.st ≠ .reset ∧ s.ctl.st ≠ .fuseSense)
    (hr : room s = true) (h : NoRecord a.code a.source s) : Waits a.code a.source (take a force s) := by
  unfold take
  rw [if_neg (fun c => c.elim hst.1 hst.2)]
  dsimp only
  rw [if_pos (unrecover_room a s hr)]
  exact (reactAtOnce_reacts ..).waits _ _ (enter_waits a force _ (h.reacts (unrecover_reacts a s)))

/-- A fault that finds room and no record of its own waits once it is raised. -/
theorem raise_waits (a : Report) (s : State) (hst : s.ctl.st ≠ .reset ∧ s.ctl.st ≠ .fuseSense)
    (hr : room s = true) (h : NoRecord a.code a.source s) : Waits a.code a.source (raise a s) := by
  rcases (faultActive_iff ..).1 (raise_inEffect a s hst hr) with ⟨r, m, -, hc, hs⟩ | w
  · exact absurd hs (h.reacts (raise_reacts a s) r m hc)
  · exact w

/-- A waiting report is in effect at the level of its code, or at L4. -/
theorem actives_of_waits {code src : Nat} {s : State} (h : Waits code src s) :
    ∃ a ∈ actives s, a.code = code ∧ a.source = src ∧ (a.level = 4 ∨ a.level = codeLevel code src) := by
  obtain ⟨p, m, hs, hc, hx⟩ := h
  refine ⟨⟨p.rep.code, p.rep.source, p.rep.second, p.level, p.present⟩, ?_, hc, hx, ?_⟩
  · exact List.mem_append_right _ (List.mem_map.2 ⟨p, List.mem_filter.2 ⟨m, by simp [hs]⟩, rfl⟩)
  · simp only [Pending.level]
    split
    · exact .inl rfl
    · exact .inr (by rw [Report.lvl, hc, hx])
/-! ### What a fault in effect holds off (R46, R228) -/

theorem fromStartup_st {s : State} (h : fromStartup s = true) : s.ctl.st ≠ .reset ∧ s.ctl.st ≠ .fuseSense := by
  unfold fromStartup at h
  split at h <;> simp_all

theorem roomy.room {s : State} (h : roomy s) : room s = true := by
  unfold roomy at h
  simp only [Machine.room, decide_eq_true_eq]
  omega

theorem room_congr {s t : State} (h : t.col = s.col) : room t = room s := by
  unfold room unclearedCount unclearedRecs
  rw [h]

theorem Unreported.noRecord {code src : Nat} {s : State} (h : Unreported code src s) : NoRecord code src s := h.2

theorem faultActive_of_condPresent {s : State} {code src : Nat} (h : condPresent s code src = true) :
    faultActive s code src = true := by
  simp only [condPresent, faultActive, List.any_eq_true, Bool.and_eq_true] at h ⊢
  exact h.imp fun _ ⟨m, e, _⟩ => ⟨m, e⟩

theorem Unreported.not_condPresent {code src : Nat} {s : State} (h : Unreported code src s) :
    condPresent s code src = false := by
  obtain ⟨h, -⟩ := h
  rw [Bool.eq_false_iff] at h ⊢
  exact fun c => h (faultActive_of_condPresent c)

/-- A waiting fault holds an element off that its own level makes it hold: L4 holds every element. -/
theorem forcedOff_of_waits {code src el : Nat} {s : State} (h : Waits code src s)
    (k : ∀ a : Act, a.code = code → a.source = src → a.level = codeLevel code src → actForces s a el = true) :
    forcedOff s el = true := by
  obtain ⟨a, m, hc, hs, hl⟩ := actives_of_waits h
  simp only [forcedOff, Bool.or_eq_true, List.any_eq_true]
  refine .inr ⟨a, m, ?_⟩
  rcases hl with h4 | hl
  · simp [actForces, h4]
  · exact k a hc hs hl

theorem not_driven_of_forcedOff {s : State} {el : Nat} (h : forcedOff s el = true) :
    driveA s el = false ∧ driveB s el = false := by
  simp [driveA, driveB, heldA, heldB, heldOff, h]

theorem populated_lt {s : State} {f : Nat} (h : populated s f = true) : f < 7 := by
  simp only [populated, Bool.and_eq_true, decide_eq_true_eq] at h
  exact h.1

theorem populated_eq {s t : State} (h : t.fuses = s.fuses) (f : Nat) : populated t f = populated s f := by
  simp only [populated, popMask, h]

/-- An L3 fault of an F die holds every element of its site off. -/
theorem actForces_dieSrc {s : State} {f el : Nat} {a : Act} (hp : populated s f = true) (hs : a.source = dieSrc f)
    (hl : a.level = 3) (he : siteOf el = f) : actForces s a el = true := by
  have lt := populated_lt hp
  have low : a.source < 0x0700 := by rw [hs, dieSrc, elemAt]; omega
  have site : siteOf a.source = f := by rw [hs, siteOf, dieSrc, elemAt]; omega
  simp [actForces, hl, l3Sites, siteScope, low, site, hp, he]

/-- A lane fault of an element holds its whole set off (R26). -/
theorem actForces_setMember {s : State} {code el m : Nat} {a : Act} (h : a.code = code) (hs : a.source = el)
    (hl : a.level = 2) (hc : code ≠ 0x0308 ∧ code ≠ 0x0304 ∧ code ≠ 0x0305)
    (hk : isOutput el = true ∨ isReturn el = true ∨ isBrake el = true) (hm : m ∈ setMembers (confOf s) el) :
    actForces s a m = true := by
  have scope : m ∈ elemScope (confOf s) el := by
    unfold elemScope
    dsimp only
    split
    · exact hm
    · exact List.mem_append_left _ hm
  have kind : (isOutput el || isReturn el || isBrake el) = true := by simpa [or_assoc] using hk
  subst h hs
  simp [actForces, hl, hc, kind, scope]

theorem Completes.mono {c : Instr} {s : State} {P Q : State → Prop} (h : Completes c s P) (k : ∀ t, P t → Q t) :
    Completes c s Q :=
  h.imp fun t ⟨run, p⟩ => ⟨run, k t p⟩

/-! ### The escapement, the locked memories and the lanes (O24) -/

theorem reactAtOnce_tcms (lvl src : Nat) (s : State) : (reactAtOnce lvl src s).proc.tcms = s.proc.tcms := by
  unfold reactAtOnce
  dsimp only
  (repeat' split) <;> rfl

/-- A report that is taken changes no memory: at most it halts the cores. -/
theorem take_tcms (a : Report) (force : Bool) (s : State) : (take a force s).proc.tcms = s.proc.tcms := by
  unfold take takeIn takeOver
  dsimp only
  split
  · rfl
  split
  · simp [reactAtOnce_tcms]
  split <;> split <;> simp [reactAtOnce_tcms]

/-- A missed or late response opens every switch of its die (R35, R36). -/
theorem faultOnce_opens_die {f : Nat} {s : State} (hst : s.ctl.st ≠ .reset ∧ s.ctl.st ≠ .fuseSense)
    (hp : populated s f = true) (hr : room s = true) (h : NoRecord 0x0507 (dieSrc f) s) (el : Nat)
    (he : siteOf el = f) :
    driveA (faultOnce 0x0507 (dieSrc f) s) el = false ∧ driveB (faultOnce 0x0507 (dieSrc f) s) el = false := by
  have w : Waits 0x0507 (dieSrc f) (faultOnce 0x0507 (dieSrc f) s) := raise_waits _ s hst hr h
  have pop : populated (faultOnce 0x0507 (dieSrc f) s) f = true := (populated_eq (s := s) (by simp) f).trans hp
  exact not_driven_of_forcedOff (forcedOff_of_waits w fun a _ hs hl => actForces_dieSrc pop hs hl he)

/-- A fault of the escapement raised on a state with the collector of `s` is in effect. -/
theorem faultOnce_inEffect {code src : Nat} {s u : State} (hst : fromStartup s = true) (hc : u.ctl = s.ctl)
    (hcol : u.col = s.col) (hr : room s = true) : InEffect code src (faultOnce code src u) := by
  refine raise_inEffect _ u ?_ ?_
  · rw [hc]; exact fromStartup_st hst
  · exact (room_congr hcol).trans hr

end Sys2Proof.Machine

end

section
/-! PROOFS. The escapement, the locked memories and the lanes; connections inside the package. -/

namespace Sys2Proof.Machine

set_option Elab.async false

theorem fEscapementResponse_right {s : State} {f v dt : Nat} (hp : populated s f = true) (lo : 900 ≤ dt)
    (hi : dt ≤ 1100) (hv : v = fExpected s f) : Completes (.fEscapementResponse f v dt) s (fun t =>
      OnlyWrites [.array, .draws] s t ∧ (∃ n, (fba t f).challenge = lfsrRun n (fba s f).challenge)
      ∧ (fba t f).independent = 0 ∧ ∀ g, g ≠ f → fba t g = fba s g) := by
  refine ⟨_, rfl, ?_⟩
  rw [if_neg (by simp [hp]), if_pos ⟨lo, hi, hv⟩]
  refine ⟨by simp [onlyWrites_iff, draw], ⟨_, by rw [fba_modFba_self]; rfl⟩, by simp, fun g hg => ?_⟩
  exact fba_modFba_other f g _ _ hg

theorem fEscapementResponse_wrong {s : State} {f v dt : Nat} (hst : fromStartup s = true) (hp : populated s f = true)
    (bad : dt < 900 ∨ 1100 < dt ∨ v ≠ fExpected s f) : Completes (.fEscapementResponse f v dt) s (fun t =>
      OnlyWrites raiseParts s t ∧ (fba t f).challenge = (fba s f).challenge ∧ (room s = true → InEffect 0x0507 (dieSrc f) t)
      ∧ (room s = true → Unreported 0x0507 (dieSrc f) s →
        ∀ el, siteOf el = f → driveA t el = false ∧ driveB t el = false)) := by
  refine ⟨_, rfl, ?_⟩
  rw [if_neg (by simp [hp]), if_neg (by omega)]
  generalize hu : modFba f (fun a => { a with windows := 0, independent := 0 }) s = u
  have col : u.col = s.col := by subst hu; rfl
  have ctl : u.ctl = s.ctl := by subst hu; rfl
  have fuses : u.fuses = s.fuses := by subst hu; rfl
  have kept : (fba u f).challenge = (fba s f).challenge := by subst hu; simp
  refine ⟨by subst hu; simp [onlyWrites_iff], ?_, faultOnce_inEffect hst ctl col, fun hr h => ?_⟩
  · rw [faultOnce, (raise_reacts _ u).fba f]
    exact kept
  · refine faultOnce_opens_die (by rw [ctl]; exact fromStartup_st hst) ((populated_eq fuses f).trans hp)
      ((room_congr col).trans hr) ?_
    intro r m
    rw [col] at m
    exact h.noRecord r m

theorem fEscapementMissed_opens {s : State} {f : Nat} (hst : fromStartup s = true) (hp : populated s f = true) :
    Completes (.fEscapementMissed f) s (fun t => OnlyWrites raiseParts s t ∧ (room s = true → InEffect 0x0507 (dieSrc f) t)
      ∧ (room s = true → Unreported 0x0507 (dieSrc f) s →
        ∀ el, siteOf el = f → driveA t el = false ∧ driveB t el = false)) := by
  refine ⟨_, rfl, ?_⟩
  rw [if_pos hp]
  exact ⟨by simp [onlyWrites_iff], faultOnce_inEffect hst rfl rfl, fun hr h =>
    faultOnce_opens_die (fromStartup_st hst) hp hr h.noRecord⟩

theorem lockedMemoryWrite_refused {s : State} {i j : Nat} (hst : fromStartup s = true) (hl : s.ctl.locked = true) :
    Completes (.lockedMemoryWrite i j) s (fun t =>
      OnlyWrites raiseParts s t ∧ t.proc.tcms = s.proc.tcms ∧ (room s = true → InEffect 0x0F10 0x0778 t)) := by
  refine ⟨_, rfl, ?_⟩
  rw [if_pos hl]
  refine ⟨by simp [onlyWrites_iff], ?_, raise_inEffect _ s (fromStartup_st hst)⟩
  unfold raise
  rw [if_neg (not_or.2 (fromStartup_st hst))]
  exact take_tcms ..

/-- A fault that is raised unless its condition is present already is in effect in either case, and one that was not
reported yet waits: what it holds then holds. -/
theorem fault_unless_present {code src : Nat} {s : State} (P : State → Prop)
    (hst : s.ctl.st ≠ .reset ∧ s.ctl.st ≠ .fuseSense) (holds : Waits code src (fault code src s) → P (fault code src s)) :
    OnlyWrites raiseParts s (if condPresent s code src = false then fault code src s else s)
    ∧ (room s = true → InEffect code src (if condPresent s code src = false then fault code src s else s))
    ∧ (room s = true → Unreported code src s → P (if condPresent s code src = false then fault code src s else s)) := by
  split
  · exact ⟨by simp [onlyWrites_iff], raise_inEffect _ s hst,
      fun hr h => holds (raise_waits _ s hst hr h.noRecord)⟩
  · next p =>
    exact ⟨by simp [onlyWrites_iff], fun _ => faultActive_of_condPresent (by simpa using p),
      fun _ h => absurd h.not_condPresent p⟩

theorem laneCode_level (el : Nat) : codeLevel (laneCode el) el = 2
    ∧ laneCode el ≠ 0x0308 ∧ laneCode el ≠ 0x0304 ∧ laneCode el ≠ 0x0305 := by
  unfold laneCode
  split
  · exact ⟨rfl, by decide⟩
  split <;> exact ⟨rfl, by decide⟩

theorem laneAgreementTimeout_holds {s : State} {el : Nat} (hst : s.ctl.st = .run)
    (hp : populated s (siteOf el) = true) (hk : isOutput el = true ∨ isReturn el = true ∨ isBrake el = true)
    (apart : demandsApart s el = true) (untested : (fba s (siteOf el)).state ≠ 2)
    (long : elAgree (confOf s) el < 10 * tget 0 (island s (siteOf el)).differC el) :
    Completes (.laneAgreementTimeout el) s (fun t => OnlyWrites raiseParts s t ∧ (room s = true → InEffect (laneCode el) el t)
      ∧ (room s = true → Unreported (laneCode el) el s → ∀ m ∈ setMembers (confOf s) el, heldOff t m = true)) := by
  obtain ⟨level, code⟩ := laneCode_level el
  have st : s.ctl.st ≠ .reset ∧ s.ctl.st ≠ .fuseSense := by simp [hst]
  have guard : inRun s = true := by simp [inRun, hst]
  refine ⟨_, rfl, ?_⟩
  simp only [guard, hp, hk, apart, untested, long, ne_eq, not_false_eq_true, true_and, Bool.not_eq_true']
  refine fault_unless_present (fun t => ∀ m ∈ setMembers (confOf s) el, heldOff t m = true) st fun w m hm => ?_
  have conf : confOf (fault (laneCode el) el s) = confOf s := by simp [confOf]
  rw [heldOff, forcedOff_of_waits w, Bool.true_or]
  exact fun a hc hs hl => actForces_setMember hc hs (hl.trans level) code hk (conf ▸ hm)

theorem pairLaneDisagreement_holds {s : State} {e : Nat} (hst : fromStartup s = true) (run : evaluating s = true)
    (kind : pairKind (confOf s) e ≠ 0) (long : 10 < (tget {} s.pairs e).apart) :
    Completes (.pairLaneDisagreement e) s (fun t => OnlyWrites raiseParts s t ∧ (room s = true → InEffect 0x1004 (0x0800 + e) t)
      ∧ (room s = true → Unreported 0x1004 (0x0800 + e) s → entryHeldByFault t e = true)) := by
  refine ⟨_, rfl, ?_⟩
  simp only [run, kind, long, ne_eq, not_false_eq_true, true_and, Bool.not_eq_true']
  refine fault_unless_present (fun t => entryHeldByFault t e = true) (fromStartup_st hst) fun w => ?_
  obtain ⟨a, m, -, source, level⟩ := actives_of_waits w
  have two : codeLevel 0x1004 (0x0800 + e) = 2 := rfl
  exact List.any_eq_true.2 ⟨a, m, by simp only [Bool.and_eq_true, decide_eq_true_eq]; omega⟩

/-- Settles O24: a fault that waits is in effect at its level, and that level holds the die, the set or the entry. -/
theorem escapementAndLanes : Obligations.EscapementAndLanes := by
  unfold Obligations.EscapementAndLanes
  intro s hst
  refine ⟨fun f hp => ⟨rfl, fun v dt lo hi hv => fEscapementResponse_right hp lo hi hv, fun v dt bad => ?_, ?_⟩,
    fun i j hl => ?_, fun el run hp hk apart untested long => ?_, fun e run kind long => ?_⟩
  · exact (fEscapementResponse_wrong hst hp bad).mono fun t ⟨parts, kept, act, off⟩ => ⟨parts, kept, fun r => act r.room, off⟩
  · exact (fEscapementMissed_opens hst hp).mono fun t ⟨parts, act, off⟩ => ⟨parts, fun r => act r.room, off⟩
  · exact (lockedMemoryWrite_refused hst hl).mono fun t ⟨parts, mem, act⟩ => ⟨parts, mem, fun r => act r.room⟩
  · exact (laneAgreementTimeout_holds run hp hk apart untested long).mono fun t ⟨parts, act, off⟩ =>
      ⟨parts, fun r => act r.room, off⟩
  · exact (pairLaneDisagreement_holds hst run kind long).mono fun t ⟨parts, act, held⟩ =>
      ⟨parts, fun r => act r.room, held⟩
/-! ### Enable frames, Curfew monitors and the status link (R16, R23, R33, R34) -/

theorem enableFrame_valid {s : State} {f w : Nat} {pol st : Bool} {ann : List (Nat × Nat)}
    (hp : populated s f = true) (valid : (island s f).timedOut = true ∨ (island s f).polarity ≠ pol) :
    Completes (.enableFrame f w pol true st ann) s (fun t => OnlyWrites [.array] s t ∧ t.array.fba = s.array.fba
      ∧ (island t f).word = w % 2 ^ 26 ∧ (island t f).polarity = pol ∧ (island t f).timedOut = false
      ∧ (island t f).statusOk = st ∧ (island t f).announced = announceNext s f ann (island s f).announced
      ∧ ∀ g, g ≠ f → island t g = island s g) := by
  refine ⟨_, rfl, ?_⟩
  rw [if_pos ⟨hp, rfl, valid⟩]
  refine ⟨by simp [onlyWrites_iff], rfl, ?_⟩
  simp +contextual [island_modIsland]

theorem enableFrame_invalid {s : State} {f w : Nat} {pol crc st : Bool} {ann : List (Nat × Nat)}
    (bad : crc = false ∨ ((island s f).timedOut = false ∧ (island s f).polarity = pol)) :
    Completes (.enableFrame f w pol crc st ann) s (fun t => t = s) := by
  refine ⟨_, rfl, if_neg ?_⟩
  rintro ⟨-, ok, valid⟩
  rcases bad with bad | ⟨timed, same⟩
  · simp [bad] at ok
  · simp [timed, same] at valid

theorem enableFrameTimeout_drops {s : State} {f : Nat} (hp : populated s f = true) :
    Completes (.enableFrameTimeout f) s (fun t => OnlyWrites [.array] s t ∧ t.array.fba = s.array.fba
      ∧ (island t f).word = 0 ∧ (island t f).timedOut = true ∧ ∀ g, g ≠ f → island t g = island s g) := by
  refine ⟨_, rfl, ?_⟩
  rw [if_pos hp]
  refine ⟨by simp [onlyWrites_iff], rfl, ?_⟩
  simp +contextual [island_modIsland]

theorem not_driveA_of_islandStopped {s : State} {el : Nat} (h : (island s (siteOf el)).islandStopped = true) :
    driveA s el = false := by
  simp [driveA, heldA, h]

theorem not_driveB_of_dieStopped {s : State} {el : Nat} (h : (island s (siteOf el)).dieStopped = true) :
    driveB s el = false := by
  simp [driveB, heldB, h]

theorem curfewStopDetected_opens {s : State} {f : Nat} {isl : Bool} (hp : populated s f = true) :
    Completes (.curfewStopDetected f isl) s (fun t => OnlyWrites (writes (.curfewStopDetected f isl)) s t
      ∧ (if isl then (island t f).islandStopped = true ∧ ∀ el, siteOf el = f → driveA t el = false
        else (island t f).dieStopped = true ∧ ∀ el, siteOf el = f → driveB t el = false)) := by
  obtain ⟨t, run, parts⟩ := curfewStopDetected_framed f isl s
  refine ⟨t, run, parts, ?_⟩
  cases run
  rw [if_pos hp]
  have kept := (abandonItem_reacts (4 + f) (modIsland f (fun i =>
      if isl then { i with islandStopped := true } else { i with dieStopped := true }) s)).island_eq f
  rw [island_modIsland_self] at kept
  cases isl with
  | true =>
    have stopped := congrArg Island.islandStopped kept
    exact ⟨stopped, fun el e => not_driveA_of_islandStopped (by rw [e]; exact stopped)⟩
  | false =>
    have stopped := congrArg Island.dieStopped kept
    exact ⟨stopped, fun el e => not_driveB_of_dieStopped (by rw [e]; exact stopped)⟩

theorem condGone_of_not_active {code src : Nat} {s : State} (h : faultActive s code src = false) :
    CondGone code src s := by
  intro r m u c e
  rw [(faultActive_iff s code src).2 (.inl ⟨r, m, u, c, e⟩)] at h
  cases h

theorem statusLinkFrame_passes {s : State} {f n d : Nat} {down : Bool} {ann : List (Nat × Nat)}
    (hp : populated s f = true) (next : n = (if down then (island s f).seqDown else (island s f).seqUp) + 1) :
    Completes (.statusLinkFrame f n true down ⟨d, ann⟩) s (fun t => OnlyWrites raiseParts s t
      ∧ (island t f).linkOk = true
      ∧ (if down then (island t f).seqDown = n ∧ (island t f).seqUp = (island s f).seqUp
          ∧ (island t f).announcedB = announceNext s f ann (island s f).announcedB
        else (island t f).seqUp = n ∧ (island t f).reported = d % 2 ^ 26)
      ∧ CondGone Config.statusLinkCode (dieSrc f) t) := by
  refine ⟨_, rfl, ?_⟩
  rw [if_neg (by simp [hp]), if_pos ⟨rfl, next⟩]
  generalize hu : modIsland f _ s = u
  dsimp only
  have isl := congrArg (island · f) hu
  simp only [island_modIsland_self] at isl
  have parts : OnlyWrites raiseParts s u := by subst hu; simp [onlyWrites_iff]
  have array (t : State) (e : t.array = u.array) : island t f = island u f := by rw [island, island, e]
  have link (t : State) (e : t.array = u.array) : (island t f).linkOk = true
      ∧ (if down then (island t f).seqDown = n ∧ (island t f).seqUp = (island s f).seqUp
          ∧ (island t f).announcedB = announceNext s f ann (island s f).announcedB
        else (island t f).seqUp = n ∧ (island t f).reported = d % 2 ^ 26) := by
    rw [array t e, ← isl]
    cases down <;> simp
  split
  · refine ⟨?_, and_assoc.1 ⟨link _ (by simp), gone_condGone _ _ _⟩⟩
    rw [onlyWrites_iff] at parts ⊢
    simpa using parts
  · next h => exact ⟨parts, and_assoc.1 ⟨link _ rfl, condGone_of_not_active (by simpa using h)⟩⟩

/-- A fault raised on a state with the control and the collector of `s` is in effect where `s` has room. -/
theorem raise_inEffect_of_same {a : Report} {s u : State} (hst : s.ctl.st ≠ .reset ∧ s.ctl.st ≠ .fuseSense)
    (hc : u.ctl = s.ctl) (hcol : u.col = s.col) (hr : room s = true) : InEffect a.code a.source (raise a u) :=
  raise_inEffect a u (by rw [hc]; exact hst) ((room_congr hcol).trans hr)

theorem statusLinkFrame_fails {s : State} {f n : Nat} {crc down : Bool} {w : StatusWord}
    (hst : fromStartup s = true) (hp : populated s f = true)
    (bad : crc = false ∨ n ≠ (if down then (island s f).seqDown else (island s f).seqUp) + 1) :
    Completes (.statusLinkFrame f n crc down w) s (fun t => OnlyWrites raiseParts s t
      ∧ (island t f).linkOk = false ∧ Raised Config.statusLinkCode (dieSrc f) s t
      ∧ (crc = true → (if down then (island t f).seqDown else (island t f).seqUp) = n)) := by
  refine ⟨_, rfl, ?_⟩
  rw [if_neg (by simp [hp]), if_neg (by rcases bad with h | h <;> simp [h])]
  generalize hu : modIsland f _ s = u
  have isl := congrArg (island · f) hu
  simp only [island_modIsland_self] at isl
  rw [← (raise_reacts (linkReport u f) u).island_eq] at isl
  dsimp only
  refine ⟨by subst hu; simp [onlyWrites_iff], ?_,
    fun r => raise_inEffect_of_same (a := linkReport u f) (fromStartup_st hst) (by subst hu; rfl) (by subst hu; rfl) r.room,
    ?_⟩
  · rw [← isl]
    cases crc <;> cases down <;> rfl
  · rintro rfl
    rw [← isl]
    cases down <;> rfl

/-! ### The ring (R30, R31, R232) -/

theorem evaluating_st {s : State} (h : evaluating s = true) : s.ctl.st ≠ .reset ∧ s.ctl.st ≠ .fuseSense := by
  unfold evaluating at h
  split at h <;> simp_all

theorem sharedSignalSegment_passes {s : State} {d m tick bits : Nat} (hd : populated s d = true)
    (hm : populated s m = true) (ne : d ≠ m) (run : evaluating s = true) :
    Completes (.sharedSignalSegment d m tick bits true) s (fun t => OnlyWrites raiseParts s t
      ∧ tget {} (fba t d).segments (m * 2 + tick % 2) = ⟨segmentWord s m tick bits, tick % 256, true⟩
      ∧ tget 0 (fba t d).good m = segmentWord s m tick bits
      ∧ (tickNear (fba s d).lastTick tick = true → tget 0 (fba t d).fails m = 0) ∧ ∀ g, g ≠ d → fba t g = fba s g) := by
  refine ⟨_, rfl, ?_⟩
  rw [if_pos ⟨hd, hm, ne, run⟩, if_pos rfl]
  dsimp only
  generalize hu : modFba d _ s = u
  have own := congrArg (fba · d) hu
  have other (g : Nat) (h : g ≠ d) : fba u g = fba s g := by subst hu; exact fba_modFba_other d g _ s h
  simp only [fba_modFba_self] at own
  have parts : OnlyWrites raiseParts s u := by subst hu; simp [onlyWrites_iff]
  have segment (t : State) (e : t.array = u.array) :
      tget {} (fba t d).segments (m * 2 + tick % 2) = ⟨segmentWord s m tick bits, tick % 256, true⟩
      ∧ tget 0 (fba t d).good m = segmentWord s m tick bits
      ∧ (tickNear (fba s d).lastTick tick = true → tget 0 (fba t d).fails m = 0) ∧ ∀ g, g ≠ d → fba t g = fba s g := by
    have same (g : Nat) : fba t g = fba u g := by rw [fba, fba, e]
    rw [same d, ← own]
    refine ⟨by simp, by simp, fun near => by simp [near], fun g h => (same g).trans (other g h)⟩
  split
  · refine ⟨?_, segment _ (by simp)⟩
    rw [onlyWrites_iff] at parts ⊢
    simpa using parts
  · exact ⟨parts, segment u rfl⟩

theorem sharedSignalSegment_fails {s : State} {d m tick bits : Nat} (hd : populated s d = true)
    (hm : populated s m = true) (ne : d ≠ m) (run : evaluating s = true) :
    Completes (.sharedSignalSegment d m tick bits false) s (fun t => OnlyWrites raiseParts s t
      ∧ tget {} (fba t d).segments (m * 2 + tick % 2) = ⟨0, tick % 256, false⟩
      ∧ tget 0 (fba t d).good m = tget 0 (fba s d).good m
      ∧ tget 0 (fba t d).fails m = tget 0 (fba s d).fails m + 1 ∧ Raised 0x0504 (dieSrc d) s t) := by
  refine ⟨_, rfl, ?_⟩
  rw [if_pos ⟨hd, hm, ne, run⟩, if_neg (by simp)]
  generalize hu : modFba d _ s = u
  dsimp only
  have own := congrArg (fba · d) hu
  simp only [fba_modFba_self] at own
  rw [(raise_reacts _ u).fba d, ← own]
  refine ⟨by subst hu; simp [onlyWrites_iff], by simp, rfl, by simp, fun r => ?_⟩
  exact raise_inEffect_of_same (evaluating_st run) (by subst hu; rfl) (by subst hu; rfl) r.room

theorem segmentThirdFailure_counts {s : State} {d m : Nat} (hd : populated s d = true)
    (hm : populated s m = true) (ne : d ≠ m) (run : evaluating s = true) (two : 2 ≤ tget 0 (fba s d).fails m) :
    Completes (.segmentThirdFailure d m) s (fun t => OnlyWrites raiseParts s t
      ∧ 3 ≤ tget 0 (fba t d).fails m ∧ Raised 0x0505 (dieSrc d) s t) := by
  refine ⟨_, rfl, ?_⟩
  rw [if_pos ⟨hd, hm, ne, run, two⟩]
  generalize hu : modFba d _ s = u
  dsimp only
  have own := congrArg (fba · d) hu
  simp only [fba_modFba_self] at own
  rw [(raise_reacts _ u).fba d, ← own]
  refine ⟨by subst hu; simp [onlyWrites_iff], ?_, fun r => ?_⟩
  · rw [tget_tmod_self]
    exact Nat.le_max_left ..
  exact raise_inEffect_of_same (evaluating_st run) (by subst hu; rfl) (by subst hu; rfl) r.room

theorem tget_filter {α : Type} (d : α) (t : Table α) (p : Nat → Bool) (i : Nat) :
    tget d (t.filter (fun e => p e.1)) i = if p i then tget d t i else d := by
  induction t with
  | nil => simp
  | cons e t ih =>
    obtain ⟨k, v⟩ := e
    by_cases hk : k = i
    · subst hk
      cases hp : p k <;> simp [hp, tget, ih]
    · cases hp : p k <;> simp [hp, tget, ih, hk]

/-- Failure counts set to 3 at the sources of a list are 3 at least there, and no count falls. -/
theorem tget_foldl_max (l : List Nat) (t : Table Nat) (q : Nat) :
    tget 0 t q ≤ tget 0 (l.foldl (fun t m => tmod 0 t m (max 3)) t) q
    ∧ (q ∈ l → 3 ≤ tget 0 (l.foldl (fun t m => tmod 0 t m (max 3)) t) q) := by
  induction l generalizing t with
  | nil => simp
  | cons m l ih =>
    obtain ⟨grow, three⟩ := ih (tmod 0 t m (max 3))
    rw [tget_tmod] at grow
    rw [List.foldl_cons, List.mem_cons]
    refine ⟨Nat.le_trans ?_ grow, ?_⟩
    · split
      · next e => rw [e]; exact Nat.le_max_right ..
      · exact Nat.le_refl _
    · rintro (rfl | mem)
      · rw [if_pos rfl] at grow
        exact Nat.le_trans (Nat.le_max_left ..) grow
      · exact three mem

/-- A change of each array of a list of sites, of its own site alone. -/
theorem fba_foldl_modFba (h : Nat → Fba → Fba) (l : List Nat) (nodup : l.Nodup) (s : State) (g : Nat) :
    fba (l.foldl (fun x d => modFba d (h d) x) s) g = if g ∈ l then h g (fba s g) else fba s g := by
  induction l generalizing s with
  | nil => simp
  | cons d l ih =>
    obtain ⟨notin, nodup⟩ := List.nodup_cons.1 nodup
    rw [List.foldl_cons, ih nodup, fba_modFba]
    by_cases e : g = d
    · subst e
      simp [notin]
    · simp [e]

theorem popSites_nodup (s : State) : (popSites s).Nodup := List.nodup_range.filter _

theorem mem_popSites {s : State} {f : Nat} : f ∈ popSites s ↔ populated s f = true := by
  simp only [popSites, upto, List.mem_filter, List.mem_range]
  exact ⟨fun h => h.2, fun h => ⟨populated_lt h, h⟩⟩

/-- What a break after site `a` leaves of the array of site `d`. -/
def ringCut (l : List Nat) (a d : Nat) (q : Fba) : Fba :=
  { q with
    segments := q.segments.filter (fun e => !decide (ringDist l (e.1 / 2) a < ringDist l (e.1 / 2) d))
    good := q.good.filter (fun e => !decide (ringDist l e.1 a < ringDist l e.1 d))
    fails := (l.filter (fun m => decide (ringDist l m a < ringDist l m d) && decide (m ≠ d))).foldl
      (fun t m => tmod 0 t m (max 3)) q.fails }

theorem ringCut_segments {l : List Nat} {a d q r : Nat} (hr : r < 2) (cut : ringDist l q a < ringDist l q d) (x : Fba) :
    tget {} (ringCut l a d x).segments (q * 2 + r) = {} := by
  have half : (q * 2 + r) / 2 = q := by omega
  refine (tget_filter {} x.segments (fun k => !decide (ringDist l (k / 2) a < ringDist l (k / 2) d)) _).trans ?_
  simp [half, cut]

theorem ringCut_fails {l : List Nat} {a d q : Nat} (hq : q ∈ l) (ne : q ≠ d) (cut : ringDist l q a < ringDist l q d)
    (x : Fba) : 3 ≤ tget 0 (ringCut l a d x).fails q :=
  (tget_foldl_max _ _ q).2 (List.mem_filter.2 ⟨hq, by simp [cut, ne]⟩)

/-- The arrays after a break from site `a`. -/
def ringCutAll (a : Nat) (s : State) : State :=
  (popSites s).foldl (fun x d => modFba d (ringCut (popSites s) a d) x) s

theorem fba_ringCutAll {a g : Nat} {s : State} (hg : g ∈ popSites s) :
    fba (ringCutAll a s) g = ringCut (popSites s) a g (fba s g) := by
  rw [ringCutAll, fba_foldl_modFba _ _ (popSites_nodup s), if_pos hg]

theorem exec_ringBroken {s : State} {d m : Nat} (hd : populated s d = true) (hm : populated s m = true) (ne : d ≠ m) :
    exec (.ringBroken d m) s =
      .next (raise (report (ringCutAll d s) 0x0506 (dieSrc d) (dieSrc m)) (ringCutAll d s)) :=
  congrArg Host.Outcome.next
    (if_pos ⟨by simpa using mem_popSites.2 hd, by simpa using mem_popSites.2 hm, ne⟩)

theorem ringBroken_cuts {s : State} {d m : Nat} (hd : populated s d = true) (hm : populated s m = true) (ne : d ≠ m)
    (run : evaluating s = true) : Completes (.ringBroken d m) s (fun t => OnlyWrites raiseParts s t
      ∧ Raised 0x0506 (dieSrc d) s t
      ∧ ∀ g ∈ popSites s, ∀ q r, r < 2 → ringDist (popSites s) q d < ringDist (popSites s) q g →
        tget {} (fba t g).segments (q * 2 + r) = {}
        ∧ (q ∈ popSites s → q ≠ g → 3 ≤ tget 0 (fba t g).fails q)) := by
  obtain ⟨t, run', parts⟩ := ringBroken_framed d m s
  rw [exec_ringBroken hd hm ne] at run'
  refine ⟨t, exec_ringBroken hd hm ne ▸ run', parts, ?_⟩
  cases run'
  have ctl : (ringCutAll d s).ctl = s.ctl := by simp [ringCutAll]
  have col : (ringCutAll d s).col = s.col := by simp [ringCutAll]
  refine ⟨fun r => raise_inEffect_of_same (evaluating_st run) ctl col r.room, fun g hg q r hr far => ?_⟩
  rw [(raise_reacts _ (ringCutAll d s)).fba g, fba_ringCutAll hg]
  exact ⟨ringCut_segments hr far _, fun hq hne => ringCut_fails hq hne far _⟩

/-- Settles O23: each kind of frame, check and response has its lemma, with what a fault raised leaves of the arrays and
islands. -/
theorem packageLinks : Obligations.PackageLinks := by
  unfold Obligations.PackageLinks
  intro s
  refine ⟨fun f hp => ⟨fun w pol st ann valid => enableFrame_valid hp valid,
      fun w pol crc st ann bad => enableFrame_invalid bad, enableFrameTimeout_drops hp,
      fun isl => curfewStopDetected_opens hp, fun n down d ann next => statusLinkFrame_passes hp next,
      fun n crc down d ann hst bad => statusLinkFrame_fails hst hp bad⟩,
    fun d m hd hm ne run => ⟨fun tick bits => sharedSignalSegment_passes hd hm ne run,
      fun tick bits => sharedSignalSegment_fails hd hm ne run,
      fun two => segmentThirdFailure_counts hd hm ne run two, ringBroken_cuts hd hm ne run⟩,
    fun hst hr => ⟨fun f dt hp => ⟨fun lo hi => ?_, fun late v => ?_, ?_⟩, fun i j hl => ?_, fun e run kind long => ?_,
      fun el run hp out apart untested long => ?_⟩⟩
  · refine ⟨_, rfl, ?_⟩
    rw [if_neg (by simp [hp]), if_pos ⟨lo, hi, rfl⟩]
    exact ⟨rfl, rfl⟩
  · exact (fEscapementResponse_wrong hst hp (or_assoc.1 (.inl late))).mono fun t ⟨_, _, act, _⟩ => act hr
  · exact (fEscapementMissed_opens hst hp).mono fun t ⟨_, act, _⟩ => act hr
  · exact (lockedMemoryWrite_refused hst hl).mono fun t ⟨parts, _, act⟩ => ⟨parts .cfg (by simp), act hr⟩
  · exact (pairLaneDisagreement_holds hst run kind long).mono fun t ⟨parts, act, _⟩ => ⟨parts .pairs (by simp), act hr⟩
  · have code : laneCode el = 0x1001 := if_pos out
    exact (laneAgreementTimeout_holds run hp (.inl out) apart untested long).mono fun t ⟨parts, act, _⟩ =>
      ⟨parts .outs (by simp), code ▸ act hr⟩

end Sys2Proof.Machine

end

section
/-! PROOFS. Requests for a device state and the entry into RUN. -/

namespace Sys2Proof.Machine

set_option Elab.async false

/-! ### A request for a device state comes to its object (R44, R45, R120) -/

/-- The row of 0x2100:02. -/
def requestRow : Row := ⟨0x2100, 2, 2, .unsigned 1, .rw, 0, .vals [0x20, 0x30, 0x40, 0x50]⟩

theorem groupOf_request : groupOf 0x2100 = some (0x2100, 0) := by decide

theorem rowOf_request (s : State) : rowOf s 0x2100 0 2 = some requestRow := by
  have row : rows.find? (fun r => r.grp = 0x2100 ∧ r.lo ≤ 2 ∧ 2 ≤ r.hi) = some requestRow := by decide +kernel
  have subs : subCount s 0x2100 0 = 2 := (by decide +kernel :
    ((entryCounts.find? (fun p => p.1 = 0x2100)).map (·.2)).getD 0 = 2)
  unfold rowOf
  dsimp only
  rw [if_neg (show ¬(0x2100 = 0x2001 ∧ 4 ≤ 2) by omega), if_pos (.inl (Nat.le_of_eq subs.symm)), row]

theorem findObj_request (s : State) : findObj s 0x2100 2 = .ok (0x2100, 0, requestRow) := by
  have present : groupPresent s 0x2100 0 = true := rfl
  simp [findObj, groupOf_request, present, rowOf_request]

/-- Whether a device state takes writes of 0x2100:02. -/
theorem writeState_requestRow {s : State} (h : evaluating s = true ∨ s.ctl.st = .configure) :
    writeState s requestRow = 0 := by
  unfold evaluating at h
  unfold writeState
  cases e : s.ctl.st <;> simp_all [requestRow]

/-- A target is a value of 0x2100:02. -/
def IsTarget (b : Byte) : Prop := b = 0x20 ∨ b = 0x30 ∨ b = 0x40 ∨ b = 0x50

/-- A write of a target: the device state and the transport are checked before the request. -/
theorem writeObj_request {r : Requester} {b : Byte} {x : Side} {s : State} (h : IsTarget b) (hx : x.badLength = false) :
    writeObj r 0x2100 2 0 [b] x s =
      if writeState s requestRow ≠ 0 then (0x08000022, s)
      else if narrowed s r 0x2100 2 [b] then (0x08000022, s)
      else requestWrite x.arrived r b.toNat s := by
  have value : unle [b] = b.toNat := by simp [unle]
  have data : dataCheck requestRow [b] = 0 := by rcases h with rfl | rfl | rfl | rfl <;> decide
  have acc : requestRow.acc.writable = true := rfl
  have bound : boundOk s 0x2100 2 requestRow [b] = true := rfl
  have free : holderOnly 0x2100 2 requestRow = false := rfl
  have block : blockFailed s 0x2100 requestRow = false := by simp [blockFailed]
  have effect : writeEffect r 0x2100 0x2100 0 2 0 requestRow [b] x s = requestWrite x.arrived r b.toNat s := by
    rw [← value]; rfl
  simp [writeObj, findObj_request, data, acc, bound, free, block, effect, hx]
/-- The state in which a requester's access is executed: the session's inactivity limit starts anew and the access is
counted (R124, R144). -/
def accessed (r : Requester) (s : State) : State := (countLoad (touch r s)).2

theorem accessed_eq (r : Requester) (s : State) : ∃ d, accessed r s = { s with dict := d }
    ∧ d.session.state = s.dict.session.state ∧ d.session.holder = s.dict.session.holder ∧ d.held = s.dict.held := by
  unfold accessed countLoad touch
  split <;> exact ⟨_, rfl, rfl, rfl, rfl⟩

@[simp] theorem accessed_keeps (r : Requester) (s : State) :
    (accessed r s).ctl = s.ctl ∧ (accessed r s).cfg = s.cfg ∧ (accessed r s).proc = s.proc ∧ (accessed r s).time = s.time := by
  obtain ⟨d, e, -⟩ := accessed_eq r s
  simp [e]

@[simp] theorem accessed_held (r : Requester) (s : State) : (accessed r s).dict.held = s.dict.held := by
  obtain ⟨d, e, -, -, held⟩ := accessed_eq r s
  rw [e, held]

@[simp] theorem holdsSession_accessed (r q : Requester) (s : State) :
    holdsSession (accessed r s) q = holdsSession s q := by
  obtain ⟨d, e, state, holder, -⟩ := accessed_eq r s
  simp only [holdsSession, e, state, holder]

@[simp] theorem holdsKind_accessed (r q : Requester) (k : Nat) (s : State) :
    holdsKind (accessed r s) q k = holdsKind s q k := by
  have same := holdsSession_accessed r q s
  obtain ⟨d, e, state, -⟩ := accessed_eq r s
  rw [holdsKind, holdsKind, same, e, state]

@[simp] theorem transportOk_accessed (r q : Requester) (s : State) :
    transportOk (accessed r s) q = transportOk s q := by
  simp [transportOk, imageFlags]

@[simp] theorem requestBeaten_accessed (r : Requester) (t : Nat) (s : State) :
    requestBeaten t (accessed r s) = requestBeaten t s := by
  simp [requestBeaten]

@[simp] theorem runReady_accessed (r : Requester) (s : State) : runReady (accessed r s) = runReady s := by
  obtain ⟨d, e, -⟩ := accessed_eq r s
  rw [e]
  rfl

theorem settle_of_none_held {s : State} (h : s.dict.held = []) : settle s = s := by
  rw [settle, h]
  rfl

/-- A write that is served in its turn is executed and answered; then what is held follows. -/
theorem dictWrite_of_served {r : Requester} {b : Byte} {s : State} {idx sub : Nat} (h : Served r s) :
    dictWrite r idx sub [b] 0 {} s = settle (lateCheck s.time.now (accessBound (accessed r s) r idx sub)
      (reply r (writeObj r idx sub 0 [b] { arrived := s.time.now } (accessed r s)).1 []
        (writeObj r idx sub 0 [b] { arrived := s.time.now } (accessed r s)).2)) := by
  obtain ⟨ok, idle, -, turn, alone⟩ := h
  have now : (touch r s).time.now = s.time.now := by simp
  have turn' : turnOf s.time.now r.code (touch r s) = true := by
    rw [← turn]; unfold touch; split <;> rfl
  have alone' : waitsOf r.code (touch r s) = false := by
    rw [← alone]; unfold touch; split <;> rfl
  have ok' : served (touch r s) r = true := by rw [← ok]; simp [served]
  unfold dictWrite inTurn
  rw [if_neg (by simp [ok]), now, if_pos ⟨turn', by simp [alone']⟩]
  unfold runHeld
  rw [if_neg (by simp [ok'])]
  unfold writeRun
  dsimp only
  rw [if_neg (by simp [idle]), if_pos rfl]
  rfl

/-- A target for the device is written in the state in which the access is executed. -/
def requested (r : Requester) (b : Byte) (s : State) : Nat × State :=
  writeObj r 0x2100 2 0 [b] { arrived := s.time.now } (accessed r s)

theorem requested_eq {r : Requester} {b : Byte} {s : State} (h : IsTarget b) : requested r b s =
    if writeState s requestRow ≠ 0 ∨ narrowed s r 0x2100 2 [b] = true then (0x08000022, accessed r s)
    else requestWrite s.time.now r b.toNat (accessed r s) := by
  have state : writeState (accessed r s) requestRow = writeState s requestRow := by simp [writeState]
  have transport : narrowed (accessed r s) r 0x2100 2 [b] = narrowed s r 0x2100 2 [b] := by simp [narrowed]
  rw [requested, writeObj_request h rfl, state, transport]
  by_cases k : writeState s requestRow ≠ 0
  · rw [if_pos k, if_pos (.inl k)]
  rw [if_neg k]
  by_cases n : narrowed s r 0x2100 2 [b] = true
  · rw [if_pos n, if_pos (.inr n)]
  · rw [if_neg n, if_neg (not_or.2 ⟨k, n⟩)]

/-- A served request leaves the control and the block as its write leaves them, and is answered with its result. -/
theorem dictWrite_request {r : Requester} {b : Byte} {s : State} (h : Served r s) (hb : IsTarget b) :
    (dictWrite r 0x2100 2 [b] 0 {} s).ctl = (requested r b s).2.ctl
    ∧ (dictWrite r 0x2100 2 [b] 0 {} s).proc = (requested r b s).2.proc
    ∧ Answered r (requested r b s).1 (dictWrite r 0x2100 2 [b] 0 {} s) := by
  have none_held : (requested r b s).2.dict.held = [] := by
    obtain ⟨-, -, free, -⟩ := h
    rw [requested_eq hb, ← free]
    split <;> simp
  rw [dictWrite_of_served h]
  change (requested r b s).2.dict.held = [] at none_held
  rw [show writeObj r 0x2100 2 0 [b] { arrived := s.time.now } (accessed r s) = requested r b s from rfl]
  generalize requested r b s = x at none_held ⊢
  have answered : (lateCheck s.time.now (accessBound (accessed r s) r 0x2100 2) (reply r x.1 [] x.2)).dict
      = (reply r x.1 [] x.2).dict := by simp
  rw [settle_of_none_held (by rw [answered]; exact none_held)]
  refine ⟨by simp, by simp, ?_⟩
  rw [Answered, answered, reply_abort]

/-! ### The requests (R42, R44, R45) -/

/-- A request that the device state, the transport or an earlier request of its tick turns away changes no state. -/
theorem requested_refused {r : Requester} {b : Byte} {s : State} (h : IsTarget b)
    (no : writeState s requestRow ≠ 0 ∨ narrowed s r 0x2100 2 [b] = true ∨ requestBeaten s.time.now s = true) :
    requested r b s = (0x08000022, accessed r s) := by
  rw [requested_eq h]
  split
  · rfl
  · next k => rw [requestWrite, if_pos (by simpa [or_assoc] using (or_assoc.2 no).resolve_left k)]

/-- A request that nothing turns away is the request alone, and is kept as the one of its tick where it is accepted. -/
theorem requested_alone {r : Requester} {b : Byte} {s : State} (h : IsTarget b)
    (takes : writeState s requestRow = 0) (may : narrowed s r 0x2100 2 [b] = false)
    (first : requestBeaten s.time.now s = false) : requested r b s =
      if (requestAlone r b.toNat (accessed r s)).1 = 0 then
        (0, { (requestAlone r b.toNat (accessed r s)).2 with
          ctl := { (requestAlone r b.toNat (accessed r s)).2.ctl with reqTick := some (tick10 s.time.now) } })
      else requestAlone r b.toNat (accessed r s) := by
  rw [requested_eq h, if_neg (by simp [takes, may]), requestWrite, if_neg (by simp [first])]
theorem moveTo_ctl (b : DevState) (cause who : Nat) (s : State) : (moveTo b cause who s).ctl = { s.ctl with
    st := b, request := none, lastWord := transitionWord s.ctl.st b cause who, lastTime := s.time.dev
    transitions := if b = .reset then s.ctl.transitions else inc32 s.ctl.transitions } := by
  simp [moveTo]

theorem backToSafe_ctl (cause who : Nat) (s : State) : (backToSafe cause who s).ctl = { s.ctl with
    st := .safe, request := none, lastWord := transitionWord s.ctl.st .safe cause who, lastTime := s.time.dev
    transitions := inc32 s.ctl.transitions } := by
  simp [backToSafe, moveTo_ctl]

theorem gone_running (code src : Nat) (s : State) : (gone code src s).proc.running = s.proc.running := by
  unfold gone clearRecords coreBack
  dsimp only
  split
  · simp
  · rfl

theorem fold_running {α : Type} (l : List α) (f : State → α → State) (h : ∀ a x, (f a x).proc.running = a.proc.running)
    (s : State) : (l.foldl f s).proc.running = s.proc.running := by
  induction l generalizing s with
  | nil => rfl
  | cons x l ih => exact (ih _).trans (h s x)

theorem elemMoved_running (t el : Nat) (s : State) : (elemMoved t el s).proc.running = s.proc.running := by
  have drop (c : Prop) [Decidable c] (code : Nat) (u : State) (h : u.proc.running = s.proc.running) :
      (if c then gone code el u else u).proc.running = s.proc.running := by
    split
    · rw [gone_running, h]
    · exact h
  unfold elemMoved
  dsimp only
  refine drop _ _ _ (drop _ _ _ ?_)
  simp

theorem settleAll_running (s : State) : (settleAll s).proc.running = s.proc.running :=
  fold_running _ _ (fun a _ => fold_running _ _ (fun b el => elemMoved_running _ el b) a) s

theorem allOff_running (s : State) : (allOff s).proc.running = s.proc.running := by
  rw [allOff, settleAll_running]
  simp

/-- CONFIGURE opens the locks and stops the boundaries (R39, R307). -/
theorem enterConfigure_opens (who : Nat) (s : State) : (enterConfigure who s).ctl.st = .configure
    ∧ (enterConfigure who s).ctl.locked = false ∧ (enterConfigure who s).proc.running = false := by
  unfold enterConfigure
  dsimp only
  rw [allOff_running]
  simp [moveTo_ctl, lanesStop]

/-- The requests bring a target each to 0x2100:02. -/
def Requests (c : Instr) (r : Requester) (b : Byte) : Prop :=
  IsTarget b ∧ ∀ s, exec c s = .next (dictWrite r 0x2100 2 [b] 0 {} s)

theorem requests (r : Requester) : Requests (.requestSafe r) r 0x20 ∧ Requests (.requestRun r) r 0x30
    ∧ Requests (.requestConfigure r) r 0x40 ∧ Requests (.requestMaintenance r) r 0x50 :=
  ⟨⟨.inl rfl, fun _ => rfl⟩, ⟨.inr (.inl rfl), fun _ => rfl⟩, ⟨.inr (.inr (.inl rfl)), fun _ => rfl⟩,
    ⟨.inr (.inr (.inr rfl)), fun _ => rfl⟩⟩

/-- What a served request comes to, from what its write comes to. -/
theorem Requests.completes {c : Instr} {r : Requester} {b : Byte} {s : State} {P : State → Prop} (k : Requests c r b)
    (h : Served r s)
    (hp : ∀ t, t.ctl = (requested r b s).2.ctl → t.proc = (requested r b s).2.proc → Answered r (requested r b s).1 t → P t) :
    Completes c s P := by
  obtain ⟨ctl, proc, answer⟩ := dictWrite_request h k.1
  exact ⟨_, k.2 s, hp _ ctl proc answer⟩

theorem Requests.refused {c : Instr} {r : Requester} {b : Byte} {s : State} (k : Requests c r b) (h : Served r s)
    (no : writeState s requestRow ≠ 0 ∨ narrowed s r 0x2100 2 [b] = true ∨ requestBeaten s.time.now s = true) :
    Completes c s (fun t => t.ctl = s.ctl ∧ Answered r 0x08000022 t) := by
  refine k.completes h fun t ctl _ answer => ?_
  rw [requested_refused k.1 no] at ctl answer
  exact ⟨by simpa using ctl, answer⟩

/-- A request that nothing turns away, where the request alone is refused. -/
theorem Requests.denied {c : Instr} {r : Requester} {b : Byte} {s : State} (k : Requests c r b) (h : Served r s)
    (takes : evaluating s = true) (may : narrowed s r 0x2100 2 [b] = false)
    (first : requestBeaten s.time.now s = false)
    (no : requestAlone r b.toNat (accessed r s) = (0x08000022, accessed r s)) :
    Completes c s (fun t => t.ctl = s.ctl ∧ Answered r 0x08000022 t) := by
  refine k.completes h fun t ctl _ answer => ?_
  rw [requested_alone k.1 (writeState_requestRow (.inl takes)) may first, no, if_neg (by simp)] at ctl answer
  exact ⟨by simpa using ctl, answer⟩

/-- A request that nothing turns away, where the request alone is accepted. -/
theorem Requests.accepted {c : Instr} {r : Requester} {b : Byte} {s u : State} {P : State → Prop} (k : Requests c r b)
    (h : Served r s) (takes : evaluating s = true) (may : narrowed s r 0x2100 2 [b] = false)
    (first : requestBeaten s.time.now s = false) (yes : requestAlone r b.toNat (accessed r s) = (0, u))
    (hp : ∀ t, t.ctl = { u.ctl with reqTick := some (tick10 s.time.now) } → t.proc = u.proc → Answered r 0 t → P t) :
    Completes c s P := by
  refine k.completes h fun t ctl proc answer => ?_
  rw [requested_alone k.1 (writeState_requestRow (.inl takes)) may first, yes, if_pos rfl] at ctl proc answer
  exact hp t ctl proc answer

theorem not_narrowed_of_transportOk {r : Requester} {b : Byte} {s : State} (h : transportOk s r = true) :
    narrowed s r 0x2100 2 [b] = false := by
  simp [narrowed, h]

theorem requestSafe_accepted {r : Requester} {s : State} (h : Served r s)
    (first : requestBeaten s.time.now s = false) (free : s.ctl.request = none) (ok : transportOk s r = true)
    (st : s.ctl.st = .run ∨ s.ctl.st = .maintenance) : Completes (.requestSafe r) s (fun t =>
      t.ctl.st = .safe ∧ t.ctl.lastWord = transitionWord s.ctl.st .safe 2 r.code
      ∧ t.ctl.transitions = inc32 s.ctl.transitions ∧ Answered r 0 t) := by
  have yes : requestAlone r 0x20 (accessed r s) = (0, backToSafe 2 r.code (accessed r s)) := by
    simp [requestAlone, free, requestTransport, ok, st]
  have takes : evaluating s = true := by rcases st with e | e <;> simp [evaluating, e]
  refine (requests r).1.accepted h takes (not_narrowed_of_transportOk ok) first yes fun t ctl _ answer => ?_
  rw [ctl, backToSafe_ctl]
  simp [answer]

theorem requestRun_served {r : Requester} {s : State} (h : Served r s)
    (first : requestBeaten s.time.now s = false) (free : s.ctl.request = none) (ok : transportOk s r = true)
    (st : s.ctl.st = .safe) : Completes (.requestRun r) s (fun t =>
      if runReady s then t.ctl = { s.ctl with request := some (0x30, r.code), reqTick := some (tick10 s.time.now) }
        ∧ Answered r 0 t
      else t.ctl = s.ctl ∧ Answered r 0x08000022 t) := by
  have takes : evaluating s = true := by simp [evaluating, st]
  obtain ⟨-, run, -⟩ := requests r
  cases ready : runReady s with
  | true =>
    have yes : requestAlone r 0x30 (accessed r s) = (0, { accessed r s with
        ctl := { (accessed r s).ctl with request := some (0x30, r.code) } }) := by
      simp [requestAlone, free, requestTransport, ok, st, ready]
    refine run.accepted h takes (not_narrowed_of_transportOk ok) first yes fun t ctl _ answer => ?_
    exact ⟨by simpa using ctl, answer⟩
  | false =>
    refine run.denied h takes (not_narrowed_of_transportOk ok) first ?_
    simp [requestAlone, free, requestTransport, ok, st, ready]

theorem requestConfigure_served {r : Requester} {s : State} (h : Served r s)
    (first : requestBeaten s.time.now s = false) (free : s.ctl.request = none) (st : s.ctl.st = .safe) :
    Completes (.requestConfigure r) s (fun t =>
      if holdsKind s r 1 then t.ctl.st = .configure ∧ t.ctl.locked = false ∧ t.proc.running = false ∧ Answered r 0 t
      else t.ctl = s.ctl ∧ Answered r 0x08000022 t) := by
  have takes : evaluating s = true := by simp [evaluating, st]
  have may : narrowed s r 0x2100 2 [0x40] = false := rfl
  obtain ⟨-, -, configure, -⟩ := requests r
  cases holder : holdsKind s r 1 with
  | true =>
    have yes : requestAlone r 0x40 (accessed r s) = (0, enterConfigure r.code (accessed r s)) := by
      simp [requestAlone, free, requestTransport, st, holder]
    refine configure.accepted h takes may first yes fun t ctl proc answer => ?_
    obtain ⟨st', locked, running⟩ := enterConfigure_opens r.code (accessed r s)
    rw [ctl, proc]
    exact ⟨st', locked, running, answer⟩
  | false =>
    refine configure.denied h takes may first ?_
    simp [requestAlone, free, requestTransport, st, holder]

theorem requestMaintenance_served {r : Requester} {s : State} (h : Served r s)
    (first : requestBeaten s.time.now s = false) (free : s.ctl.request = none) (st : s.ctl.st = .safe) :
    Completes (.requestMaintenance r) s (fun t =>
      if holdsKind s r 2 then t.ctl.st = .maintenance ∧ t.ctl.locked = s.ctl.locked ∧ Answered r 0 t
      else t.ctl = s.ctl ∧ Answered r 0x08000022 t) := by
  have takes : evaluating s = true := by simp [evaluating, st]
  have may : narrowed s r 0x2100 2 [0x50] = false := rfl
  obtain ⟨-, -, -, maintenance⟩ := requests r
  cases holder : holdsKind s r 2 with
  | true =>
    have yes : requestAlone r 0x50 (accessed r s) = (0, moveTo .maintenance 2 r.code (accessed r s)) := by
      simp [requestAlone, free, requestTransport, st, holder]
    refine maintenance.accepted h takes may first yes fun t ctl _ answer => ?_
    rw [ctl, moveTo_ctl]
    simp [answer]
  | false =>
    refine maintenance.denied h takes may first ?_
    simp [requestAlone, free, requestTransport, st, holder]
/-! ### The entry into RUN (R200) -/

theorem pairLane_modLane (l m : Lane) (e i : Nat) (g : PairLane → PairLane) (s : State) :
    pairLane (modLane l e g s) m i = if m = l ∧ i = e then g (pairLane s m i) else pairLane s m i := by
  by_cases h : i = e
  · subst h
    cases l <;> cases m <;> simp [pairLane, modLane]
  · cases m <;> simp [pairLane, modLane, pair_modPair_other _ _ _ _ h, h]

theorem pairLane_of_pairs {s t : State} (h : t.pairs = s.pairs) (l : Lane) (e : Nat) : pairLane t l e = pairLane s l e := by
  unfold pairLane pair
  rw [h]

/-- A door that follows changes no release. -/
theorem doorSettle_release (l m : Lane) (te i e : Nat) (s : State) :
    (pairLane (doorSettle l te i s) m e).release = (pairLane s m e).release := by
  have stamped : (pairLane (stamp l te i s) m e).release = (pairLane s m e).release := by
    rw [stamp, pairLane_modLane]
    (repeat' split) <;> rfl
  unfold doorSettle
  dsimp only
  split
  · rfl
  · have noted (v : Nat) (u : State) : pairLane (doorNote l te 1 i v u) m e = pairLane u m e :=
      pairLane_of_pairs (by simp) m e
    rw [noted, pairLane_modLane, ← stamped]
    split <;> rfl

/-- An entry whose release an entry into RUN clears: an interlocked pair, not in the automatic mode. -/
def Interlocked (c : Conf) (e : Nat) : Prop := (pairKind c e = 1 ∨ pairKind c e = 2) ∧ pairMode c e ≠ 0

/-- The release of an entry is off in both lanes. -/
def ReleaseOff (s : State) (e : Nat) : Prop := ∀ m, (pairLane s m e).release = false

theorem runRelease_clears {l : Lane} {e : Nat} {s : State} (h : Interlocked (confOf s) e) :
    (pairLane (runRelease l e s) l e).release = false := by
  obtain ⟨kind, mode⟩ := h
  rw [runRelease, if_pos kind, pairLane_modLane, if_pos ⟨rfl, rfl⟩, if_neg mode]

theorem runRelease_keeps_off {l m : Lane} {i e : Nat} {s : State} (h : Interlocked (confOf s) e)
    (off : (pairLane s m e).release = false) : (pairLane (runRelease l i s) m e).release = false := by
  by_cases same : m = l ∧ e = i
  · obtain ⟨rfl, rfl⟩ := same
    exact runRelease_clears h
  · unfold runRelease
    dsimp only
    split
    · rw [pairLane_modLane, if_neg same]
      exact off
    · exact off

theorem confOf_runRelease (l : Lane) (e : Nat) (s : State) : confOf (runRelease l e s) = confOf s := by
  simp [confOf]

/-- Every release of a list of entries, as an entry into RUN leaves it. -/
def runReleases (es : List Nat) (s : State) : State := es.foldl (fun a e => runRelease .b e (runRelease .a e a)) s

theorem runReleases_off {e : Nat} (es : List Nat) {s : State} (h : Interlocked (confOf s) e)
    (mem : e ∈ es ∨ ReleaseOff s e) : ReleaseOff (runReleases es s) e := by
  induction es generalizing s with
  | nil => exact mem.resolve_left (by simp)
  | cons i es ih =>
    have ha : Interlocked (confOf (runRelease .a i s)) e := by rw [confOf_runRelease]; exact h
    refine ih (s := runRelease .b i (runRelease .a i s)) (by rw [confOf_runRelease]; exact ha) ?_
    rcases mem with mem | off
    · rcases List.mem_cons.1 mem with rfl | mem
      · refine .inr fun m => ?_
        cases m with
        | a => exact runRelease_keeps_off ha (runRelease_clears h)
        | b => exact runRelease_clears ha
      · exact .inl mem
    · exact .inr fun m => runRelease_keeps_off ha (runRelease_keeps_off h (off m))

theorem fold_doorSettle_release (ds : List Nat) (m : Lane) (e : Nat) (s : State) :
    (pairLane (ds.foldl (fun a d => doorSettle .b a.time.now d (doorSettle .a a.time.now d a)) s) m e).release
      = (pairLane s m e).release := by
  induction ds generalizing s with
  | nil => rfl
  | cons d ds ih => rw [List.foldl_cons, ih, doorSettle_release, doorSettle_release]

theorem enterRun_releaseOff {cause who e : Nat} {s : State} (used : e ∈ usedEntries (confOf s))
    (h : Interlocked (confOf s) e) : ReleaseOff (enterRun cause who s) e := by
  intro m
  unfold enterRun
  dsimp only
  rw [fold_doorSettle_release]
  generalize hu : ({ moveTo .run cause who s with ctl := _ } : State) = u
  have conf : confOf u = confOf s := by subst hu; simp [confOf]
  rw [conf]
  exact runReleases_off _ (by rw [conf]; exact h) (.inl used) m

theorem enterRun_ctl (cause who : Nat) (s : State) :
    (enterRun cause who s).ctl = { (moveTo .run cause who s).ctl with runSince := s.time.now } := by
  simp [enterRun]

theorem runEntry_enters {s : State} {who : Nat} (req : s.ctl.request = some (0x30, who)) (st : s.ctl.st = .safe)
    (run : s.proc.running = true) : Completes .runEntry s (fun t => OnlyWrites (writes .runEntry) s t
      ∧ t.ctl.request = none ∧ (if runReady s then t.ctl.st = .run ∧ t.ctl.runSince = s.time.now
        ∧ t.ctl.lastWord = transitionWord .safe .run (if who = 0 then 7 else 2) who
        ∧ (∀ e ∈ usedEntries (confOf s), (pairKind (confOf s) e = 1 ∨ pairKind (confOf s) e = 2) →
          pairMode (confOf s) e ≠ 0 → (pair t e).a.release = false ∧ (pair t e).b.release = false)
        else t.ctl.st = .safe)) := by
  have next : exec .runEntry s = .next (if runReady s then enterRun (if who = 0 then 7 else 2) who s
      else { s with ctl := { s.ctl with request := none } }) := by
    change execRunEntry s = _
    simp [execRunEntry, req, st, run]
  obtain ⟨t, done, parts⟩ := runEntry_framed s
  refine ⟨t, done, parts, ?_⟩
  rw [next] at done
  cases done
  cases ready : runReady s with
  | true =>
    rw [if_pos rfl, if_pos rfl, enterRun_ctl, moveTo_ctl, st]
    refine ⟨rfl, rfl, rfl, rfl, fun e used kind mode => ?_⟩
    have off := enterRun_releaseOff (cause := if who = 0 then 7 else 2) (who := who) used ⟨kind, mode⟩
    exact ⟨off .a, off .b⟩
  | false => exact ⟨rfl, st⟩

/-- Settles O25: a served request comes to the write of its target, whose checks come in the order of R483. -/
theorem stateRequests : Obligations.StateRequests := by
  unfold Obligations.StateRequests
  intro s r
  obtain ⟨safe, run, configure, maintenance⟩ := requests r
  refine ⟨fun h beaten => ?_, fun h first free => ⟨fun ok st => requestSafe_accepted h first free ok st, fun no st => ?_,
    fun ok st => requestRun_served h first free ok st, fun st => requestConfigure_served h first free st,
    fun st => requestMaintenance_served h first free st⟩, fun who req st running => runEntry_enters req st running⟩
  · have no {b : Byte} : writeState s requestRow ≠ 0 ∨ narrowed s r 0x2100 2 [b] = true
        ∨ requestBeaten s.time.now s = true := .inr (.inr beaten)
    exact ⟨safe.refused h no, run.refused h no, configure.refused h no, maintenance.refused h no⟩
  · have narrow : narrowed s r 0x2100 2 [0x20] = true ∧ narrowed s r 0x2100 2 [0x30] = true := by
      simp [narrowed, no, unle]
    exact ⟨safe.refused h (.inr (.inl narrow.1)), run.refused h (.inr (.inl narrow.2))⟩

end Sys2Proof.Machine

end

section
/-! PROOFS. What records, reports and the move of switches leave of the Ledger's state, of the Curfew pattern and of
other faults. -/

namespace Sys2Proof.Machine

/-! ### The Ledger's state and the Curfew pattern (R34, R443, R451) -/

/-- What of the Ledger neither the record buffer nor the parameter backup touches: its state, its hold-up mode and the
image slots. -/
def Ledger.mode (l : Ledger) : Nat × Bool × ImageSlot × ImageSlot := (l.state, l.holdup, l.slotA, l.slotB)

/-- That, with the sites whose Curfew pattern is stopped. -/
def modes (s : State) : (Nat × Bool × ImageSlot × ImageSlot) × Nat := (s.led.mode, s.col.curfew)

theorem fold_same {α β : Type} (g : State → β) (f : State → α → State) (l : List α) (h : ∀ s x, g (f s x) = g s)
    (s : State) : g (l.foldl f s) = g s := by
  induction l generalizing s with
  | nil => rfl
  | cons x l ih => exact (ih _).trans (h s x)

theorem ite_same {β : Type} (g : State → β) {p : Prop} [Decidable p] {s t u : State} (h : g t = g s) (k : g u = g s) :
    g (if p then t else u) = g s := by
  split
  · exact h
  · exact k

theorem breachCount_modes (rank cls : Nat) (s : State) : modes (breachCount rank cls s) = modes s := rfl
theorem sealOpen_modes (s : State) : modes (sealOpen s) = modes s := ite_same modes rfl rfl
theorem sealFull_modes (s : State) : modes (sealFull s) = modes s := ite_same modes rfl (sealOpen_modes s)

theorem placeWith_modes {lose : Nat → Nat → State → State} (h : ∀ r c s, modes (lose r c s) = modes s) (r : LedgerRec)
    (s : State) : modes (placeWith lose r s) = modes s := by
  have put (u : State) (hu : modes u = modes s) : modes (sealFull (openPut r u)) = modes s := (sealFull_modes _).trans hu
  unfold placeWith
  split
  · exact put s rfl
  split
  · exact put s rfl
  split
  · exact put _ (sealOpen_modes s)
  split
  · rfl
  split
  · rfl
  split
  · rfl
  · exact h ..

theorem ledgerWith_modes {lose : Nat → Nat → State → State} (h : ∀ r c s, modes (lose r c s) = modes s) (t : Nat)
    (r : LedgerRec) (s : State) : modes (ledgerWith lose t r s) = modes s := by
  unfold ledgerWith
  dsimp only
  split
  · exact placeWith_modes h ..
  split
  · exact ite_same modes rfl rfl
  · exact h ..

theorem updWith_modes {put : LedgerRec → State → State} (h : ∀ r s, modes (put r s) = modes s) (pick : Record → Bool)
    (f : Record → Record) (s : State) : modes (updWith put pick f s) = modes s :=
  (fold_same modes (fun a r => put (f r).copy a) _ (fun a r => h (f r).copy a) _).trans rfl

theorem enterWith_modes {put : LedgerRec → State → State} (h : ∀ r s, modes (put r s) = modes s) (a : Report)
    (force : Bool) (s : State) : modes (enterWith put a force s) = modes s := by
  unfold enterWith
  split
  · exact updWith_modes h ..
  · exact ite_same modes rfl rfl

theorem breach_modes (rank cls : Nat) (s : State) : modes (breach rank cls s) = modes s := by
  have put (r : LedgerRec) (t : State) : modes (ledgerWith breachCount t.time.dev r t) = modes t :=
    ledgerWith_modes breachCount_modes ..
  exact ite_same modes (ite_same modes (enterWith_modes put _ _ (breachCount rank cls s)) (put _ (breachCount rank cls s))) rfl

theorem ledgerPut_modes (r : LedgerRec) (s : State) : modes (ledgerPut r s) = modes s := ledgerWith_modes breach_modes ..

theorem updRecords_modes (pick : Record → Bool) (f : Record → Record) (s : State) : modes (updRecords pick f s) = modes s :=
  updWith_modes ledgerPut_modes ..

theorem clearRecords_modes (pick : Record → Bool) (f : Record → Record) (s : State) :
    modes (clearRecords pick f s) = modes s := by
  have kept (u : State) : modes (coreBack u) = modes u := by simp [modes]
  exact (kept _).trans (updRecords_modes ..)

theorem gone_modes (code src : Nat) (s : State) : modes (gone code src s) = modes s := by
  unfold gone
  exact ite_same modes ((clearRecords_modes ..).trans (updRecords_modes ..)) rfl

theorem goneIf_modes (code src : Nat) (s : State) : modes (goneIf code src s) = modes s :=
  ite_same modes (gone_modes ..) rfl

theorem uncount_modes (pick : Record → Bool) (s : State) : modes (uncount pick s) = modes s := by
  unfold uncount
  refine fold_same modes _ _ (fun a x => ?_) s
  rfl

theorem unrecover_modes (a : Report) (s : State) : modes (unrecover a s) = modes s :=
  (updRecords_modes ..).trans (uncount_modes ..)

theorem reactAtOnce_led (lvl src : Nat) (s : State) : (reactAtOnce lvl src s).led = s.led := by simp

theorem mode_of_modes {s t : State} (h : modes t = modes s) : t.led.mode = s.led.mode := congrArg Prod.fst h

theorem enter_mode (a : Report) (force : Bool) (s : State) : (enter a force s).led.mode = s.led.mode :=
  mode_of_modes (enterWith_modes ledgerPut_modes ..)

theorem takeOver_mode (lvl : Nat) (a : Report) (s : State) : (takeOver lvl a s).led.mode = s.led.mode := by
  unfold takeOver
  split
  · rw [enter_mode, reactAtOnce_led, reactAtOnce_led]
    exact mode_of_modes (ite_same modes (breach_modes ..) rfl)
  · exact mode_of_modes ((breach_modes ..).trans (ledgerPut_modes ..))

/-- A report that is taken leaves the Ledger's state; it may stop the Curfew pattern. -/
theorem take_mode (a : Report) (force : Bool) (s : State) : (take a force s).led.mode = s.led.mode := by
  unfold take
  split
  · rfl
  refine Eq.trans ?_ (mode_of_modes (unrecover_modes a s))
  dsimp only
  split
  · rw [takeIn, reactAtOnce_led, enter_mode]
  · exact takeOver_mode ..

/-! ### Faults that the end of another condition leaves in effect (R346) -/

/-- A change of records that leaves the uncleared ones of a code and source uncleared leaves that fault in effect. -/
theorem updRecords_active {code src : Nat} {pick : Record → Bool} {f : Record → Record} {s : State}
    (h : ∀ r, pick r = true → r.code = code → r.uncleared = true →
      (f r).uncleared = true ∧ (f r).code = r.code ∧ (f r).source = r.source)
    (act : faultActive s code src = true) : faultActive (updRecords pick f s) code src = true := by
  obtain ⟨⟨g, hg, e⟩, w⟩ := updWith_records ledgerPut_grows pick f s
  rw [faultActive_iff] at act ⊢
  refine act.imp (fun ⟨r, m, hu, hc, hs⟩ => ?_) (w code src)
  refine ⟨g (if pick r then f r else r), by rw [updRecords, e]; exact List.mem_map_of_mem (List.mem_map_of_mem m), ?_⟩
  obtain ⟨uncleared, gcode, gsource, -⟩ := hg (if pick r then f r else r)
  rw [uncleared, gcode, gsource]
  split
  · next p =>
    obtain ⟨fu, fc, fs⟩ := h r p hc hu
    exact ⟨fu, fc.trans hc, fs.trans hs⟩
  · exact ⟨hu, hc, hs⟩

/-- The end of the condition of another code takes a fault not out of effect. -/
theorem gone_active {code src c x : Nat} {s : State} (ne : code ≠ c) (act : faultActive s code src = true) :
    faultActive (gone c x s) code src = true := by
  unfold gone
  dsimp only
  split
  · refine (Keeps.of_col (coreBack_col _)).act _ _ (updRecords_active (fun r p hc _ => ?_) (updRecords_active ?_ act))
    · simp [hc, ne] at p
    · exact fun r _ _ hu => ⟨hu, rfl, rfl⟩
  · rw [faultActive_iff] at act ⊢
    exact act.imp id (waits_map _ s _ rfl (fun p => by split <;> exact ⟨rfl, rfl⟩) code src)

theorem CondGone.updRecords {code src : Nat} {pick : Record → Bool} {f : Record → Record} {s : State}
    (h : CondGone code src s) (hf : ∀ r, (f r).uncleared = true → (f r).present = false) :
    CondGone code src (updRecords pick f s) :=
  updRecords_condGone code src pick f s (fun r _ _ => hf r) (fun r m _ => h r m)

/-- The end of a condition starts no other one. -/
theorem CondGone.gone {code src : Nat} {s : State} (h : CondGone code src s) (c x : Nat) :
    CondGone code src (gone c x s) := by
  unfold Machine.gone
  dsimp only
  split
  · have cleared := (h.updRecords (pick := fun r => r.uncleared && r.present && decide (r.code = c) && decide (r.source = x))
        (f := fun r => { r with present := false, read := false, goneAt := s.time.opNs }) fun _ _ => rfl).updRecords
      (pick := fun r => (decide (r.code = c) && decide (r.source = x) && decide (r.level ≤ 1)) && r.uncleared && !r.present
        && decide (r.level < 4)) (f := fun r => id { r with status := 1 }) fun r hu => by simp [Record.uncleared] at hu
    intro r m
    rw [clearRecords, coreBack_col] at m
    exact cleared r m
  · exact h

theorem CondGone.goneIf {code src : Nat} {s : State} (h : CondGone code src s) (c x : Nat) :
    CondGone code src (goneIf c x s) := by
  unfold Machine.goneIf
  split
  · exact h.gone c x
  · exact h

/-- A fault that is raised unless its condition is present is in effect where the collector had room. -/
theorem faultNew_inEffect {code src : Nat} {s : State} (hst : s.ctl.st ≠ .reset ∧ s.ctl.st ≠ .fuseSense)
    (hr : room s = true) : InEffect code src (faultNew code src s) := by
  unfold faultNew
  split
  · next p => exact faultActive_of_condPresent p
  · exact raise_inEffect _ s hst hr

/-! ### The switches of a site move (R252, R253, R271) -/

theorem paramPage_modes (s : State) : modes (paramPage s) = modes s := by
  unfold paramPage
  exact ite_same modes (t := eraseBlocks _ _) rfl rfl

theorem countDeferred_modes (s : State) : modes (countDeferred s) = modes s :=
  ite_same modes (breach_modes ..) rfl

theorem persist_modes (s : State) : modes (persist s) = modes s := by
  have set (u : State) : modes (writeSet (backupOf u) u) = modes u := paramPage_modes u
  have delta (u : State) : modes (writeDelta u) = modes u := paramPage_modes u
  unfold persist
  refine Eq.trans ?_ (countDeferred_modes s)
  exact ite_same modes (set _) (ite_same modes (delta _) rfl)

theorem markDirty_modes (s : State) : modes (markDirty s) = modes s :=
  ite_same modes (persist_modes _) rfl

theorem modLed_grows (g : Ledger → Ledger) (s : State) : Grows s (modLed g s) := .of_eq rfl rfl

theorem countDeferred_grows (s : State) : Grows s (countDeferred s) := by
  unfold countDeferred
  exact .ite ((modLed_grows ..).trans (breach_grows ..)) (.rfl' s)

theorem persist_grows (s : State) : Grows s (persist s) := by
  unfold persist
  refine (countDeferred_grows s).trans (.ite (.of_eq ?_ ?_) (.ite (.of_eq ?_ ?_) (.rfl' _))) <;> simp

theorem markDirty_grows (s : State) : Grows s (markDirty s) := by
  unfold markDirty
  exact (modLed_grows ..).trans (.ite (persist_grows _) (.rfl' _))

theorem modLearn_grows (el : Nat) (g : Learn → Learn) (s : State) : Grows s (modLearn el g s) := by
  unfold modLearn
  refine Grows.trans (.of_eq ?_ ?_) (markDirty_grows _) <;> rfl

theorem modLearn_modes (el : Nat) (g : Learn → Learn) (s : State) : modes (modLearn el g s) = modes s :=
  markDirty_modes _

/-- A property that the parts of a switch's move keep: the outputs' own fields, what is learned of a contactor, a record
for the Ledger, and the conditions that need a conducting element. -/
structure Settles (P : State → Prop) : Prop where
  outs : ∀ s o, P s → P { s with outs := o }
  learn : ∀ s el g, P s → P (modLearn el g s)
  put : ∀ s r, P s → P (ledgerPut r s)
  gone : ∀ s c x, c = 0x0307 ∨ c = 0x0309 → P s → P (gone c x s)

section

variable {P : State → Prop}

theorem Settles.modElem (h : Settles P) {s : State} (hs : P s) (el : Nat) (g : OutSt → OutSt) : P (modElem el g s) := by
  unfold Machine.modElem
  split <;> exact h.outs s _ hs

theorem Settles.dropTest (h : Settles P) {s : State} (hs : P s) (el : Nat) : P (dropTest el s) := by
  unfold Machine.dropTest
  split
  · exact hs
  · exact h.modElem hs el _

theorem holds_ite {p : Prop} [Decidable p] {t u : State} (h : P t) (k : P u) : P (if p then t else u) := by
  split
  · exact h
  · exact k

theorem Settles.elemMoved (h : Settles P) {s : State} (hs : P s) (t el : Nat) : P (elemMoved t el s) := by
  have gone (c : Nat) (hc : c = 0x0307 ∨ c = 0x0309) (p : Prop) [Decidable p] (u : State) (hu : P u) :
      P (if p then Machine.gone c el u else u) := holds_ite (h.gone u c el hc hu) hu
  unfold Machine.elemMoved
  dsimp only
  refine gone _ (.inr rfl) _ _ (gone _ (.inl rfl) _ _ ?_)
  have dropped (p : Prop) [Decidable p] : P (if p then Machine.dropTest el s else s) := holds_ite (h.dropTest hs el) hs
  have on (p : Prop) [Decidable p] (g : OutSt → OutSt) := h.modElem (dropped p) el g
  have learned (p q : Prop) [Decidable p] [Decidable q] (g : OutSt → OutSt) (k : Learn → Learn) :=
    holds_ite (p := q) (h.learn _ el k (on p g)) (on p g)
  exact holds_ite (dropped _) (holds_ite (h.put _ _ (learned _ _ _ _)) (learned _ _ _ _))

theorem holds_foldl {α : Type} {f : State → α → State} (h : ∀ s x, P s → P (f s x)) (l : List α) {s : State} (hs : P s) :
    P (l.foldl f s) := by
  induction l generalizing s with
  | nil => exact hs
  | cons x l ih => exact ih (h s x hs)

theorem Settles.settleSite (h : Settles P) {s : State} (hs : P s) (f : Nat) : P (settleSite f s) := by
  unfold Machine.settleSite siteMoved
  exact holds_foldl (P := P) (fun _ el ha => h.elemMoved ha _ el) _ hs

theorem Settles.settleAll (h : Settles P) {s : State} (hs : P s) : P (settleAll s) := by
  unfold Machine.settleAll
  exact holds_foldl (P := P) (fun _ f ha => h.settleSite ha f) _ hs

end

/-- A fault that no conducting element ends stays in effect as switches move. -/
theorem settles_active {code src : Nat} (h7 : code ≠ 0x0307) (h9 : code ≠ 0x0309) :
    Settles (fun s => faultActive s code src = true) where
  outs _ _ hs := hs
  learn s el g hs := (modLearn_grows el g s).keeps.act _ _ hs
  put s r hs := (ledgerPut_grows r s).keeps.act _ _ hs
  gone s c x hc hs := gone_active (by omega) hs

/-- The Ledger's state and the Curfew pattern stay as switches move. -/
theorem settles_modes (m : (Nat × Bool × ImageSlot × ImageSlot) × Nat) : Settles (fun s => modes s = m) where
  outs _ _ hs := hs
  learn s el g hs := (modLearn_modes el g s).trans hs
  put s r hs := (ledgerPut_modes r s).trans hs
  gone s c x _ hs := (gone_modes c x s).trans hs

/-! ### A Ledger that has stopped -/

theorem ledgerWith_led_stopped {lose : Nat → Nat → State → State} {t : Nat} {r : LedgerRec} {s : State}
    (h : (lose r.rank (recCls r) s).led = s.led) (stopped : s.led.state = 3) : (ledgerWith lose t r s).led = s.led := by
  unfold ledgerWith
  rw [if_neg (by omega), if_neg (by omega)]
  exact h

theorem foldl_led_stopped {α : Type} {f : State → α → State} (h : ∀ s x, s.led.state = 3 → (f s x).led = s.led)
    (l : List α) {s : State} (stopped : s.led.state = 3) : (l.foldl f s).led = s.led := by
  induction l generalizing s with
  | nil => rfl
  | cons x l ih => rw [List.foldl_cons, ih (by rw [h s x stopped]; exact stopped), h s x stopped]

theorem enterWith_led_stopped {put : LedgerRec → State → State} (h : ∀ r s, s.led.state = 3 → (put r s).led = s.led)
    (a : Report) (force : Bool) {s : State} (stopped : s.led.state = 3) : (enterWith put a force s).led = s.led := by
  unfold enterWith
  split
  · exact foldl_led_stopped (fun u r => h _ u) _ stopped
  · split <;> rfl

/-- A breach hands a Ledger that has stopped nothing. -/
theorem breach_led_stopped (rank cls : Nat) {s : State} (stopped : s.led.state = 3) : (breach rank cls s).led = s.led := by
  have put (r : LedgerRec) (u : State) (hu : u.led.state = 3) :
      (ledgerWith breachCount u.time.dev r u).led = u.led := ledgerWith_led_stopped rfl hu
  unfold breach
  dsimp only
  split
  · split
    · exact enterWith_led_stopped put _ _ (s := breachCount rank cls s) stopped
    · exact put _ (breachCount rank cls s) stopped
  · rfl

/-- Records that a Ledger which has stopped gives up change its count of dropped records alone. -/
theorem loseAll_led_stopped (l : List LedgerRec) {s : State} (stopped : s.led.state = 3) :
    (loseAll l s).led = { s.led with dropped := (loseAll l s).led.dropped } := by
  unfold loseAll
  induction l generalizing s with
  | nil => rfl
  | cons r l ih =>
    rw [List.foldl_cons]
    split
    · exact ih stopped
    · have same := breach_led_stopped 3 (recCls r) stopped
      rw [ih (by rw [same]; exact stopped), same]

/-- The flush ends without the pages that wait; the pages that were complete stay (R80). -/
theorem dropFlush_led (s : State) : (dropFlush s).led = { s.led with
    state := 3, queued := [], openRecs := [], flushCode := (dropFlush s).led.flushCode
    dropped := (dropFlush s).led.dropped } := by
  unfold dropFlush
  dsimp only
  generalize hu : ({ s with led := _ } : State) = u
  rw [loseAll_led_stopped _ (by subst hu; rfl)]
  subst hu
  rfl

end Sys2Proof.Machine

end

section
/-! PROOFS. Temperatures, hold-up and the debug port. -/

namespace Sys2Proof.Machine

/-! ### Temperatures (R76) -/

theorem clamp_high {v : Int} (h : 1400 ≤ v) : clamp (-400) 1700 v = min v 1700 := by
  unfold clamp
  omega

theorem clamp_low {v : Int} (h : v < 1350) : clamp (-400) 1700 v = max (-400) v := by
  unfold clamp
  omega

theorem setTemp_temps (d : Nat) (v : Int) (s : State) : tget 0 (setTemp d v s).power.temps d = clamp (-400) 1700 v :=
  tget_tset_self ..

theorem dieTemperatureWarning_raises {s : State} {d : Nat} {v : Int} (hst : fromStartup s = true)
    (hd : hasDie s d = true) (hot : 1400 ≤ v) : Completes (.dieTemperatureWarning d v) s (fun t =>
      OnlyWrites (writes (.dieTemperatureWarning d v)) s t ∧ tget 0 t.power.temps d = min v 1700
      ∧ Raised 0x0B06 (dieOf d) s t) := by
  obtain ⟨t, run, parts⟩ := dieTemperatureWarning_framed d v s
  refine ⟨t, run, parts, ?_⟩
  cases run
  rw [if_pos ⟨hst, hd, hot⟩]
  refine ⟨?_, fun r => faultNew_inEffect (fromStartup_st hst) r.room⟩
  rw [← clamp_high hot, ← setTemp_temps d v s]
  simp

theorem fDieOvertemperature_raises {s : State} {f : Nat} {v : Int} (hst : fromStartup s = true)
    (hp : populated s f = true) (hot : 1550 ≤ v) : Completes (.fDieOvertemperature f v) s (fun t =>
      OnlyWrites (writes (.fDieOvertemperature f v)) s t ∧ tget 0 t.power.temps f = min v 1700
      ∧ Raised 0x0B07 (dieSrc f) s t) := by
  obtain ⟨t, run, parts⟩ := fDieOvertemperature_framed f v s
  refine ⟨t, run, parts, ?_⟩
  cases run
  rw [if_pos ⟨hst, hp, hot⟩]
  refine ⟨?_, fun r => (settles_active (by decide) (by decide)).settleSite
    (faultNew_inEffect (s := setTemp f v s) (fromStartup_st hst) r.room) f⟩
  rw [← clamp_high (by omega), ← setTemp_temps f v s]
  simp

theorem cDieOvertemperature_raises {s : State} {v : Int} (hst : fromStartup s = true) (hot : 1550 ≤ v) :
    Completes (.cDieOvertemperature v) s (fun t => OnlyWrites (writes (.cDieOvertemperature v)) s t
      ∧ tget 0 t.power.temps 7 = min v 1700 ∧ Raised 0x0B08 0x07FF s t) := by
  obtain ⟨t, run, parts⟩ := cDieOvertemperature_framed v s
  refine ⟨t, run, parts, ?_⟩
  cases run
  rw [if_pos ⟨hst, hot⟩]
  refine ⟨?_, fun r => faultNew_inEffect (fromStartup_st hst) r.room⟩
  rw [← clamp_high (by omega), ← setTemp_temps 7 v s]
  simp

theorem dieTemperatureClear_ends {s : State} {d : Nat} {v : Int} (hst : fromStartup s = true)
    (hd : hasDie s d = true) (cool : v < 1350) : Completes (.dieTemperatureClear d v) s (fun t =>
      OnlyWrites (writes (.dieTemperatureClear d v)) s t ∧ tget 0 t.power.temps d = max (-400) v
      ∧ CondGone 0x0B06 (dieOf d) t ∧ (d < 7 → CondGone 0x0B07 (dieSrc d) t)) := by
  obtain ⟨t, run, parts⟩ := dieTemperatureClear_framed d v s
  refine ⟨t, run, parts, ?_⟩
  cases run
  rw [if_pos ⟨hst, hd, cool⟩]
  have warning := goneIf_condGone 0x0B06 (dieOf d) (setTemp d v s)
  refine ⟨?_, ?_, fun site => ?_⟩
  · rw [← clamp_low cool, ← setTemp_temps d v s]
    simp
  · dsimp only
    split
    · exact warning.goneIf _ _
    · exact warning
  · dsimp only
    rw [if_pos site]
    exact goneIf_condGone _ _ _

/-! ### Hold-up (R77, R80, R444) -/

/-- A fault below L3 has no reaction beside its report. -/
theorem raise_of_low {a : Report} {s : State} (h : a.lvl < 3) : raise a s = take a false s := by
  unfold raise
  dsimp only
  rw [if_neg (by omega : ¬ a.lvl = 3), if_neg (by omega : ¬ a.lvl = 4)]
  split
  · next st => rw [take, if_pos st]
  · rfl

theorem vholdLow_raises {s : State} {mv : Nat} (hst : fromStartup s = true) (low : mv < 22000) :
    Completes (.vholdLow mv) s (fun t => OnlyWrites (writes (.vholdLow mv)) s t
      ∧ t.power.vhold = mv ∧ t.led.holdup = true ∧ Raised 0x0B05 0x0760 s t) := by
  obtain ⟨t, run, parts⟩ := vholdLow_framed mv s
  refine ⟨t, run, parts, ?_⟩
  cases run
  rw [if_pos ⟨hst, low⟩]
  refine ⟨?_, ?_, fun r => faultNew_inEffect (fromStartup_st hst) r.room⟩
  · have fits : min 40000 mv = mv := by omega
    simp [setVhold, fits]
  · dsimp only
    unfold faultNew
    split
    · rfl
    · rw [fault, raise_of_low (a := report _ 0x0B05 0x0760) (show codeLevel 0x0B05 0x0760 < 3 by decide)]
      exact congrArg (fun m => m.2.1) (take_mode ..)

theorem vholdCharged_ends {s : State} {mv : Nat} (hst : s.ctl.st ≠ .reset) (charged : 22000 ≤ mv) :
    Completes (.vholdCharged mv) s (fun t => OnlyWrites (writes (.vholdCharged mv)) s t
      ∧ t.power.vhold = min 40000 mv ∧ t.led.holdup = false ∧ CondGone 0x0B05 0x0760 t) := by
  obtain ⟨t, run, parts⟩ := vholdCharged_framed mv s
  refine ⟨t, run, parts, ?_⟩
  cases run
  rw [if_pos ⟨hst, charged⟩]
  exact ⟨by simp [setVhold], congrArg (fun m => m.1.2.1) (goneIf_modes ..), goneIf_condGone _ _ _⟩

theorem vholdShortDetected_stops {s : State} {mv : Nat} (charging : s.power.charging = true) (short : mv < 2000) :
    Completes (.vholdShortDetected mv) s (fun t =>
      t = { s with power := { s.power with charging := false, vhold := mv } }) := by
  refine ⟨_, rfl, ?_⟩
  have fits : min 40000 mv = mv := by omega
  rw [if_pos ⟨charging, short⟩, setVhold, fits]
  rfl

theorem holdupExhausted_stops {s : State} (flushing : s.led.state = 2) :
    Completes .holdupExhausted s (fun t => OnlyWrites (writes .holdupExhausted) s t
      ∧ t.power.exhausted = true ∧ t.led.state = 3 ∧ t.led.queued = [] ∧ t.led.openRecs = []
      ∧ t.led.ring = s.led.ring) := by
  obtain ⟨t, run, parts⟩ := holdupExhausted_framed s
  refine ⟨t, run, parts, ?_⟩
  cases run
  rw [if_pos flushing]
  refine ⟨by simp, ?_⟩
  rw [dropFlush_led]
  exact ⟨rfl, rfl, rfl, rfl⟩

/-! ### The debug port (R90, R98, R102) -/

theorem tapStateChange_seen {s : State} (port : debugOpen s = true) (hst : fromStartup s = true) :
    Completes .tapStateChange s (fun t => OnlyWrites (writes .tapStateChange) s t
      ∧ t.fuses = { s.fuses with tapActive := true } ∧ (s.ctl.st = .run → Raised 0x0909 0x0740 s t)
      ∧ (s.ctl.st ≠ .run → OnlyWrites [.fuses] s t)) := by
  obtain ⟨t, run, parts⟩ := tapStateChange_framed s
  refine ⟨t, run, parts, ?_⟩
  cases run
  rw [if_pos ⟨hst, port⟩]
  dsimp only
  by_cases st : s.ctl.st = .run
  · rw [if_pos (by simp [inRun, st])]
    exact ⟨by simp, fun _ r => raise_inEffect _ _ (fromStartup_st hst) r.room, fun ne => absurd st ne⟩
  · rw [if_neg (by simp [inRun, st])]
    exact ⟨rfl, fun run => absurd run st, fun _ => by simp [onlyWrites_iff]⟩

theorem fuseSettle_array (s : State) : (fuseSettle s).fuses.array = s.fuses.array := by
  unfold fuseSettle
  dsimp only
  split <;> simp

theorem programWord_array (w j : Nat) (v : Word) (s : State) : tget {} (programWord w v s).fuses.array j =
    if j = w then (tget {} s.fuses.array w).blow (flagWords.contains w) v else tget {} s.fuses.array j := tget_tset ..

theorem jtagFuseProgram_programs {s : State} (port : debugOpen s = true) (w : Nat) (v : Word) (hst : s.ctl.st ≠ .reset)
    (sensed : s.ctl.step ≠ .fuseSense) : Completes (.jtagFuseProgram [(w, v)] []) s (fun t =>
      OnlyWrites (writes (.jtagFuseProgram [(w, v)] [])) s t
      ∧ (if jtagWord s w then (tget {} t.fuses.array w).value = (tget {} s.fuses.array w).value ||| v
        else t.fuses.array = s.fuses.array)
      ∧ ∀ j, j ≠ w → tget {} t.fuses.array j = tget {} s.fuses.array j) := by
  obtain ⟨t, run, parts⟩ := jtagFuseProgram_framed [(w, v)] [] s
  refine ⟨t, run, parts, ?_⟩
  cases run
  have guard : s.ctl.st ≠ .reset ∧ s.ctl.step ≠ .fuseSense ∧ debugOpen s = true := ⟨hst, sensed, port⟩
  rw [if_pos guard]
  dsimp only [List.foldl_cons, List.foldl_nil]
  rw [fuseSettle_array]
  split
  · refine ⟨?_, fun j ne => ?_⟩
    · rw [programWord_array, if_pos rfl]
      rfl
    · rw [programWord_array, if_neg ne]
  · exact ⟨rfl, fun _ _ => rfl⟩

/-- Settles O22: a reading enters its register before the fault is raised or its condition ends, and neither touches the
Ledger's state. -/
theorem temperaturesHoldupAndDebugPort : Obligations.TemperaturesHoldupAndDebugPort := by
  unfold Obligations.TemperaturesHoldupAndDebugPort
  intro s
  exact ⟨fun hst => ⟨fun d v hd hot => dieTemperatureWarning_raises hst hd hot,
      fun f v hp hot => fDieOvertemperature_raises hst hp hot, fun v hot => cDieOvertemperature_raises hst hot,
      fun d v hd cool => dieTemperatureClear_ends hst hd cool, fun mv low => vholdLow_raises hst low⟩,
    fun mv hst charged => vholdCharged_ends hst charged, fun mv charging short => vholdShortDetected_stops charging short,
    holdupExhausted_stops, fun port => ⟨tapStateChange_seen port, jtagFuseProgram_programs port⟩⟩

end Sys2Proof.Machine

end

section
/-! PROOFS. Power-up, RESET_N low and the release from RESET. -/

namespace Sys2Proof.Machine

/-! ### Power-up and the release from RESET (R61, R62, R77, R83, R84) -/

theorem powerUp_settles {s : State} (st : s.ctl.st = .reset) (waits : s.ctl.released = false) :
    Completes .powerUp s (fun t => t = { s with ctl := { s.ctl with released := true } }) :=
  ⟨_, rfl, if_pos ⟨st, by simp [waits]⟩⟩

/-- What the loss of the supplies leaves of the NAND part, whether it cut a flush short or not. -/
theorem dropFlush_ite_led (p : Prop) [Decidable p] (s : State) :
    (if p then dropFlush s else s).led.ring = s.led.ring ∧ (if p then dropFlush s else s).led.slotA = s.led.slotA
    ∧ (if p then dropFlush s else s).led.slotB = s.led.slotB
    ∧ (if p then dropFlush s else s).led.backup = s.led.backup := by
  split
  · rw [dropFlush_led]
    exact ⟨rfl, rfl, rfl, rfl⟩
  · exact ⟨rfl, rfl, rfl, rfl⟩

theorem powerUp_colds {s : State} (st : s.ctl.st ≠ .reset) : Completes .powerUp s (fun t =>
    t.ctl.st = .reset ∧ t.ctl.released = true ∧ t.ctl.boot = 0xF ∧ t.fuses.array = s.fuses.array
      ∧ t.fuses.dies = s.fuses.dies ∧ t.fuses.shadow = [] ∧ t.led.ring = s.led.ring
      ∧ t.led.slotA = s.led.slotA ∧ t.led.slotB = s.led.slotB ∧ t.led.backup = s.led.backup
      ∧ t.cfg = {} ∧ t.dict = {} ∧ t.col = {} ∧ t.proc = {} ∧ t.outs = {} ∧ t.array = {} ∧ t.time = {}) := by
  obtain ⟨ring, slotA, slotB, backup⟩ := dropFlush_ite_led (s.led.state = 2) s
  have fuses : (if s.led.state = 2 then dropFlush s else s).fuses = s.fuses := by simp
  have array := congrArg Fuses.array fuses
  have dies := congrArg Fuses.dies fuses
  refine ⟨_, rfl, ?_⟩
  rw [if_neg fun h => st h.1]
  exact ⟨rfl, rfl, rfl, array, dies, rfl, ring, slotA, slotB, backup,
    rfl, rfl, rfl, rfl, rfl, rfl, rfl⟩

theorem ledgerNote_modes (ty rank code : Nat) (data : List Byte) (s : State) :
    modes (ledgerNote ty rank code data s) = modes s := ledgerPut_modes ..

theorem moveTo_modes (b : DevState) (cause who : Nat) (s : State) : modes (moveTo b cause who s) = modes s :=
  ledgerNote_modes ..

theorem slots_of_modes {s t : State} (h : modes t = modes s) :
    t.led.slotA = s.led.slotA ∧ t.led.slotB = s.led.slotB :=
  ⟨congrArg (fun m => m.1.2.2.1) h, congrArg (fun m => m.1.2.2.2) h⟩

theorem resetExit_releases {s : State} (nv : Bool) (st : s.ctl.st = .reset) (released : s.ctl.released = true)
    (flushed : s.led.state ≠ 2) : Completes (.resetExit nv) s (fun t =>
      t.ctl.st = .fuseSense ∧ t.ctl.step = .fuseSense ∧ t.ctl.boot = 1 ∧ t.ctl.nvsel33 = nv
        ∧ t.power.charging = true ∧ t.ctl.transitions = inc32 s.ctl.transitions ∧ t.ctl.lastWord = 0x00010100
        ∧ t.fuses.array = s.fuses.array ∧ t.led.slotA = s.led.slotA ∧ t.led.slotB = s.led.slotB) := by
  refine ⟨_, rfl, ?_⟩
  dsimp only
  rw [if_pos ⟨st, released, flushed⟩]
  generalize hw : warmState _ = w
  have fuses : (moveTo .fuseSense 1 0 w).fuses = w.fuses := by simp
  obtain ⟨slotA, slotB⟩ := slots_of_modes (moveTo_modes .fuseSense 1 0 w)
  dsimp only
  rw [moveTo_ctl, fuses, slotA, slotB]
  have word : transitionWord .reset .fuseSense 1 0 = 0x00010100 := by decide
  subst hw
  exact ⟨rfl, rfl, rfl, rfl, rfl, rfl, word, rfl, rfl, rfl⟩

theorem resetExit_waits {s : State} (nv : Bool) (released : s.ctl.released = false) :
    Completes (.resetExit nv) s (fun t => t = { s with ctl := { s.ctl with resetNLow := false } }) :=
  ⟨_, rfl, if_neg (by simp [released])⟩

/-! ### RESET_N low (R49, R82) -/

theorem resetNFall_in_reset {s : State} (st : s.ctl.st = .reset) : Completes .resetNFall s
    (fun t => t = { s with ctl := { s.ctl with resetNLow := true } }) := by
  refine ⟨_, rfl, ?_⟩
  rw [st]

/-- The control registers without the request that waits. -/
def unasked (s : State) : Ctl := { s.ctl with request := none }

theorem unasked_of_ctl {s t : State} (h : t.ctl = s.ctl) : unasked t = unasked s := by rw [unasked, unasked, h]

theorem reactAtOnce_unasked (lvl src : Nat) (s : State) : unasked (reactAtOnce lvl src s) = unasked s := by
  unfold reactAtOnce
  dsimp only
  (repeat' split) <;> rfl

theorem enter_unasked (a : Report) (force : Bool) (s : State) : unasked (enter a force s) = unasked s :=
  unasked_of_ctl (by simp)

theorem takeOver_unasked (lvl : Nat) (a : Report) (s : State) : unasked (takeOver lvl a s) = unasked s := by
  unfold takeOver
  split
  · rw [enter_unasked, reactAtOnce_unasked, reactAtOnce_unasked]
    exact unasked_of_ctl (by simp)
  · exact unasked_of_ctl (by simp)

/-- A report that is taken discards at most the request that waits. -/
theorem take_unasked (a : Report) (force : Bool) (s : State) : unasked (take a force s) = unasked s := by
  unfold take
  split
  · rfl
  refine Eq.trans ?_ (unasked_of_ctl (show (unrecover a s).ctl = s.ctl by simp))
  dsimp only
  split
  · rw [takeIn, reactAtOnce_unasked, enter_unasked]
  · exact takeOver_unasked ..

theorem abandonItem_take (n : Nat) (s : State) : abandonItem n s = s ∨ ∃ u, u.ctl = s.ctl ∧ u.led = s.led
    ∧ abandonItem n s = take (momentary (report u 0x0E1A (itemSrc n))) false u := by
  unfold abandonItem
  split
  · exact .inr ⟨_, by dsimp only; simp, by dsimp only; simp, rfl⟩
  · exact .inl rfl

theorem abandonItem_unasked (n : Nat) (s : State) : unasked (abandonItem n s) = unasked s := by
  rcases abandonItem_take n s with same | ⟨u, ctl, -, taken⟩
  · rw [same]
  · rw [taken, take_unasked, unasked_of_ctl ctl]

theorem abandonItem_mode (n : Nat) (s : State) : (abandonItem n s).led.mode = s.led.mode := by
  rcases abandonItem_take n s with same | ⟨u, -, led, taken⟩
  · rw [same]
  · rw [taken, take_mode, led]

theorem abandonAll_unasked (s : State) : unasked (abandonAll s) = unasked s :=
  fold_same unasked _ _ (fun s n => abandonItem_unasked n s) s

theorem abandonAll_mode (s : State) : (abandonAll s).led.mode = s.led.mode :=
  fold_same (fun s => s.led.mode) _ _ (fun s n => abandonItem_mode n s) s

theorem sessionNote_modes (code kind who : Nat) (s : State) : modes (sessionNote code kind who s) = modes s :=
  ledgerNote_modes ..

/-- Halting the cores of a list halts them, and starts none. -/
theorem halted_foldl (l : List Nat) {t : Table CoreSt} {k : Nat} (h : k ∈ l ∨ (tget {} t k).role = .halted) :
    (tget {} (l.foldl (fun t k => tmod {} t k (fun c => { c with role := .halted })) t) k).role = .halted := by
  induction l generalizing t with
  | nil => exact h.resolve_left (by simp)
  | cons i l ih =>
    by_cases later : k ∈ l
    · exact ih (.inl later)
    refine ih (.inr ?_)
    rw [tget_tmod]
    split
    · rfl
    · next ne =>
      refine h.resolve_left fun mem => ?_
      exact (List.mem_cons.1 mem).elim ne later

/-- Changes of cores that start no halted one leave a halted core so. -/
theorem halted_foldl_kept {g : Nat → CoreSt → CoreSt} (hg : ∀ i c, c.role = .halted → (g i c).role = .halted)
    (l : List Nat) {t : Table CoreSt} {k : Nat} (h : (tget {} t k).role = .halted) :
    (tget {} (l.foldl (fun t i => tmod {} t i (g i)) t) k).role = .halted := by
  induction l generalizing t with
  | nil => exact h
  | cons i l ih =>
    refine ih ?_
    rw [tget_tmod]
    split
    · next e => exact hg i _ (e ▸ h)
    · exact h

/-- A halted core is none of those that stand by again. -/
theorem coreBack_halted {k : Nat} {s : State} (h : (core s k).role = .halted) : (core (coreBack s) k).role = .halted := by
  unfold coreBack core
  dsimp only
  generalize upto 4 = l
  refine halted_foldl_kept (fun i c hc => ?_) l h
  rw [if_neg (by simp [hc])]
  exact hc

theorem core_of_proc {s t : State} (h : t.proc = s.proc) (k : Nat) : core t k = core s k := by rw [core, core, h]

theorem gone_halted {k : Nat} {s : State} (code src : Nat) (h : (core s k).role = .halted) :
    (core (gone code src s) k).role = .halted := by
  unfold gone clearRecords
  dsimp only
  split
  · exact coreBack_halted (by rw [core_of_proc (s := s) (by simp)]; exact h)
  · exact h

/-- A halted core stays so as switches move. -/
theorem settles_halted (k : Nat) : Settles (fun s => (core s k).role = .halted) where
  outs _ _ hs := hs
  learn s el g hs := by rw [core_of_proc (s := s) (by simp)]; exact hs
  put s r hs := by rw [core_of_proc (s := s) (by simp)]; exact hs
  gone _ c x _ hs := gone_halted c x hs

theorem flushStart_state {code : Nat} {s : State} (h : s.led.state = 1) : (flushStart code s).led.state = 2 := by
  unfold flushStart
  rw [if_pos h]
  rfl

/-- The flush writes the Ledger alone, and the move of the switches no control register and no part of the dictionary. -/
theorem flushStart_settleAll (s : State) : (flushStart 0 (settleAll s)).ctl = s.ctl
    ∧ (flushStart 0 (settleAll s)).dict = s.dict ∧ (flushStart 0 (settleAll s)).proc = (settleAll s).proc
    ∧ (flushStart 0 (settleAll s)).col = (settleAll s).col := by
  simp

/-- What RESET_N low ends while the device is still in its state: tests, an injection and the session (R82). -/
def resetEnded (s : State) : State :=
  let s := cutMech (endInjection (abandonAll s))
  let x := s.dict.session
  let s := if x.state = 2 ∨ x.state = 3 then sessionNote 2 x.kind ((x.holder.map (·.code)).getD 0) s else s
  modStaging (fun y => { y.drop with running := 0, image := none, closing := false }) (modSession Session.clear s)

/-- The entry into RESET, with the cores and the Curfew pattern stopped (R82). -/
def resetEntered (s : State) : State :=
  let s := moveTo .reset Config.resetCause.toNat 0 s
  { s with
    ctl := { s.ctl with
      boot := 0xF, step := .none, hold := false, resetNLow := true, resetLatch := s.ctl.released }
    col := { s.col with curfew := popMask s }
    proc := { s.proc with
      running := false
      cores := (upto 4).foldl (fun t k => tmod {} t k (fun c => { c with role := .halted })) s.proc.cores } }

theorem exec_resetNFall {s : State} (st : s.ctl.st ≠ .reset) :
    exec .resetNFall s = .next (flushStart 0 (settleAll (resetEntered (resetEnded s)))) := by
  refine congrArg Host.Outcome.next ?_
  split
  · next e => exact absurd e st
  · rfl

/-- Of the device state, the waiting request alone may go before the entry into RESET. -/
theorem resetEnded_unasked (s : State) : unasked (resetEnded s) = unasked s := by
  rw [← abandonAll_unasked s]
  exact unasked_of_ctl (by simp [resetEnded])

theorem resetEnded_mode (s : State) : (resetEnded s).led.mode = s.led.mode := by
  have cut (u : State) : (cutMech (endInjection u)).led.mode = u.led.mode := by simp
  unfold resetEnded
  exact (mode_of_modes (ite_same modes (sessionNote_modes ..) rfl)).trans ((cut _).trans (abandonAll_mode s))

theorem resetEnded_time (s : State) : (resetEnded s).time = s.time := by simp [resetEnded]

theorem resetEnded_fuses (s : State) : (resetEnded s).fuses = s.fuses := by simp [resetEnded]

theorem resetEntered_ctl (s : State) : (resetEntered s).ctl = { s.ctl with
    st := .reset, request := none, lastWord := transitionWord s.ctl.st .reset Config.resetCause.toNat 0
    lastTime := s.time.dev, boot := 0xF, step := .none, hold := false, resetNLow := true
    resetLatch := s.ctl.released } := by
  simp [resetEntered, moveTo_ctl]

theorem resetEntered_halted (s : State) {k : Nat} (h : k < 4) : (core (resetEntered s) k).role = .halted :=
  halted_foldl (upto 4) (.inl (List.mem_range.2 h))

theorem resetEntered_curfew (s : State) : (resetEntered s).col.curfew = popMask s := by
  simp [resetEntered, popMask]

theorem resetEntered_mode (s : State) : (resetEntered s).led.mode = s.led.mode :=
  mode_of_modes (t := moveTo .reset Config.resetCause.toNat 0 s) (moveTo_modes ..)

theorem resetEntered_dict (s : State) : (resetEntered s).dict = s.dict := by simp [resetEntered]

theorem resetNFall_falls {s : State} (st : s.ctl.st ≠ .reset) : Completes .resetNFall s (fun t =>
    OnlyWrites (writes .resetNFall) s t ∧ t.ctl.st = .reset ∧ t.ctl.resetNLow = true ∧ t.ctl.boot = 0xF
      ∧ t.ctl.request = none ∧ t.ctl.transitions = s.ctl.transitions ∧ t.ctl.lastTime = s.time.dev
      ∧ t.dict.session.state = 0 ∧ t.dict.session.holder = none ∧ t.proc.running = false
      ∧ (∀ k, k < 4 → (core t k).role = .halted) ∧ (∀ f, populated s f = true → bit t.col.curfew f = true)
      ∧ (s.led.state = 1 → t.led.state = 2)) := by
  obtain ⟨t, run, parts⟩ := resetNFall_framed s
  refine ⟨t, run, parts, ?_⟩
  rw [exec_resetNFall st] at run
  cases run
  have count : (unasked (resetEnded s)).transitions = (unasked s).transitions := by rw [resetEnded_unasked]
  have settled : modes (settleAll (resetEntered (resetEnded s))) = modes (resetEntered (resetEnded s)) :=
    (settles_modes _).settleAll rfl
  obtain ⟨ctl, dict, proc, col⟩ := flushStart_settleAll (resetEntered (resetEnded s))
  rw [ctl, dict, proc, col, settleAll_running, resetEntered_ctl, resetEntered_dict, resetEnded_time]
  refine ⟨rfl, rfl, rfl, rfl, count, rfl, rfl, rfl, rfl, fun k hk => ?_, fun f hf => ?_, fun mounted => ?_⟩
  · rw [core_of_proc proc]
    exact (settles_halted k).settleAll (resetEntered_halted _ hk)
  · have curfew : (settleAll (resetEntered (resetEnded s))).col.curfew = popMask s := by
      rw [← show popMask (resetEnded s) = popMask s by rw [popMask, popMask, resetEnded_fuses], ← resetEntered_curfew]
      exact congrArg Prod.snd settled
    rw [curfew]
    simp only [populated, Bool.and_eq_true] at hf
    exact hf.2
  · refine flushStart_state (Eq.trans ?_ mounted)
    exact congrArg Prod.fst ((mode_of_modes settled).trans ((resetEntered_mode _).trans (resetEnded_mode s)))

/-- Settles O18: what a reset ends, stops and keeps, command by command; RESET_N low halts the cores and stops the Curfew
pattern before the switches move, which starts neither again. -/
theorem resetAndRelease : Obligations.ResetAndRelease := by
  unfold Obligations.ResetAndRelease
  intro s
  exact ⟨powerUp_settles, powerUp_colds, resetNFall_falls, resetNFall_in_reset, resetExit_releases,
    fun nv _ released => resetExit_waits nv released⟩

end Sys2Proof.Machine

end

section
/-! PROOFS. The discrepancy deadline of an entry whose 0x0109 is recorded at a level that clears itself. -/

namespace Sys2Proof.Machine

/-! ### The timers of the pair table (O39) -/

/-- A record of 0x0109 for input 1 with input 0 as its second terminal, present and not cleared, at an applied level of
L1. A commit writes it at L2 or above (R194, R334); the statement asks nothing of the records that the state holds. -/
def discOffAtL1 : Record where
  time := 0
  code := 0x0109
  level := 1
  defined := 2
  source := 1
  second := 0
  seq := 1

/-- A device in SAFE with entry 1, an equivalent pair on inputs 0 and 1 of site 0. Both inputs are OFF; lane A still waits
for its deadline in WAIT_OFF, led by channel 1. -/
def waitOffBothInactive : State where
  ctl := { st := .safe }
  cfg := { nums := [(okey 0x3E01 1, 1), (okey 0x3E01 2, 0), (okey 0x3E01 3, 1)] }
  pairs := [(1, { a := { code := 3 } })]
  col := { records := [discOffAtL1] }

/-- At the deadline the condition of 0x0109 is present, so it is not raised again; with both channels inactive it is gone
in the same tick (R194), and a record of L1 is cleared with its condition (R346). -/
theorem discrepancyDeadline_waitOffBothInactive : ∃ t, exec (.discrepancyDeadline 1 .a) waitOffBothInactive = .next t
    ∧ faultActive t 0x0109 1 = false :=
  ⟨_, rfl, by decide +kernel⟩

/-- Refutes O39, in its clause on DISC_OFF: where a 0x0109 of the channel is already recorded at L1 and both channels are
inactive at the deadline, the deadline leaves no 0x0109 in effect. -/
theorem not_pairTimers : ¬ Obligations.PairTimers := by
  unfold Obligations.PairTimers
  intro h
  obtain ⟨-, discOff, -⟩ := h waitOffBothInactive 1 rfl (by decide +kernel)
  obtain ⟨t, run, -, -, raised⟩ := discOff .a rfl rfl (by decide +kernel) (by decide +kernel)
  have few : (doorsOf (confOf waitOffBothInactive) 1).length ≤ 16 := by decide +kernel
  have room : roomy waitOffBothInactive := by unfold roomy; decide +kernel
  have active : faultActive t 0x0109 1 = true := raised few room
  obtain ⟨u, run', cleared⟩ := discrepancyDeadline_waitOffBothInactive
  rw [run] at run'
  cases run'
  rw [active] at cleared
  cases cleared

end Sys2Proof.Machine

end
